-- ==== Sys2Proof/Word.lean ====
section
/-! DEFINITION. The word types of the link, the sound store and keep memory (11 R189). -/

namespace Sys2Proof

/-- A byte of a frame, of the sound store or of keep memory. -/
abbrev Byte := BitVec 8

/-- A 2-byte field as it is carried (little-endian on the link). -/
abbrev Half := BitVec 16

/-- A 3-byte field as it is carried. -/
abbrev Triple := BitVec 24

/-- A 4-byte field as it is carried. -/
abbrev Quad := BitVec 32

end Sys2Proof
end

