-- ==== Sys2Proof/Syntax.lean ====
section
/-! DEFINITION. The commands: one constructor of `Instr` per row of spec/opcode_table.json. A request row stands
for the completion of a well-formed frame of its kind, with the payload fields of 11 R190 (log 7). Field types are
the widths the fields are carried in, so every value the link can carry is a value of the operand. -/

namespace Sys2Proof

/-- What a request frame carries besides its payload fields: the tag (R172), and whether its payload was longer
than needed (R175, Excess). -/
structure ReqHead where
  tag : Byte
  extra : Bool
  deriving DecidableEq, Repr

/-- VOICE-START's payload (R190). -/
structure VoiceStartFields where
  voice : Byte
  priority : Byte
  format : Byte
  start : Triple
  length : Triple
  loopStart : Triple
  loopLength : Triple
  step : Triple
  startGain : Half
  targetGain : Half
  ramp : Half
  marker0 : Quad
  marker1 : Quad
  deriving DecidableEq, Repr

/-- VOICE-ADJUST's payload (R190). -/
structure VoiceAdjustFields where
  voice : Byte
  generation : Half
  changes : Byte
  step : Triple
  targetGain : Half
  ramp : Half
  marker0 : Quad
  marker1 : Quad
  pause : Byte
  deriving DecidableEq, Repr

/-- ENTRY-ADD's payload: a day-table entry's bytes 0..13 less its state byte (R190, R192). -/
structure EntryFields where
  id : Byte
  kind : Byte
  actionPresent : Byte
  target : Quad
  tag : Half
  pattern : Byte
  layer : Byte
  priority : Byte
  scale : Byte
  deriving DecidableEq, Repr

/-- One step of a pattern record as carried (R191). -/
structure StepFields where
  target : Byte
  duration : Byte
  flags : Byte
  deriving DecidableEq, Repr

/-- PATTERN-DEFINE's payload (R190, R191). -/
structure PatternFields where
  slot : Byte
  stepCount : Byte
  repeats : Byte
  returnStep : Byte
  revision : Byte
  steps : List StepFields
  deriving DecidableEq, Repr

/-- CUE-ARM's payload (R190). -/
structure CueFields where
  cue : Byte
  firstVoice : Byte
  firstMarker : Byte
  secondPresent : Byte
  secondVoice : Byte
  secondMarker : Byte
  pattern : Byte
  layer : Byte
  priority : Byte
  scale : Byte
  deriving DecidableEq, Repr

/-- The commands of the part, in the order of spec/opcode_table.json. Voltages are in millivolts. -/
inductive Instr where
  /-- R170: a fall of SEL. -/
  | windowOpen
  /-- R171: a rise of SEL. -/
  | windowClose
  /-- R172: the byte transfer that takes the check byte `din` of a frame. -/
  | frameCompletion (din : Byte)
  /-- R170: the byte transfer that clocks out the held reply's last byte, with `din` shifted in. -/
  | replyCollected (din : Byte)
  | hello (h : ReqHead)
  | resetActive (h : ReqHead)
  | watchSet (h : ReqHead) (members : Triple)
  | watchRead (h : ReqHead)
  | reasonsTakeGroups (h : ReqHead) (groups : Byte)
  | reasonsTakeSummary (h : ReqHead) (groups : Byte)
  | await (h : ReqHead) (members : Triple) (limit : Half)
  /-- R167: the limit of the held AWAIT expires. -/
  | awaitExpiry
  | voiceStart (h : ReqHead) (f : VoiceStartFields)
  | voiceAdjust (h : ReqHead) (f : VoiceAdjustFields)
  | voiceStopImmediate (h : ReqHead) (voice : Byte) (generation : Half) (ramp : Half)
  | voiceStopRelease (h : ReqHead) (voice : Byte) (generation : Half) (ramp : Half)
  | voiceQuery (h : ReqHead) (voice : Byte)
  | mixSet (h : ReqHead) (gain : Half) (hold : Byte)
  /-- R19: a mix block boundary. -/
  | mixBlockBoundary
  /-- R8: the mix block boundary at which `voice` reaches the priming limit (log 9). -/
  | primingLimit (voice : Nat)
  /-- R17: the mix block boundary whose close turns the amplifier OFF (log 9). -/
  | amplifierIdleOff
  /-- R31: the fetch in flight completes with the bytes `data` from the store, the cell pin at `cellMv`. -/
  | fetchCompletion (data : List Byte) (cellMv : Nat)
  | slotOpen (h : ReqHead) (slot : Byte) (seed : Byte)
  | seedingCompletion
  | slotWrite (h : ReqHead) (slot : Byte) (offset : Half) (count : Byte) (data : List Byte)
  | slotCommit (h : ReqHead) (slot : Byte) (length : Half) (crc : Half)
  | verifyEnd
  | flip
  | slotErase (h : ReqHead) (slot : Byte)
  | slotAbort (h : ReqHead) (slot : Byte)
  | slotRead (h : ReqHead) (slot : Byte) (offset : Half) (count : Byte) (generation : Quad)
  | slotList (h : ReqHead)
  /-- R71: the scrub of one slot ends; the cell pin is at `cellMv` (R145, should WAKING reach its stage 8). -/
  | scrubSlotEnd (cellMv : Nat)
  /-- R75: a second ends; the cell pin is at `cellMv` (R145, should it be a rollover). -/
  | secondEnd (cellMv : Nat)
  | crystalStopFound
  | crystalEdgeReturn
  | clockRead (h : ReqHead)
  | clockSet (h : ReqHead) (year : Half) (month day hour minute second : Byte)
  | clockNudge (h : ReqHead) (amount : Half)
  | clockTrim (h : ReqHead) (value : Half)
  | entryAdd (h : ReqHead) (f : EntryFields)
  | entryDrop (h : ReqHead) (id : Byte)
  | entryList (h : ReqHead) (first : Byte)
  | firedTake (h : ReqHead) (count : Byte)
  | daysRead (h : ReqHead)
  | patternDefine (h : ReqHead) (f : PatternFields)
  | rumblePlay (h : ReqHead) (layer pattern priority scale : Byte)
  | rumbleStop (h : ReqHead) (layer : Byte)
  | rumbleQuery (h : ReqHead)
  /-- R125: a rumble tick. -/
  | rumbleTick
  /-- R126: the rumble tick at which `layer` completes its step (log 9). -/
  | layerStepEnd (layer : Nat)
  | cueArm (h : ReqHead) (f : CueFields)
  | cueDisarm (h : ReqHead) (cue : Byte)
  | standbyEnter (h : ReqHead)
  | budgetRead (h : ReqHead)
  /-- R141: the console supply comes to `supplyMv`, the cell pin being at `cellMv` (R145, should a deferred
  rollover run). -/
  | supplyClassChange (supplyMv cellMv : Nat)
  /-- R144: the console supply falls to `supplyMv`, below 2.50 V. -/
  | consolePowerLost (supplyMv : Nat)
  /-- R140: the console supply rises to `supplyMv`, at or above 2.50 V. -/
  | consolePowerReturn (supplyMv : Nat)
  | keepSignatureCheck
  /-- R87: stage 3 of WAKING ends; `edge` says whether a crystal edge was seen. -/
  | crystalCheckEnd (edge : Bool)
  | fullFormatEnd
  | slotFormatEnd
  /-- R170: a byte transfer with `din` shifted in. -/
  | byteTransfer (din : Byte)
  deriving DecidableEq, Repr

end Sys2Proof
end

