-- ==== Sys2Proof/Decode.lean ====
section
/-! DEFINITION. The decoding of a table word. No row of spec/opcode_table.json gives bits (each row's "fields" is
empty), so a word spells no command. The part's own decoding, of request frames, is in
Sys2Proof/Machine/Frames.lean. -/

namespace Sys2Proof

/-- The command that a word spells by the table's bits: none, since no row gives any (log 21). -/
def decodeTableWord (_nbits _w : Nat) : Option Instr := none

end Sys2Proof
end

