-- ==== Sys2Proof/Config.lean ====
section
/-! DEFINITION. The part's constants: capacities, thresholds, shares and durations, as the introduction's
capacity table and the rules give them. Times are in eighths of a microsecond (log 10). -/

namespace Sys2Proof.Config

/-- One microsecond in model time. -/
abbrev usec : Nat := 8
/-- One millisecond in model time. -/
abbrev msec : Nat := 8000
/-- R19: a mix block lasts 1/512 s. -/
abbrev mixBlock : Nat := 15625
/-- R61: SETTLING lasts 4 ms. -/
abbrev settleTime : Nat := 4 * msec
/-- R55, R58: a copy or verify handles one byte each 0.5 µs. -/
abbrev byteTime : Nat := 4
/-- R181: the keep signature check takes 8 µs. -/
abbrev signatureTime : Nat := 8 * usec
/-- R71: reading and checking a face header takes 16 µs. -/
abbrev headerTime : Nat := 16 * usec
/-- R185, R186: a format ends 1 ms after it begins, fence waits aside. -/
abbrev formatTime : Nat := msec
/-- R77: the monitor window, 1/256 s by the reference oscillator, taken at its nominal rate (log 11). -/
abbrev monitorWindow : Nat := 31250

/-- R74: the largest seconds count. -/
abbrev maxSeconds : Nat := 3155759999
/-- R139: base draw B in mA. -/
abbrev baseDraw : Nat := 12

/-- R141: WARN is entered below 3.00 V. Thresholds are in millivolts. -/
abbrev warnBelow : Nat := 3000
/-- R141: WARN is left at 3.10 V. -/
abbrev warnClears : Nat := 3100
/-- R141: FENCE is entered below 2.80 V. -/
abbrev fenceBelow : Nat := 2800
/-- R141: FENCE is left at 2.90 V. -/
abbrev fenceClears : Nat := 2900
/-- R140: console power is lost below 2.50 V. -/
abbrev powerBelow : Nat := 2500
/-- R145: the cell is LOW below 2.60 V. -/
abbrev cellBelow : Nat := 2600
/-- R145: the cell is GOOD again at 2.70 V. -/
abbrev cellClears : Nat := 2700

/-- Section 3.1: keep memory holds addresses 0..131,071. -/
abbrev keepSize : Nat := 131072
/-- Section 3.1: the slot-half area begins at keep address 4,096. -/
abbrev slotArea : Nat := 4096

/-- DESIGN CHOICE (log 2): the supply pin at reset, the lowest voltage at which the part runs. -/
abbrev resetSupplyMv : Nat := 2500
/-- DESIGN CHOICE (log 2): the cell pin at reset, a fresh lithium cell. -/
abbrev resetCellMv : Nat := 3000

end Sys2Proof.Config
end

