-- ==== Sys2Proof/Machine/State.lean ====
section
/-! DEFINITION. The state of the part, block by block, and its value at reset. Counts are `Nat` and gains `Int`
within the ranges the rules give; generations wrap and are bit vectors; sets are bit masks. -/

namespace Sys2Proof.Machine

/-! ### Attention members (R157) -/

/-- R157: the 22 members, in member-number order. -/
inductive Member where
  | voiceEnd | voiceStarved | marker | clip
  | saveDone | saveFailed | keepFormatted | slotDamaged
  | dayTurn | clockRewound | firedWaiting | clockInvalid
  | cueFired | cueLapsed | patternEnded | patternMissing
  | supplyWarn | supplyFence | cellLow | profileDefault
  | frameFault | replyLost
  deriving DecidableEq, Repr

/-- A set of members: bit k is member k (R189). -/
abbrev MemberSet := BitVec 22

/-- R157: the latest cause of SAVE_FAILED. -/
inductive SaveCause where
  | mismatch | power
  deriving DecidableEq, Repr

/-- R157: the detail of KEEP_FORMATTED, and the kinds of format (R180). -/
inductive FormatKind where
  | full | slots
  deriving DecidableEq, Repr

/-- R157: the latest cause of CUE_LAPSED. -/
inductive LapseCause where
  | voice | blocked
  deriving DecidableEq, Repr

/-- R157: the latest cause of FRAME_FAULT. -/
inductive FaultCause where
  | abandoned | length | check
  deriving DecidableEq, Repr

/-- R157, R158: the details of the members that have one; an empty detail is 0 or none. -/
structure Details where
  voiceEnd : BitVec 8 := 0
  voiceStarved : BitVec 8 := 0
  marker : BitVec 16 := 0
  clip : Nat := 0
  saveDone : BitVec 8 := 0
  saveFailed : BitVec 8 := 0
  saveCause : Option SaveCause := none
  keepFormatted : Option FormatKind := none
  slotDamaged : BitVec 8 := 0
  dayTurn : Nat := 0
  clockRewound : Nat := 0
  firedWaiting : Nat := 0
  cueFired : BitVec 8 := 0
  cueLapsed : BitVec 8 := 0
  lapseCause : Option LapseCause := none
  patternEnded : BitVec 8 := 0
  patternMissing : Option Nat := none
  frameFault : Nat := 0
  faultCause : Option FaultCause := none
  replyLost : Nat := 0
  lostKind : Option Byte := none
  deriving DecidableEq, Repr

/-- R158 to R162: the Attention Unit. -/
structure Attention where
  /-- The event latch of an event member, the rose latch of a condition. -/
  latch : MemberSet := 0
  /-- R159: the level of a condition. -/
  level : MemberSet := 0
  /-- R160. -/
  woke : MemberSet := 0
  /-- R161. -/
  watch : MemberSet := 0
  details : Details := {}
  /-- R161: asserted (the part pulls ATTN low). -/
  attn : Bool := false
  deriving DecidableEq, Repr

/-! ### The Link Port (R169) -/

inductive Parser where
  | hunt | frame
  deriving DecidableEq, Repr

/-- R169: the frame being received. -/
structure Frame where
  length : Byte := 0
  kind : Byte := 0
  tag : Byte := 0
  payload : List Byte := []
  deriving DecidableEq, Repr

/-- R166: a held AWAIT. Its frame's tag and excess are kept for the reply formed later (R175, R176). -/
structure PendingAwait where
  members : MemberSet
  arrival : Nat
  expiry : Nat
  tag : Byte
  extra : Bool
  deriving DecidableEq, Repr

structure LinkPort where
  window : Bool := false
  parser : Parser := .hunt
  extent : Nat := 0
  taken : Nat := 0
  frame : Frame := {}
  held : Option (List Byte) := none
  outgoing : Bool := false
  sent : Nat := 0
  await : Option PendingAwait := none
  pendingReset : Bool := false
  /-- The byte the part shifted out on DOUT in the last byte transfer (R170, log 24). -/
  dout : Byte := 0
  deriving DecidableEq, Repr

/-! ### The Sound Engine (R1, R2) -/

inductive VoiceState where
  | idle | priming | playing | paused | releasing
  deriving DecidableEq, Repr

inductive SampleFormat where
  | pcm8 | pcm16
  deriving DecidableEq, Repr

/-- R1: a marker that is present. -/
structure Marker where
  index : Nat
  report : Bool
  deriving DecidableEq, Repr

/-- R1: a voice record. -/
structure Voice where
  state : VoiceState := .idle
  generation : BitVec 8 := 0
  priority : Nat := 0
  age : Nat := 0
  format : SampleFormat := .pcm8
  start : Nat := 0
  length : Nat := 0
  loopStart : Nat := 0
  loopLength : Nat := 0
  posInt : Nat := 0
  posFrac : Nat := 0
  step : Nat := 65536
  gain : Int := 0
  target : Int := 0
  ramp : Nat := 0
  marker0 : Option Marker := none
  marker1 : Option Marker := none
  ring : List Byte := []
  owed : Nat := 0
  fetchAddr : Nat := 0
  request : Bool := false
  starved : Bool := false
  priming : Nat := 0
  deriving DecidableEq, Repr

/-- R1, R2, R19: the voice table, the engine record and the codes of the block being output. -/
structure SoundEngine where
  voices : List Voice := List.replicate 8 {}
  master : Nat := 32767
  hold : Bool := false
  amp : Bool := false
  idleBlocks : Nat := 0
  effMaster : Nat := 0
  dac : Nat := 2048
  block : List Nat := []
  blockStart : Nat := 0
  nextBoundary : Nat := 0
  deriving DecidableEq, Repr

/-- R28: one crossing of a crossing report. -/
structure Crossing where
  voice : Nat
  marker : Nat
  generation : BitVec 8
  sample : Nat
  deriving DecidableEq, Repr

/-! ### The Store Port (R30, R39) -/

inductive Requester where
  | voice (n : Nat)
  | loader
  | powerUp
  deriving DecidableEq, Repr

/-- R30: a fetch record, with the time of its completion (R31). The generation, which R30 gives to voice fetches only, is
0 in a fetch of the loader or the power-up reader (log 5). -/
structure Fetch where
  requester : Requester
  generation : BitVec 8
  address : Nat
  size : Nat
  abandoned : Bool
  due : Nat
  deriving DecidableEq, Repr

/-- R182, R191: the fields of the profile image. The default values are those of the default profile (R183), to which
R183 gives no directory address: it is 0 there (log 4). -/
structure Profile where
  gameCode : Nat := 0
  slotCount : Nat := 1
  sizes : List Nat := [8192]
  hour : Nat := 0
  minute : Nat := 0
  catchUp : Nat := 30
  setCredit : Nat := 0
  allowance : Nat := 60
  patternCount : Nat := 0
  directory : Nat := 0
  storeUnits : Nat := 16
  deriving DecidableEq, Repr

/-- R191: a pattern directory entry. -/
structure DirEntry where
  address : Nat := 0
  steps : Nat := 0
  deriving DecidableEq, Repr

/-- R39: the current load; the bytes received are those of its record buffer. -/
structure Load where
  address : Nat
  size : Nat
  buffer : List Byte
  deriving DecidableEq, Repr

structure StorePort where
  fetch : Option Fetch := none
  lastVoice : Nat := 7
  profile : Profile := {}
  directory : List DirEntry := List.replicate 64 {}
  reader : List Byte := []
  loadList : List Nat := []
  load : Option Load := none
  deriving DecidableEq, Repr

/-! ### The Save Controller (R50, R51) -/

inductive LayoutState where
  | usable | noLayout
  deriving DecidableEq, Repr

inductive SlotState where
  | empty | live | damaged
  deriving DecidableEq, Repr

inductive OpKind where
  | seed | commit | erase
  deriving DecidableEq, Repr

inductive OpPhase where
  | seeding | verifying | settling
  deriving DecidableEq, Repr

/-- R51: the operation record, with the time its phase began (R55, R58, R60). -/
structure KeepOp where
  kind : OpKind
  phase : OpPhase
  slot : Nat
  extent : Nat
  done : Nat
  length : Nat
  expected : Half
  began : Nat
  deriving DecidableEq, Repr

structure SaveController where
  layoutState : LayoutState := .usable
  /-- R50: the slot states; none before the scrub, where a slot reads as EMPTY (log 5). -/
  slots : List SlotState := []
  openSlot : Option Nat := none
  highMark : Nat := 0
  op : Option KeepOp := none
  deriving DecidableEq, Repr

/-! ### The Clock Unit (R74) -/

structure ClockUnit where
  seconds : Nat := 0
  valid : Bool := false
  divider : Nat := 0
  /-- R76: crystal cycles for which the divider still stands at 0. -/
  hold : Nat := 0
  phase : Nat := 0
  trim : Int := 0
  running : Bool := true
  deriving DecidableEq, Repr

/-! ### The Day Reckoner (R89, R96, R98, R106) -/

/-- R98: what an entry waits for. -/
inductive EntryKind where
  | onDay (target : Nat)
  | every (period phase : Nat)
  | onClock (target : Nat)
  deriving DecidableEq, Repr

/-- R98: the rumble pattern an entry starts. -/
structure Action where
  pattern : Nat
  layer : Nat
  priority : Nat
  scale : Nat
  deriving DecidableEq, Repr

/-- R98: a day-table entry. -/
structure Entry where
  id : Nat
  kind : EntryKind
  tag : Nat
  action : Option Action
  due : Bool
  accumulated : Nat
  latest : Nat
  deriving DecidableEq, Repr

/-- R106: the kind a fired record carries. -/
inductive FiredKind where
  | onDay | every | onClock
  deriving DecidableEq, Repr

/-- R106: a fired record. -/
structure Fired where
  id : Nat
  tag : Nat
  kind : FiredKind
  g : Nat
  occurrences : Nat
  late : Nat
  ran : Bool
  deriving DecidableEq, Repr

/-- R92, R96: a set of reckoning causes. -/
structure Causes where
  rollover : Bool := false
  powerUp : Bool := false
  clockSet : Bool := false
  restart : Bool := false
  deriving DecidableEq, Repr

/-- R96: the deferred reckoning record, when present. -/
structure Deferred where
  causes : Causes
  limit : Nat
  deriving DecidableEq, Repr

structure DayReckoner where
  g : Nat := 0
  l : Nat := 0
  forfeited : Nat := 0
  rewind : Nat := 0
  table : List Entry := []
  fired : List Fired := []
  deferred : Option Deferred := none
  deriving DecidableEq, Repr

/-! ### The Rumble Unit (R114 to R129) -/

/-- R114: one step of a pattern. -/
structure PatternStep where
  target : Nat
  duration : Nat
  ramp : Bool
  deriving DecidableEq, Repr

/-- R114: a pattern record; its step count is the number of its steps. -/
structure Pattern where
  repeats : Nat := 0
  returnStep : Nat := 0
  revision : Nat := 0
  steps : List PatternStep := []
  deriving DecidableEq, Repr

inductive LayerState where
  | idle | loading | running
  deriving DecidableEq, Repr

/-- R121: passes still to begin. -/
inductive Passes where
  | left (n : Nat)
  | endless
  deriving DecidableEq, Repr

/-- R121: a layer record, with the pattern record it plays (R114, log 17). -/
structure Layer where
  state : LayerState := .idle
  id : Nat := 0
  priority : Nat := 0
  scale : Nat := 0
  step : Nat := 0
  tick : Nat := 0
  passes : Passes := .left 0
  start : Nat := 0
  value : Nat := 0
  output : Nat := 0
  pattern : Pattern := {}
  deriving DecidableEq, Repr

inductive CueState where
  | unarmed | waitFirst | waitSecond
  deriving DecidableEq, Repr

/-- R129: a trigger with its captured generation. -/
structure Trigger where
  voice : Nat := 0
  marker : Nat := 0
  generation : BitVec 8 := 0
  deriving DecidableEq, Repr

/-- R129: a cue record. -/
structure Cue where
  state : CueState := .unarmed
  first : Trigger := {}
  second : Option Trigger := none
  pattern : Nat := 0
  layer : Nat := 0
  priority : Nat := 0
  scale : Nat := 0
  deriving DecidableEq, Repr

/-- R117: an entry of the pattern cache. -/
structure Cached where
  id : Nat
  pattern : Pattern
  deriving DecidableEq, Repr

/-- R125: how the tick of the boundary under way stands. `due`: the boundary's render has been taken and its tick
has not; `early`: its tick was taken before its render; `none`: neither. -/
inductive TickMark where
  | none | due | early
  deriving DecidableEq, Repr

structure RumbleUnit where
  host : List (Option Pattern) := List.replicate 8 none
  cache : List Cached := []
  layers : List Layer := List.replicate 3 {}
  cues : List Cue := List.replicate 4 {}
  phase : Nat := 0
  tick : TickMark := .none
  applied : Nat := 0
  deriving DecidableEq, Repr

/-! ### The Supply Monitor and Budget (R139, R180) -/

inductive PowerState where
  | keep | waking | active | standby
  deriving DecidableEq, Repr

inductive SupplyClass where
  | normal | warn | fence
  deriving DecidableEq, Repr

inductive CellClass where
  | good | low
  deriving DecidableEq, Repr

inductive ProfileStatus where
  | notRead | fromStore | defaulted
  deriving DecidableEq, Repr

/-- R184 to R186: a format under way: the writes made so far and the time it has run, fence waits aside. -/
structure FormatRun where
  kind : FormatKind
  made : Nat
  ran : Nat
  deriving DecidableEq, Repr

structure Supply where
  power : PowerState := .waking
  supply : SupplyClass := .fence
  cell : CellClass := .good
  allowance : Nat := 60
  u : Nat := 0
  w : Nat := 0
  settle : Bool := false
  m : Nat := 0
  audio : Nat := 0
  supplyMv : Nat := Config.resetSupplyMv
  cellMv : Nat := Config.resetCellMv
  stage : Nat := 1
  intact : Bool := true
  profileStatus : ProfileStatus := .notRead
  formatKind : Option FormatKind := none
  decided : Bool := false
  stageStart : Nat := 0
  scrubSlot : Nat := 0
  format : Option FormatRun := none
  deriving DecidableEq, Repr

/-! ### The whole part -/

/-- The state of the part. The keep domain is `keep`, `face`, `cu` and `dr` less its deferred record; the rest is
active domain (introduction, "Power domains and power states"). -/
structure State where
  lp : LinkPort
  au : Attention
  se : SoundEngine
  sp : StorePort
  sc : SaveController
  cu : ClockUnit
  dr : DayReckoner
  ru : RumbleUnit
  sb : Supply
  /-- Keep memory, in rising address, no 00h byte listed. -/
  keep : List Host.Cell
  /-- R48: bit s − 1 is slot s's face bit, clear for half A. -/
  face : BitVec 8
  /-- Model time in eighths of a microsecond (log 10). -/
  now : Nat
  /-- The commands that are waiting, first in, first out. -/
  pending : List Instr
  deriving DecidableEq, Repr

/-- The part right after power-up: WAKING stage 1 with the supply pin at 2.50 V, so in FENCE (R142), the active
domain at the values of R1, R2, R30, R39, R51, R96, R115, R117, R121, R129, R139, R162, R169 and R180. What the spec
leaves open here is said in logs 1 to 5. -/
def State.reset : State :=
  { lp := {}, au := {}, se := {}, sp := {}, sc := {}, cu := {}, dr := {}, ru := {}, sb := {},
    keep := [], face := 0, now := 0, pending := [] }

/-- Why the part could stop. The spec names no event that stops it: every request is answered by an outcome (R177)
and every event has a next state, so there is no constructor (safe: nothing is claimed of a stop). -/
inductive Fault where
  deriving DecidableEq, Repr

/-- Why a command could be turned away by the model. -/
inductive Refusal where
  /-- A row of the table that has no meaning yet. No arm of `exec` answers it (safe: the machine stops). -/
  | notModelled (mnemonic : String)
  deriving DecidableEq, Repr

/-- What one step answers. -/
abbrev Result := Host.Outcome State Fault Refusal

end Sys2Proof.Machine
end

