-- ==== Sys2Proof/Machine/Operands.lean ====
section
/-! DEFINITION. How fields are carried: byte order, sets, marker fields, check values and the codes of enumerations,
outcomes and kinds (11 R189 to R195, 09 R177). -/

namespace Sys2Proof.Machine

/-! ### Bytes (R189: little-endian) -/

/-- Byte `i` of a payload or record; a byte that is missing is 00h (R175, Shortfall). -/
def byteAt (p : List Byte) (i : Nat) : Byte := p.getD i 0

/-- The 2-byte field at offset `i`. -/
def half (p : List Byte) (i : Nat) : Half := byteAt p (i + 1) ++ byteAt p i

/-- The 3-byte field at offset `i`. -/
def triple (p : List Byte) (i : Nat) : Triple := byteAt p (i + 2) ++ half p i

/-- The 4-byte field at offset `i`. -/
def quad (p : List Byte) (i : Nat) : Quad := half p (i + 2) ++ half p i

/-- The bytes of a 2-byte field, lowest first. -/
def halfBytes (w : Half) : List Byte := [w.extractLsb' 0 8, w.extractLsb' 8 8]

/-- The bytes of a 3-byte field, lowest first. -/
def tripleBytes (w : Triple) : List Byte := [w.extractLsb' 0 8, w.extractLsb' 8 8, w.extractLsb' 16 8]

/-- The bytes of a 4-byte field, lowest first. -/
def quadBytes (w : Quad) : List Byte :=
  [w.extractLsb' 0 8, w.extractLsb' 8 8, w.extractLsb' 16 8, w.extractLsb' 24 8]

/-- A number as `n` bytes, lowest first. -/
def leBytes : Nat → Nat → List Byte
  | 0, _ => []
  | n + 1, x => BitVec.ofNat 8 x :: leBytes n (x / 256)

/-- The number in bytes carried lowest first. -/
def leNat : List Byte → Nat
  | [] => 0
  | b :: bs => b.toNat + 256 * leNat bs

/-- A signed number as `n` bytes of two's complement. -/
def signedBytes (n : Nat) (x : Int) : List Byte := leBytes n (x % (256 ^ n : Nat)).toNat

/-- R189: a flag byte. -/
def flagByte (b : Bool) : Byte := if b then 1 else 0

/-- R189: a list in a reply is preceded by its 1-byte count. -/
def counted {α : Type} (items : List α) (enc : α → List Byte) : List Byte :=
  BitVec.ofNat 8 items.length :: items.flatMap enc

/-- The set that names item `k` alone. -/
def single {w : Nat} (k : Nat) : BitVec w := BitVec.twoPow w k

/-- The set of a list of items. -/
def maskOf {w : Nat} (ks : List Nat) : BitVec w := ks.foldl (fun m k => m ||| single k) 0

/-! ### Check values (R193) -/

/-- One shift of the CRC-16 register. -/
def crc16Shift (r : BitVec 16) : BitVec 16 := if r.msb then (r <<< 1) ^^^ 0x1021#16 else r <<< 1

/-- One byte into the CRC-16 register. -/
def crc16Byte (r : BitVec 16) (b : Byte) : BitVec 16 :=
  Nat.repeat crc16Shift 8 (r ^^^ (b.setWidth 16 <<< 8))

/-- R193: the CRC-16, polynomial 1021h from FFFFh. -/
def crc16 (bs : List Byte) : BitVec 16 := bs.foldl crc16Byte 0xFFFF#16

/-- One shift of the CRC-8 register. -/
def crc8Shift (r : Byte) : Byte := if r.msb then (r <<< 1) ^^^ 0x07#8 else r <<< 1

/-- One byte into the CRC-8 register. -/
def crc8Byte (r : Byte) (b : Byte) : Byte := Nat.repeat crc8Shift 8 (r ^^^ b)

/-- R193: the CRC-8, polynomial 07h from 00h. -/
def crc8 (bs : List Byte) : Byte := bs.foldl crc8Byte 0

/-! ### Outcomes (R177) -/

inductive Code where
  | ok | okExtra | accepted | fin
  | frameCheck | frameLength | unknownKind | notReady
  | range | state | busy | full | notFound
  | power | clockInvalid | noLayout
  | stale | damaged | empty | timeout
  deriving DecidableEq, Repr

/-- R177: the outcome's code byte. -/
def Code.byte : Code → Byte
  | .ok => 0x00
  | .okExtra => 0x01
  | .accepted => 0x02
  | .fin => 0x03
  | .frameCheck => 0x10
  | .frameLength => 0x11
  | .unknownKind => 0x12
  | .notReady => 0x13
  | .range => 0x20
  | .state => 0x21
  | .busy => 0x22
  | .full => 0x23
  | .notFound => 0x24
  | .power => 0x30
  | .clockInvalid => 0x31
  | .noLayout => 0x32
  | .stale => 0x41
  | .damaged => 0x42
  | .empty => 0x43
  | .timeout => 0x50

/-- R175, Excess: OK becomes OK_EXTRA when the payload was longer than needed. -/
def Code.withExtra (extra : Bool) : Code → Code
  | .ok => if extra then .okExtra else .ok
  | c => c

/-- R190: a reply frame. -/
def replyFrame (kind tag : Byte) (code : Code) (payload : List Byte) : List Byte :=
  let body := BitVec.ofNat 8 payload.length :: kind :: tag :: code.byte :: payload
  0x9B#8 :: (body ++ [crc8 body])

/-! ### Kind codes (R190) -/

namespace Kind
abbrev hello : Byte := 0x10
abbrev resetActive : Byte := 0x11
abbrev watchSet : Byte := 0x20
abbrev watchRead : Byte := 0x21
abbrev reasonsTake : Byte := 0x22
abbrev await : Byte := 0x23
abbrev voiceStart : Byte := 0x30
abbrev voiceAdjust : Byte := 0x31
abbrev voiceStop : Byte := 0x32
abbrev voiceQuery : Byte := 0x33
abbrev mixSet : Byte := 0x34
abbrev slotOpen : Byte := 0x40
abbrev slotWrite : Byte := 0x41
abbrev slotCommit : Byte := 0x42
abbrev slotAbort : Byte := 0x43
abbrev slotErase : Byte := 0x44
abbrev slotRead : Byte := 0x45
abbrev slotList : Byte := 0x46
abbrev clockRead : Byte := 0x50
abbrev clockSet : Byte := 0x51
abbrev clockNudge : Byte := 0x52
abbrev clockTrim : Byte := 0x53
abbrev daysRead : Byte := 0x58
abbrev entryAdd : Byte := 0x59
abbrev entryDrop : Byte := 0x5A
abbrev entryList : Byte := 0x5B
abbrev firedTake : Byte := 0x5C
abbrev patternDefine : Byte := 0x60
abbrev rumblePlay : Byte := 0x61
abbrev rumbleStop : Byte := 0x62
abbrev cueArm : Byte := 0x63
abbrev cueDisarm : Byte := 0x64
abbrev rumbleQuery : Byte := 0x65
abbrev standbyEnter : Byte := 0x70
abbrev budgetRead : Byte := 0x71
end Kind

/-! ### Marker fields (R194) -/

/-- A marker field: flags byte (bit 0 present, bit 1 report), then the index. -/
def markerOf (q : Quad) : Option Marker :=
  if q.getLsbD 0 then some { index := (q >>> 8).toNat, report := q.getLsbD 1 } else none

/-- A marker field as the part writes it: 0 in the bytes of an absent one. -/
def markerBytes : Option Marker → List Byte
  | none => [0, 0, 0, 0]
  | some m => (if m.report then 3 else 1) :: leBytes 3 m.index

/-! ### Enumeration codes (R189) -/

/-- R190 VOICE-START: 00h PCM8, 01h PCM16. -/
def formatOf (b : Byte) : Option SampleFormat :=
  if b = 0 then some .pcm8 else if b = 1 then some .pcm16 else none

def SampleFormat.byte : SampleFormat → Byte
  | .pcm8 => 0
  | .pcm16 => 1

/-- R1's order. -/
def VoiceState.byte : VoiceState → Byte
  | .idle => 0
  | .priming => 1
  | .playing => 2
  | .paused => 3
  | .releasing => 4

/-- R190 SLOT-LIST. -/
def SlotState.byte : SlotState → Byte
  | .empty => 0
  | .live => 1
  | .damaged => 2

/-- R190 SLOT-LIST: 00h none, 01h SEEDING, 02h VERIFYING, 03h SETTLING. -/
def OpPhase.byte : OpPhase → Byte
  | .seeding => 1
  | .verifying => 2
  | .settling => 3

/-- R121's order. -/
def LayerState.byte : LayerState → Byte
  | .idle => 0
  | .loading => 1
  | .running => 2

/-- R129's order. -/
def CueState.byte : CueState → Byte
  | .unarmed => 0
  | .waitFirst => 1
  | .waitSecond => 2

/-- R139's order. -/
def SupplyClass.byte : SupplyClass → Byte
  | .normal => 0
  | .warn => 1
  | .fence => 2

/-- R139's order. -/
def CellClass.byte : CellClass → Byte
  | .good => 0
  | .low => 1

/-- R178's order. -/
def ProfileStatus.byte : ProfileStatus → Byte
  | .notRead => 0
  | .fromStore => 1
  | .defaulted => 2

/-- R178's order: NONE, FULL, SLOTS. -/
def formatKindByte : Option FormatKind → Byte
  | none => 0
  | some .full => 1
  | some .slots => 2

/-- R178's order: USABLE, NO_LAYOUT. -/
def LayoutState.byte : LayoutState → Byte
  | .usable => 0
  | .noLayout => 1

/-- R192: 00h ON_DAY, 01h EVERY, 02h ON_CLOCK. -/
def EntryKind.byte : EntryKind → Byte
  | .onDay _ => 0
  | .every _ _ => 1
  | .onClock _ => 2

/-- R192. -/
def FiredKind.byte : FiredKind → Byte
  | .onDay => 0
  | .every => 1
  | .onClock => 2

/-- R106: the kind of record an entry leaves. -/
def EntryKind.fired : EntryKind → FiredKind
  | .onDay _ => .onDay
  | .every _ _ => .every
  | .onClock _ => .onClock

/-- R74's order: VALID, INVALID. -/
def clockStateByte (valid : Bool) : Byte := if valid then 0 else 1

/-- The power state a RESET-ACTIVE or BUDGET-READ reports: ACTIVE, STANDBY in the order of R179 and R150 (log 15). -/
def arrivalByte : PowerState → Byte
  | .standby => 1
  | _ => 0

/-- The power state HELLO reports: WAKING, ACTIVE in the order of R178 (log 15). -/
def helloPowerByte : PowerState → Byte
  | .waking => 0
  | _ => 1

/-! ### Stored records (R192) -/

/-- R192: the 4 target bytes of a day-table entry. -/
def EntryKind.targetBytes : EntryKind → List Byte
  | .onDay t => leBytes 2 t ++ [0, 0]
  | .every p f => leBytes 2 p ++ leBytes 2 f
  | .onClock t => leBytes 4 t

/-- R192, R194: an action's 4 bytes, 0 where absent. -/
def actionBytes : Option Action → List Byte
  | none => [0, 0, 0, 0]
  | some a => leBytes 1 a.pattern ++ leBytes 1 a.layer ++ leBytes 1 a.priority ++ leBytes 1 a.scale

/-- R192: a day-table entry, 18 bytes. -/
def Entry.bytes (e : Entry) : List Byte :=
  leBytes 1 e.id ++ [e.kind.byte, flagByte e.due, flagByte e.action.isSome] ++ e.kind.targetBytes
    ++ leBytes 2 e.tag ++ actionBytes e.action ++ leBytes 2 e.accumulated ++ leBytes 2 e.latest

/-- R192: a fired record, 12 bytes. -/
def Fired.bytes (r : Fired) : List Byte :=
  leBytes 1 r.id ++ [r.kind.byte, flagByte r.ran, 0] ++ leBytes 2 r.tag ++ leBytes 2 r.g
    ++ leBytes 2 r.occurrences ++ leBytes 2 r.late

end Sys2Proof.Machine
end

