-- ==== Sys2Proof/Machine/Memory.lean ====
section
/-! DEFINITION. Keep memory: its bytes in one canonical form, the layout's halves, half headers, the face word and
the stored records (03 R46 to R50, R59; 11 R192 to R195). -/

namespace Sys2Proof.Machine

/-! ### Bytes of keep memory -/

/-- DESIGN CHOICE (log 1; not safe: the spec gives no first contents): what an unlisted address reads as. -/
def Memory.blank : Byte := 0

/-- The byte at an address. -/
def Memory.read : List Host.Cell → Nat → Byte
  | [], _ => Memory.blank
  | (k, b) :: m, a => if k = a then b else Memory.read m a

/-- `m` with the byte at `a` made `v`, in canonical form. -/
def Memory.insert : List Host.Cell → Nat → Byte → List Host.Cell
  | [], a, v => if v = Memory.blank then [] else [(a, v)]
  | (k, b) :: m, a, v =>
    if k < a then (k, b) :: Memory.insert m a v
    else if k = a then (if v = Memory.blank then m else (a, v) :: m)
    else if v = Memory.blank then (k, b) :: m else (a, v) :: (k, b) :: m

/-- A byte write. There is no cell at or above 131,072 to write (log 20). -/
def Memory.write (m : List Host.Cell) (a : Nat) (v : Byte) : List Host.Cell :=
  if a < Config.keepSize then Memory.insert m a v else m

/-- Bytes written at rising addresses from `a`. -/
def Memory.writeAll : List Host.Cell → Nat → List Byte → List Host.Cell
  | m, _, [] => m
  | m, a, b :: bs => Memory.writeAll (Memory.write m a b) (a + 1) bs

/-- The `n` bytes from address `a`. -/
def Memory.readAll (m : List Host.Cell) (a n : Nat) : List Byte :=
  (List.range n).map fun i => Memory.read m (a + i)

/-- The canonical form: addresses strictly rising and inside keep memory, no entry at the unlisted value. -/
abbrev Memory.wf (m : List Host.Cell) : Prop :=
  m.Pairwise (fun x y => x.1 < y.1) ∧ ∀ c ∈ m, c.1 < Config.keepSize ∧ c.2 ≠ Memory.blank

/-! ### The layout (R46, R183) -/

/-- R183: whether the sizes of a layout are such as a profile may give. -/
def layoutLegal (sizes : List Nat) : Bool :=
  decide (1 ≤ sizes.length) && decide (sizes.length ≤ 8)
    && sizes.all (fun z => decide (z % 256 = 0) && decide (256 ≤ z) && decide (z ≤ 32768))
    && decide ((sizes.map (· + 32)).sum ≤ 63488)

/-- The slot sizes an image gives: those of slots 1..slot count. -/
def Profile.rawLayout (p : Profile) : List Nat := p.sizes.take p.slotCount

/-- The layout in force: the image's, which R183 has validated; an image whose layout R183 would not let stand is
not in use, so the default layout stands for it (log 20). -/
def Profile.layout (p : Profile) : List Nat :=
  if layoutLegal p.rawLayout then p.rawLayout else [8192]

/-- The layout in force. -/
def State.layout (s : State) : List Nat := s.sp.profile.layout

/-- The number of slots of the layout. -/
def State.slotCount (s : State) : Nat := s.layout.length

/-- The size of slot `n` (1-based). -/
def State.slotSize (s : State) (n : Nat) : Nat := s.layout.getD (n - 1) 0

/-- R46: the keep address of the base of slot `n`. -/
def slotBase (layout : List Nat) (n : Nat) : Nat :=
  Config.slotArea + ((layout.take (n - 1)).map fun z => 2 * (z + 32)).sum

/-- R46: the keep address of a half's header; `b` names half B. -/
def halfAddr (layout : List Nat) (n : Nat) (b : Bool) : Nat :=
  slotBase layout n + if b then layout.getD (n - 1) 0 + 32 else 0

/-- R46: the keep address of a half's data byte 0. -/
def halfData (layout : List Nat) (n : Nat) (b : Bool) : Nat := halfAddr layout n b + 32

/-- R48: whether slot `n`'s face is half B. -/
def State.faceIsB (s : State) (n : Nat) : Bool := s.face.getLsbD (n - 1)

/-- The header address of slot `n`'s face half. -/
def State.faceAddr (s : State) (n : Nat) : Nat := halfAddr s.layout n (s.faceIsB n)

/-- The header address of slot `n`'s shadow half. -/
def State.shadowAddr (s : State) (n : Nat) : Nat := halfAddr s.layout n (!s.faceIsB n)

/-- The address of data byte 0 of slot `n`'s face half. -/
def State.faceData (s : State) (n : Nat) : Nat := halfData s.layout n (s.faceIsB n)

/-- The address of data byte 0 of slot `n`'s shadow half. -/
def State.shadowData (s : State) (n : Nat) : Nat := halfData s.layout n (!s.faceIsB n)

/-! ### Half headers (R47, R192, R194, R195) -/

/-- R195: the half-header magic. -/
def headerMagic : List Byte := [0x48, 0x53]

/-- The fields of a half header that the part writes. -/
structure HeaderFields where
  slot : Nat
  live : Bool
  generation : Nat
  length : Nat
  crc : Half
  day : Option Nat
  clock : Option Nat
  deriving DecidableEq, Repr

/-- Bytes 0..29 of a half header (R192, R194). -/
def HeaderFields.body (h : HeaderFields) : List Byte :=
  headerMagic ++ leBytes 1 h.slot ++ [flagByte h.live] ++ leBytes 4 h.generation ++ leBytes 2 h.length
    ++ halfBytes h.crc ++ [flagByte h.day.isSome ||| (flagByte h.clock.isSome <<< 1)]
    ++ leBytes 2 (h.day.getD 0) ++ leBytes 4 (h.clock.getD 0) ++ List.replicate 11 0

/-- A half header, 32 bytes, with its header CRC. -/
def HeaderFields.bytes (h : HeaderFields) : List Byte := h.body ++ halfBytes (crc16 h.body)

/-- R47, R195: the header a format writes. -/
def formatHeader (slot : Nat) : HeaderFields :=
  { slot := slot, live := false, generation := 0, length := 0, crc := 0xFFFF, day := none, clock := none }

/-- The stored fields of a header, read from its 32 bytes. -/
def headerGeneration (h : List Byte) : Nat := (quad h 4).toNat
/-- The stored length field. -/
def headerLength (h : List Byte) : Nat := (half h 8).toNat
/-- Whether the stored header state is LIVE. -/
def headerLive (h : List Byte) : Bool := byteAt h 3 == 1
/-- The stored day stamp, absent without its present flag (R194). -/
def headerDay (h : List Byte) : Option Nat := if (byteAt h 12).getLsbD 0 then some (half h 13).toNat else none
/-- The stored clock stamp, absent without its present flag (R194). -/
def headerClock (h : List Byte) : Option Nat := if (byteAt h 12).getLsbD 1 then some (quad h 15).toNat else none

/-- R47: whether a header is valid for slot `n` of the given size. -/
def headerValid (h : List Byte) (n size : Nat) : Bool :=
  (h.take 2 == headerMagic) && ((byteAt h 2).toNat == n) && (byteAt h 3 == 0 || byteAt h 3 == 1)
    && decide (headerLength h ≤ size) && (headerLive h || headerLength h == 0)
    && (half h 30 == crc16 (h.take 30))

/-- The 32 bytes of slot `n`'s face header. -/
def State.faceHeader (s : State) (n : Nat) : List Byte := Memory.readAll s.keep (s.faceAddr n) 32

/-- Whether slot `n`'s face header is valid. -/
def State.faceValid (s : State) (n : Nat) : Bool := headerValid (s.faceHeader n) n (s.slotSize n)

/-- R50: the read extent of slot `n`'s face: 0 for an EMPTY slot, else the header's length. A valid header's length is
within the slot's size (R47), so the clamp shows for a DAMAGED slot with an invalid header alone. -/
def State.readExtent (s : State) (n : Nat) : Nat :=
  match s.sc.slots.getD (n - 1) .empty with
  | .empty => 0
  | .live | .damaged => min (headerLength (s.faceHeader n)) (s.slotSize n)

/-- R59: the generation of the next header written for slot `n`. -/
def State.nextGeneration (s : State) (n : Nat) : Nat :=
  let g := (if s.faceValid n then headerGeneration (s.faceHeader n) else 0) + 1
  if g = 0xFFFFFFFF then 0 else g

/-- `s` with bytes written to keep memory from address `a`. -/
def State.keepWrite (s : State) (a : Nat) (bs : List Byte) : State :=
  { s with keep := Memory.writeAll s.keep a bs }

/-- `s` with a header written to slot `n`'s shadow half (R59, R62). -/
def State.writeShadowHeader (s : State) (n : Nat) (h : HeaderFields) : State :=
  s.keepWrite (s.shadowAddr n) h.bytes

/-- R71: the slot state the scrub decides for slot `n`. -/
def State.examineSlot (s : State) (n : Nat) : SlotState :=
  let h := s.faceHeader n
  if !s.faceValid n then .damaged
  else if !headerLive h then .empty
  else if crc16 (Memory.readAll s.keep (s.faceData n) (headerLength h)) = half h 10 then .live
  else .damaged

/-! ### System area records (R192, R195) -/

/-- R195: the keep signature value, at keep addresses 0..15. -/
def signature : List Byte :=
  [0x50, 0x45, 0x4A, 0x5A, 0x41, 0x52, 0x2D, 0x4B, 0x45, 0x45, 0x50, 0x2D, 0x30, 0x33, 0x34, 0x30]

/-- R192: the keep address of the recorded identity. -/
def identityAddr : Nat := 16

/-- R192: the recorded identity of a profile: game code, slot count, sizes of slots 1..8 (those above the slot count
written 0, log 14). -/
def Profile.identity (p : Profile) : List Byte :=
  leBytes 4 p.gameCode ++ leBytes 1 p.layout.length
    ++ (List.range 8).flatMap fun i => leBytes 2 (p.layout.getD i 0)

/-- R184: the recorded game code. -/
def recordedCode (m : List Host.Cell) : Nat := leNat (Memory.readAll m identityAddr 4)

/-- R184: the recorded layout: the sizes of the slots up to the recorded slot count. -/
def recordedLayout (m : List Host.Cell) : List Nat :=
  (List.range (Memory.read m (identityAddr + 4)).toNat).map fun i =>
    leNat (Memory.readAll m (identityAddr + 5 + 2 * i) 2)

/-- R192: the day keep record's 10 bytes. -/
def dayKeepBytes (d : DayReckoner) : List Byte :=
  leBytes 2 d.g ++ leBytes 2 d.l ++ leBytes 2 d.forfeited ++ leBytes 4 d.rewind

/-- R192: keep memory by address, the Day Reckoner's records in their places. The places of the table and the list
beyond their counts read 00h (log 34). -/
def State.keepByte (s : State) (a : Nat) : Byte :=
  if 40 ≤ a ∧ a < 50 then byteAt (dayKeepBytes s.dr) (a - 40)
  else if a = 60 then BitVec.ofNat 8 s.dr.table.length
  else if 64 ≤ a ∧ a < 640 then byteAt (s.dr.table.flatMap Entry.bytes) (a - 64)
  else if a = 640 then BitVec.ofNat 8 s.dr.fired.length
  else if 644 ≤ a ∧ a < 836 then byteAt (s.dr.fired.flatMap Fired.bytes) (a - 644)
  else Memory.read s.keep a

end Sys2Proof.Machine
end

