-- ==== Sys2Proof/Machine/Flags.lean ====
section
/-! DEFINITION. The attention flags: members, raising and clearing, condition levels, the notice set and the bytes of
a detail (08 R157 to R166). -/

namespace Sys2Proof.Machine

/-! ### Members (R157) -/

/-- R157: the members in rising number. -/
def Member.all : List Member :=
  [.voiceEnd, .voiceStarved, .marker, .clip, .saveDone, .saveFailed, .keepFormatted, .slotDamaged,
   .dayTurn, .clockRewound, .firedWaiting, .clockInvalid, .cueFired, .cueLapsed, .patternEnded, .patternMissing,
   .supplyWarn, .supplyFence, .cellLow, .profileDefault, .frameFault, .replyLost]

/-- R157: a member's number. -/
def Member.num : Member → Nat
  | .voiceEnd => 0
  | .voiceStarved => 1
  | .marker => 2
  | .clip => 3
  | .saveDone => 4
  | .saveFailed => 5
  | .keepFormatted => 6
  | .slotDamaged => 7
  | .dayTurn => 8
  | .clockRewound => 9
  | .firedWaiting => 10
  | .clockInvalid => 11
  | .cueFired => 12
  | .cueLapsed => 13
  | .patternEnded => 14
  | .patternMissing => 15
  | .supplyWarn => 16
  | .supplyFence => 17
  | .cellLow => 18
  | .profileDefault => 19
  | .frameFault => 20
  | .replyLost => 21

/-- R157: a member's group. -/
def Member.group : Member → Nat
  | .voiceEnd | .voiceStarved | .marker | .clip => 0
  | .saveDone | .saveFailed | .keepFormatted | .slotDamaged => 1
  | .dayTurn | .clockRewound | .firedWaiting | .clockInvalid => 2
  | .cueFired | .cueLapsed | .patternEnded | .patternMissing => 3
  | .supplyWarn | .supplyFence | .cellLow | .profileDefault => 4
  | .frameFault | .replyLost => 5

/-- R157: whether a member is a condition. -/
def Member.isCondition : Member → Bool
  | .slotDamaged | .firedWaiting | .clockInvalid | .supplyWarn | .supplyFence | .cellLow | .profileDefault => true
  | _ => false

/-- The set that holds one member. -/
def Member.set (m : Member) : MemberSet := single m.num

/-- Whether a member is in a set. -/
def Member.isIn (m : Member) (ms : MemberSet) : Bool := ms.getLsbD m.num

/-- The members of a set, in rising number. -/
def membersOf (ms : MemberSet) : List Member := Member.all.filter (·.isIn ms)

/-- The members of one group. -/
def groupMembers (g : Nat) : List Member := Member.all.filter (·.group == g)

/-- The set of the members of the groups a group set names (R189). -/
def groupsMask (groups : Byte) : MemberSet :=
  maskOf ((Member.all.filter fun m => groups.getLsbD m.group).map Member.num)

/-- The set of all conditions. -/
def conditionMask : MemberSet := maskOf ((Member.all.filter Member.isCondition).map Member.num)

/-! ### Raising and clearing (R158, R159) -/

/-- R158: an event's detail made empty; a condition's current detail is no latch and stays (R159). -/
def Details.clear (d : Details) : Member → Details
  | .voiceEnd => { d with voiceEnd := 0 }
  | .voiceStarved => { d with voiceStarved := 0 }
  | .marker => { d with marker := 0 }
  | .clip => { d with clip := 0 }
  | .saveDone => { d with saveDone := 0 }
  | .saveFailed => { d with saveFailed := 0, saveCause := none }
  | .keepFormatted => { d with keepFormatted := none }
  | .dayTurn => { d with dayTurn := 0 }
  | .clockRewound => { d with clockRewound := 0 }
  | .cueFired => { d with cueFired := 0 }
  | .cueLapsed => { d with cueLapsed := 0, lapseCause := none }
  | .patternEnded => { d with patternEnded := 0 }
  | .patternMissing => { d with patternMissing := none }
  | .frameFault => { d with frameFault := 0, faultCause := none }
  | .replyLost => { d with replyLost := 0, lostKind := none }
  | .slotDamaged | .firedWaiting | .clockInvalid | .supplyWarn | .supplyFence | .cellLow | .profileDefault => d

/-- R158: an event raised with a detail, `merge` being the merge of that detail into a held one. A clear latch is set
with the detail of this raising alone. -/
def Attention.raise (a : Attention) (m : Member) (merge : Details → Details) : Attention :=
  { a with
    latch := a.latch ||| m.set
    details := merge (if m.isIn a.latch then a.details else a.details.clear m) }

/-- An event raised. -/
def State.raise (s : State) (m : Member) (merge : Details → Details) : State :=
  { s with au := s.au.raise m merge }

/-- R158: a count detail, added and saturating. -/
def satAdd (limit a b : Nat) : Nat := min limit (a + b)

/-- R4: VOICE_END with a set of voices; nothing for the empty set. -/
def State.raiseVoiceEnd (s : State) (vs : BitVec 8) : State :=
  if vs = 0 then s else s.raise .voiceEnd fun d => { d with voiceEnd := d.voiceEnd ||| vs }

/-- R29: VOICE_STARVED with the set of starved voices. -/
def State.raiseStarved (s : State) (vs : BitVec 8) : State :=
  if vs = 0 then s else s.raise .voiceStarved fun d => { d with voiceStarved := d.voiceStarved ||| vs }

/-- R28: MARKER with a set of (voice, marker) pairs. -/
def State.raiseMarker (s : State) (pairs : BitVec 16) : State :=
  if pairs = 0 then s else s.raise .marker fun d => { d with marker := d.marker ||| pairs }

/-- R29: CLIP for one block. -/
def State.raiseClip (s : State) : State :=
  s.raise .clip fun d => { d with clip := satAdd 255 d.clip 1 }

/-- The slot set that names slot `n` (R189: slots 1..8 as bits 0..7). -/
def slotBit (n : Nat) : BitVec 8 := single (n - 1)

/-- R61: SAVE_DONE for a slot. -/
def State.raiseSaveDone (s : State) (n : Nat) : State :=
  s.raise .saveDone fun d => { d with saveDone := d.saveDone ||| slotBit n }

/-- R58, R65: SAVE_FAILED for a slot with its cause. -/
def State.raiseSaveFailed (s : State) (n : Nat) (c : SaveCause) : State :=
  s.raise .saveFailed fun d => { d with saveFailed := d.saveFailed ||| slotBit n, saveCause := some c }

/-- R158: KEEP_FORMATTED holds FULL when either raising was FULL. -/
def State.raiseFormatted (s : State) (k : FormatKind) : State :=
  s.raise .keepFormatted fun d =>
    { d with keepFormatted := if d.keepFormatted = some .full then some .full else some k }

/-- R95: DAY_TURN with the days credited. -/
def State.raiseDayTurn (s : State) (n : Nat) : State :=
  s.raise .dayTurn fun d => { d with dayTurn := satAdd 65535 d.dayTurn n }

/-- R84: CLOCK_REWOUND. -/
def State.raiseRewound (s : State) : State :=
  s.raise .clockRewound fun d => { d with clockRewound := satAdd 255 d.clockRewound 1 }

/-- R133: CUE_FIRED for a cue. -/
def State.raiseCueFired (s : State) (n : Nat) : State :=
  s.raise .cueFired fun d => { d with cueFired := d.cueFired ||| single n }

/-- R133, R134: CUE_LAPSED for a cue with its cause. -/
def State.raiseCueLapsed (s : State) (n : Nat) (c : LapseCause) : State :=
  s.raise .cueLapsed fun d => { d with cueLapsed := d.cueLapsed ||| single n, lapseCause := some c }

/-- R125: PATTERN_ENDED with a set of layers. -/
def State.raisePatternEnded (s : State) (ls : BitVec 8) : State :=
  if ls = 0 then s else s.raise .patternEnded fun d => { d with patternEnded := d.patternEnded ||| ls }

/-- R120: PATTERN_MISSING for a pattern id. -/
def State.raisePatternMissing (s : State) (p : Nat) : State :=
  s.raise .patternMissing fun d => { d with patternMissing := some p }

/-- R173, R174: FRAME_FAULT with its cause. -/
def State.raiseFrameFault (s : State) (c : FaultCause) : State :=
  s.raise .frameFault fun d => { d with frameFault := satAdd 255 d.frameFault 1, faultCause := some c }

/-- R157, R176: REPLY_LOST with the kind code of the reply lost. -/
def State.raiseReplyLost (s : State) (kind : Byte) : State :=
  s.raise .replyLost fun d => { d with replyLost := satAdd 255 d.replyLost 1, lostKind := some kind }

/-- R164, R166: the latches, event details and woke marks of a set of members cleared. -/
def Attention.clearSet (a : Attention) (ms : MemberSet) : Attention :=
  { a with
    latch := a.latch &&& ~~~ ms
    woke := a.woke &&& ~~~ ms
    details := (membersOf ms).foldl Details.clear a.details }

/-! ### Conditions (R159, R162) -/

/-- R50: the set of DAMAGED slots. -/
def State.damagedSet (s : State) : BitVec 8 :=
  maskOf ((List.range 8).filter fun i => s.sc.slots.getD i .empty == .damaged)

/-- R159: whether a condition's owner holds it true (R50, R78, R110, R141, R145, R183). -/
def State.holds (s : State) : Member → Bool
  | .slotDamaged => s.damagedSet != 0
  | .firedWaiting => !s.dr.fired.isEmpty
  | .clockInvalid => !s.cu.valid
  | .supplyWarn => s.sb.supply != .normal
  | .supplyFence => s.sb.supply == .fence
  | .cellLow => s.sb.cell == .low
  | .profileDefault => s.sb.profileStatus == .defaulted
  | _ => false

/-- The levels of all conditions, as their owners hold them. -/
def State.ownerLevels (s : State) : MemberSet := maskOf ((Member.all.filter s.holds).map Member.num)

/-- R159: the owners' levels and details taken; a level that becomes true sets the rose latch. At stage 10 of WAKING,
where every level is still false, this is the condition evaluation of R162. -/
def State.syncConditions (s : State) : State :=
  { s with au := { s.au with
      latch := s.au.latch ||| (s.ownerLevels &&& ~~~ s.au.level)
      level := s.ownerLevels
      details := { s.au.details with slotDamaged := s.damagedSet, firedWaiting := s.dr.fired.length } } }

/-- R159: owners report to the AU while the part is ACTIVE or STANDBY. -/
def PowerState.awake : PowerState → Bool
  | .active | .standby => true
  | _ => false

/-- The report of condition changes made by an event (R159, log 18). -/
def State.report (s : State) : State := if s.sb.power.awake then s.syncConditions else s

/-! ### The notice set and ATTN (R161) -/

/-- R161: watched members whose latch is set, and every woke member. -/
def Attention.notice (a : Attention) : MemberSet := (a.latch &&& a.watch) ||| a.woke

/-- The notice set. -/
def State.notice (s : State) : MemberSet := s.au.notice

/-- R161: ATTN is asserted exactly when the notice set is non-empty while the part is ACTIVE or STANDBY. -/
def State.attnLevel (s : State) : Bool := s.sb.power.awake && (s.notice != 0)

/-! ### Details as carried (R189: 4 bytes) -/

/-- R189: a cause's code by the order of R157's detail column; 00h when there is no latest value. -/
def saveCauseByte : Option SaveCause → Byte
  | some .power => 1
  | _ => 0

def lapseCauseByte : Option LapseCause → Byte
  | some .blocked => 1
  | _ => 0

def faultCauseByte : Option FaultCause → Byte
  | some .length => 1
  | some .check => 2
  | _ => 0

def formattedByte : Option FormatKind → Byte
  | some .slots => 1
  | _ => 0

/-- R189: a member's detail, its parts in order and 00h bytes after them. -/
def Details.bytes (d : Details) : Member → List Byte
  | .voiceEnd => [d.voiceEnd, 0, 0, 0]
  | .voiceStarved => [d.voiceStarved, 0, 0, 0]
  | .marker => halfBytes d.marker ++ [0, 0]
  | .clip => leBytes 1 d.clip ++ [0, 0, 0]
  | .saveDone => [d.saveDone, 0, 0, 0]
  | .saveFailed => [d.saveFailed, saveCauseByte d.saveCause, 0, 0]
  | .keepFormatted => [formattedByte d.keepFormatted, 0, 0, 0]
  | .slotDamaged => [d.slotDamaged, 0, 0, 0]
  | .dayTurn => leBytes 2 d.dayTurn ++ [0, 0]
  | .clockRewound => leBytes 1 d.clockRewound ++ [0, 0, 0]
  | .firedWaiting => leBytes 1 d.firedWaiting ++ [0, 0, 0]
  | .cueFired => [d.cueFired, 0, 0, 0]
  | .cueLapsed => [d.cueLapsed, lapseCauseByte d.lapseCause, 0, 0]
  | .patternEnded => [d.patternEnded, 0, 0, 0]
  | .patternMissing => leBytes 1 (d.patternMissing.getD 0) ++ [0, 0, 0]
  | .frameFault => leBytes 1 d.frameFault ++ [faultCauseByte d.faultCause, 0, 0]
  | .replyLost => leBytes 1 d.replyLost ++ [d.lostKind.getD 0, 0, 0]
  | .clockInvalid | .supplyWarn | .supplyFence | .cellLow | .profileDefault => [0, 0, 0, 0]

/-- The set of members in a 3-byte member set; bits 22 and 23 name none (R189). -/
def memberSetOf (t : Triple) : MemberSet := t.setWidth 22

/-- R163, R166: a member set that names a member above 21. -/
def namesNoMember (t : Triple) : Bool := t.getLsbD 22 || t.getLsbD 23

/-- R189: a member set as carried. -/
def memberSetBytes (ms : MemberSet) : List Byte := tripleBytes (ms.setWidth 24)

end Sys2Proof.Machine
end

