-- ==== Sys2Proof/Machine/Ops.lean ====
section
/-! DEFINITION. The operations that several commands share: budget figures and the values recomputed in each event,
the passing of time, power-up values and entry to a power state, fetch requests and grants, the held reply and the
held AWAIT, and what closes an event. -/

namespace Sys2Proof.Machine

/-! ### Budget figures (R146, R147, R149) and recomputed values -/

/-- R146: available current in mA; the subtraction stops at 0. -/
def available (a u w : Nat) : Nat := a - Config.baseDraw - u - w

/-- R146: the base ceiling. -/
def baseCeiling (a u w : Nat) : Nat := min 255 (available a u w * 255 / 90)

/-- R147: the motor ceiling. -/
def motorCeiling (p : PowerState) (c : SupplyClass) (settle : Bool) (a u w : Nat) : Nat :=
  if p ≠ .active then 0
  else match c with
    | .fence => 0
    | .warn => if settle then 0 else baseCeiling a u w / 2
    | .normal => if settle then 0 else baseCeiling a u w

/-- R149: the audio ceiling. -/
def audioCeiling : SupplyClass → Nat
  | .normal => 32767
  | .warn => 16384
  | .fence => 0

/-- R139: the audio share U. -/
def audioShare (amp : Bool) : Nat := if amp then 25 else 0

/-- R52: the keep-work share W. -/
def keepShare : Option KeepOp → Nat
  | some op => match op.phase with
    | .seeding | .verifying => 10
    | .settling => 0
  | none => 0

/-- R52: the settle flag. -/
def settling : Option KeepOp → Bool
  | some op => op.phase == .settling
  | none => false

/-- R128: the largest output among RUNNING layers, 0 when none runs. -/
def largestOutput (ls : List Layer) : Nat :=
  ls.foldl (fun m l => if l.state = .running then max m l.output else m) 0

/-- R26, R19: the code at the DAC: that of the sample under way while the amplifier is ON, else 2048. -/
def dacCode (amp : Bool) (block : List Nat) (began now : Nat) : Nat :=
  if amp then block.getD (min 63 ((now - began) * 64 / Config.mixBlock)) 2048 else 2048

/-- The values that the rules recompute in each event that changes an input: U, W and the settle flag (R139), the
audio ceiling (R149), M (R147, R148), the effective master gain (R2), the DAC code (R26), the applied strength (R128)
and ATTN (R161). -/
def State.refresh (s : State) : State :=
  let u := audioShare s.se.amp
  let w := keepShare s.sc.op
  let settle := settling s.sc.op
  let audio := audioCeiling s.sb.supply
  let m := motorCeiling s.sb.power s.sb.supply settle s.sb.allowance u w
  { s with
    sb := { s.sb with u := u, w := w, settle := settle, audio := audio, m := m }
    se := { s.se with
      effMaster := min s.se.master audio
      dac := dacCode s.se.amp s.se.block s.se.blockStart s.now }
    ru := { s.ru with applied := min (largestOutput s.ru.layers) m }
    au := { s.au with attn := s.attnLevel } }

/-! ### Format writes (R185, R186) -/

/-- One write of a format: a byte of keep memory, the face word, the clock registers, or the Day Reckoner's records. -/
inductive KeepWrite where
  | byte (a : Nat) (b : Byte)
  | faces
  | clock
  | days
  deriving DecidableEq, Repr

/-- Byte writes at rising addresses. -/
def byteWrites (a : Nat) (bs : List Byte) : List KeepWrite := bs.mapIdx fun i b => .byte (a + i) b

/-- R185, R186: the header writes of a format, every half of the layout: by rising slot, half A before half B
(log 25). -/
def headerWrites (layout : List Nat) : List KeepWrite :=
  (List.range layout.length).flatMap fun i =>
    byteWrites (halfAddr layout (i + 1) false) (formatHeader (i + 1)).bytes
      ++ byteWrites (halfAddr layout (i + 1) true) (formatHeader (i + 1)).bytes

/-- R185 (1 to 6), R186 (1, 2): a format's writes in order, but for the closing ones. -/
def formatWrites (k : FormatKind) (p : Profile) : List KeepWrite :=
  match k with
  | .full => byteWrites 0 (List.replicate 16 0) ++ headerWrites p.layout ++ [.faces, .clock, .days]
      ++ byteWrites identityAddr p.identity
  | .slots => headerWrites p.layout ++ [.faces]

/-- R185 (7), R186 (3): the writes made last, in the event that ends the format (log 25): until then a loss of console
power leaves the signature wrong, or the old layout recorded. -/
def closingWrites (k : FormatKind) (p : Profile) : List KeepWrite :=
  match k with
  | .full => byteWrites 0 signature
  | .slots => byteWrites identityAddr p.identity

/-- R48, R88, R89, R98, R106: what one write of a format does. The clock fields are one write, and so are the day keep
record and the emptied table and list (log 25). -/
def State.formatWrite (s : State) : KeepWrite → State
  | .byte a b => { s with keep := Memory.write s.keep a b }
  | .faces => { s with face := 0 }
  | .clock => { s with cu := { s.cu with seconds := 0, valid := false, divider := 0, hold := 0, phase := 0, trim := 0 } }
  | .days => { s with dr := { s.dr with g := 0, l := 0, forfeited := 0, rewind := 0, table := [], fired := [] } }

/-- `n` more writes of the format under way, after the `made` already made. -/
def State.formatMore (s : State) (k : FormatKind) (made n : Nat) : State :=
  (((formatWrites k s.sp.profile).drop made).take n).foldl State.formatWrite s

/-- The closing writes of a format (log 25). -/
def State.closeFormat (s : State) (k : FormatKind) : State := (closingWrites k s.sp.profile).foldl State.formatWrite s

/-! ### The passing of time (log 10) -/

/-- How many whole periods of length `p`, counted from `began`, end in the `dt` after `now`. -/
def periods (p began now dt : Nat) : Nat := (now + dt - began) / p - (now - began) / p

/-- R75, R76: crystal cycles counted while `dt` passes, at the nominal rate (log 11). -/
def ClockUnit.count (c : ClockUnit) (now dt : Nat) : ClockUnit :=
  let cycles := (now + dt) * 64 / 15625 - now * 64 / 15625
  if c.valid then
    { c with hold := c.hold - cycles, divider := min 32767 (c.divider + (cycles - c.hold)) }
  else c

/-- R55: `n` bytes of a seeding copy from offset `done` on. -/
def State.copySeed (s : State) (slot done n : Nat) : State :=
  s.keepWrite (s.shadowData slot + done) (Memory.readAll s.keep (s.faceData slot + done) n)

/-- R55, R58: the progress of the operation in flight while `dt` passes. -/
def State.workOn (s : State) (dt : Nat) : State :=
  match s.sc.op with
  | none => s
  | some op =>
    let done := min op.extent (op.done + periods Config.byteTime op.began s.now dt)
    match op.phase with
    | .settling => s
    | .verifying => { s with sc := { s.sc with op := some { op with done := done } } }
    | .seeding =>
      { s.copySeed op.slot op.done (done - op.done) with
        sc := { s.sc with op := some { op with done := done } } }

/-- R184 to R186: the progress of a format while `dt` passes, one write each 0.5 µs; it waits under FENCE (log 25). -/
def State.formatOn (s : State) (dt : Nat) : State :=
  match s.sb.format with
  | none => s
  | some f =>
    if s.sb.supply = .fence then s
    else
      let n := (f.ran + dt) / Config.byteTime - f.ran / Config.byteTime
      let s' := s.formatMore f.kind f.made n
      { s' with sb := { s'.sb with format := some { f with made := f.made + n, ran := f.ran + dt } } }

/-- `dt` passes. -/
def State.elapse (s : State) (dt : Nat) : State :=
  let s1 := { s with cu := s.cu.count s.now dt }
  let s2 := (s1.workOn dt).formatOn dt
  { s2 with now := s.now + dt }

/-- Time passes up to `t`, if that lies ahead. -/
def State.elapseTo (s : State) (t : Nat) : State := s.elapse (t - s.now)

/-! ### Power-up values and entry to a power state -/

/-- The active domain at its power-up values (R1, R2, R30, R39, R51, R96, R115, R117, R121, R129, R139, R162, R169,
R180). The two pins are no state of the part and stay. -/
def State.activePowerUp (s : State) : State :=
  { s with
    lp := {}, au := {}, se := {}, sp := {}, sc := {}, ru := {}
    sb := { supplyMv := s.sb.supplyMv, cellMv := s.sb.cellMv }
    dr := { s.dr with deferred := none } }

/-- R144: the entry to KEEP. The active domain is lost; it shows its power-up values, of which nothing can be seen
before the next entry to WAKING sets them (log 29). The keep domain stands, whatever the cell voltage (log 35). -/
def State.enterKeep (s : State) : State :=
  let s' := s.activePowerUp
  { s' with sb := { s'.sb with power := .keep } }

/-- R142: the class evaluated at the entry to WAKING, by the rising thresholds. -/
def risingClass (mv : Nat) : SupplyClass :=
  if Config.warnClears ≤ mv then .normal else if Config.fenceClears ≤ mv then .warn else .fence

/-- R180: a stage of WAKING begins. -/
def State.beginStage (s : State) (n : Nat) : State :=
  { s with sb := { s.sb with stage := n, stageStart := s.now } }

/-- R180, R142, R181: the entry to WAKING; stage 1 ends at once when the class found is not FENCE. -/
def State.enterWaking (s : State) : State :=
  let s' := s.activePowerUp
  let c := risingClass s.sb.supplyMv
  let s'' := { s' with sb := { s'.sb with power := .waking, supply := c } }
  if c = .fence then s''.beginStage 1 else s''.beginStage 2

/-- R43, R44: a fetch in flight given the abandoned mark. -/
def abandonFetch (f : Option Fetch) : Option Fetch := f.map fun f => { f with abandoned := true }

/-- R179, R44: RESET-ACTIVE made: the entry to WAKING, a fetch in flight staying in flight with the abandoned mark.
The byte on DOUT is the model's own record of the transfer under way and stays (log 24). -/
def State.resetMade (s : State) : State :=
  let s' := s.enterWaking
  { s' with
    lp := { dout := s.lp.dout }
    sp := { s'.sp with fetch := abandonFetch s.sp.fetch } }

/-- R155, R187 (stage 11): the entry to ACTIVE: the first boundary 1/512 s on, the boundary phase 0, the amplifier ON
if the hold flag is set. -/
def State.enterActive (s : State) : State :=
  { s with
    sb := { s.sb with power := .active }
    se := { s.se with
      amp := s.se.amp || s.se.hold, nextBoundary := s.now + Config.mixBlock, block := [], blockStart := s.now }
    ru := { s.ru with phase := 0, tick := .none } }

/-! ### Voices and fetch addresses (R1, R4, R32, R33) -/

/-- R1: b, the bytes per sample. -/
def Voice.width (v : Voice) : Nat := match v.format with | .pcm8 => 1 | .pcm16 => 2

/-- R1: the loop end. -/
def Voice.loopEnd (v : Voice) : Nat := v.loopStart + v.loopLength

/-- R1: a looped voice. -/
def Voice.looped (v : Voice) : Bool := v.loopLength != 0

/-- R1: a voice is busy when it is not IDLE. -/
def Voice.busy (v : Voice) : Bool := v.state != .idle

/-- R4: the end of a use. -/
def Voice.endUse (v : Voice) : Voice :=
  { v with state := .idle, ring := [], owed := 0, request := false, starved := false, priming := 0 }

/-- R32: the address that bounds the fetch address: sample end, or loop-end address. -/
def Voice.fetchEnd (v : Voice) : Nat :=
  v.start + (if v.looped then v.loopEnd else v.length) * v.width

/-- R32: the bytes left. -/
def Voice.bytesLeft (v : Voice) : Nat := v.fetchEnd - v.fetchAddr

/-- R32: the free space of the ring. -/
def Voice.free (v : Voice) : Nat := 128 - v.ring.length

/-- R33: the wanted size. -/
def Voice.wanted (v : Voice) : Nat := min 32 v.bytesLeft

/-- R32: the fetch address moved forward by `n` bytes in play order. The end of a one-shot sound that ends with a store
of 16 MiB is 16,777,216, above the range R1 gives the field; it is held as that (log 32). -/
def Voice.advanceFetch (v : Voice) (n : Nat) : Voice :=
  let a := v.fetchAddr + n
  if v.looped && decide (v.fetchEnd ≤ a) then
    { v with fetchAddr := v.start + v.loopStart * v.width + (a - v.fetchEnd) % (v.loopLength * v.width) }
  else { v with fetchAddr := a }

/-- The voice record `n`. -/
def State.voice (s : State) (n : Nat) : Voice := s.se.voices.getD n {}

/-- The voice record `n` replaced. -/
def State.setVoice (s : State) (n : Nat) (v : Voice) : State :=
  { s with se := { s.se with voices := s.se.voices.set n v } }

/-- R33: a fetch for voice `n` at generation `g` is in flight. -/
def fetchFor (f : Option Fetch) (n : Nat) (g : BitVec 8) : Bool :=
  match f with
  | some f => f.requester == .voice n && f.generation == g
  | none => false

/-- R33: conditions 1, 3 and 4 of the fetch-request flag. -/
def Voice.wantsFetch (v : Voice) : Bool :=
  v.busy && decide (0 < v.wanted) && decide (v.wanted ≤ v.free)

/-- R33: every voice's fetch-request flag re-evaluated. No request is formed outside ACTIVE (R43, R45). -/
def State.markRequests (s : State) : State :=
  { s with se := { s.se with voices := s.se.voices.mapIdx fun n v =>
      { v with request := (s.sb.power == .active) && v.wantsFetch && !fetchFor s.sp.fetch n v.generation } } }

/-! ### Grants (R34, R35, R41, R45) -/

/-- R34: the voices from the one after the last granted, ending at that one. -/
def searchOrder (last : Nat) : List Nat := (List.range 8).map fun i => (last + 1 + i) % 8

/-- R33, R34: the first voice in the search with a request of the class. -/
def State.pickVoice (s : State) (urgent : Bool) : Option Nat :=
  (searchOrder s.sp.lastVoice).find? fun n =>
    (s.voice n).request && (decide ((s.voice n).ring.length < 32) == urgent)

/-- R31: a fetch granted now; it completes (2 + N/8) µs on. -/
def State.newFetch (s : State) (r : Requester) (g : BitVec 8) (a n : Nat) : Fetch :=
  { requester := r, generation := g, address := a, size := n, abandoned := false, due := s.now + 2 * Config.usec + n }

/-- R35: the grant to a voice. -/
def State.grantVoice (s : State) (n : Nat) : State :=
  let v := s.voice n
  { s with sp := { s.sp with
      fetch := some (s.newFetch (.voice n) v.generation v.fetchAddr (min v.wanted v.free)), lastVoice := n } }

/-- R41: the loader's request and the fetch it asks for, with generation 0 (log 5). -/
def State.loaderFetch (s : State) : Option Fetch :=
  match s.sp.load with
  | some l =>
    if l.buffer.length < l.size then
      some (s.newFetch .loader 0 (l.address + l.buffer.length) (min 32 (l.size - l.buffer.length)))
    else none
  | none => none

/-- R182, R187: where the read under way begins and how long it is: the profile image in stage 4, the directory in
stage 6. -/
def State.readerSpan (s : State) : Nat × Nat :=
  if s.sb.stage = 4 then (0, 64) else if s.sb.stage = 6 then (s.sp.profile.directory, 256) else (0, 0)

/-- R45: the power-up reader's next fetch, with generation 0 (log 5). -/
def State.readerFetch (s : State) : Option Fetch :=
  let got := s.sp.reader.length
  if got < s.readerSpan.2 then
    some (s.newFetch .powerUp 0 (s.readerSpan.1 + got) (min 32 (s.readerSpan.2 - got)))
  else none

/-- R34, R43, R45: the grant made when the port is IDLE: in ACTIVE to an URGENT voice, then the loader, then a NORMAL
voice; in WAKING to the power-up reader; in STANDBY and KEEP to none. -/
def State.grant (s : State) : State :=
  match s.sp.fetch with
  | some _ => s
  | none =>
    match s.sb.power with
    | .active =>
      match s.pickVoice true with
      | some n => s.grantVoice n
      | none =>
        match s.loaderFetch with
        | some f => { s with sp := { s.sp with fetch := some f } }
        | none =>
          match s.pickVoice false with
          | some n => s.grantVoice n
          | none => s
    | .waking =>
      match s.readerFetch with
      | some f => { s with sp := { s.sp with fetch := some f } }
      | none => s
    | _ => s

/-- Requests re-evaluated, a grant made if the port is IDLE, and the granted voice's flag cleared by it (R33 to
R35). -/
def State.serviceStore (s : State) : State := s.markRequests.grant.markRequests

/-! ### The held reply and the held AWAIT (R166, R167, R176) -/

/-- What a block returns for a request: an outcome and a reply payload. -/
structure Reply where
  code : Code
  payload : List Byte
  deriving DecidableEq, Repr

/-- R176: a reply framed and held, its outgoing mark clear and bytes sent 0 (log 37). -/
def State.holdReply (s : State) (kind tag : Byte) (extra : Bool) (r : Reply) : State :=
  { s with lp := { s.lp with
      held := some (replyFrame kind tag (r.code.withExtra extra) r.payload), outgoing := false, sent := 0 } }

/-- R190, R166: an AWAIT reply's payload, the members as they stand. A member's first byte is its latch, or its level
if it is a condition. -/
def State.awaitPayload (s : State) (ms ready : MemberSet) (elapsed : Nat) : List Byte :=
  memberSetBytes ready ++ leBytes 2 elapsed ++ (membersOf ms).flatMap fun m =>
    [flagByte (if m.isCondition then m.isIn s.au.level else m.isIn s.au.latch), flagByte (m.isIn s.au.woke)]
      ++ s.au.details.bytes m

/-- R166: the consumption of a member set. -/
def State.consume (s : State) (ms : MemberSet) : State := { s with au := s.au.clearSet ms }

/-- R167: whole milliseconds since an AWAIT's arrival. -/
def State.awaited (s : State) (a : PendingAwait) : Nat := (s.now - a.arrival) / Config.msec

/-- R167: the end of a held AWAIT by new latchings or risings `fresh`. -/
def State.endAwait (s : State) (fresh : MemberSet) : State :=
  match s.lp.await with
  | none => s
  | some a =>
    if a.members &&& fresh = 0 then s
    else
      let s' := { s with lp := { s.lp with await := none } }
      (s'.holdReply Kind.await a.tag a.extra
        ⟨.ok, s.awaitPayload a.members (a.members &&& fresh) (s.awaited a)⟩).consume a.members

/-- R154: new latchings or risings `fresh` in STANDBY return the part to ACTIVE and are marked woke. -/
def State.wakeBy (s : State) (fresh : MemberSet) : State :=
  if s.sb.power = .standby ∧ fresh ≠ 0 then
    { s.enterActive with au := { s.au with woke := s.au.woke ||| fresh } }
  else s

/-! ### The close of an event -/

/-- R154, R158, R159, R167: what an event that began in `s0` and led to `s` does by its latchings: conditions are
reported, a wake is made, a held AWAIT is ended. The members that newly latched or rose are those whose latch is set
in `s` and was clear in `s0`. -/
def State.attend (s0 s : State) : State :=
  let s1 := s.report
  let fresh := s1.au.latch &&& ~~~ s0.au.latch
  (s1.wakeBy fresh).endAwait fresh

/-- The close of an event that is no request: attention, the store's service and the recomputed values. -/
def State.conclude (s0 s : State) : State := (State.attend s0 s).serviceStore.refresh

/-- The close of a request's event: its frame has woken the part and ended a held AWAIT before it was served. -/
def State.concludeRequest (s : State) : State := s.report.serviceStore.refresh

/-! ### Requests (R153, R174 to R176) -/

/-- How a kind is served: from the power state at the frame's arrival and the state, a state and its reply (no reply
for an AWAIT that is held). -/
abbrev Service := PowerState → State → State × Option Reply

/-- A request refused: no state of the owning block changes, and the reply's payload is empty (R176, R177). -/
def refuse (s : State) (c : Code) : State × Option Reply := (s, some ⟨c, []⟩)

/-- A request served. -/
def serve (s : State) (c : Code) (payload : List Byte) : State × Option Reply := (s, some ⟨c, payload⟩)

/-- R153, R172, R176 (1, 2): what a completed frame does before it is served: the parser returns to HUNT, the part
wakes from STANDBY, a pending AWAIT is discarded, and an uncollected reply is lost with REPLY_LOST. The record of the
frame completed goes to its idle values, bytes taken and extent 0 and an empty buffer, and bytes sent to 0 with the
reply lost (log 37). -/
def State.arrive (s : State) : State :=
  let s1 := if s.sb.power = .standby then s.enterActive else s
  let s2 := { s1 with lp := { s1.lp with parser := .hunt, taken := 0, extent := 0, frame := {}, await := none } }
  let s3 := match s2.lp.held with
    | none => s2
    | some r => { s2.raiseReplyLost (byteAt r 2) with lp := { s2.lp with held := none, outgoing := false, sent := 0 } }
  s3.report.refresh

/-- The reply of a served request framed and held, if it has one. -/
def State.answer (kind tag : Byte) (extra : Bool) (r : State × Option Reply) : State :=
  match r.2 with
  | some reply => r.1.holdReply kind tag extra reply
  | none => r.1

/-- R174 (4): outside HELLO, WAKING answers NOT_READY. -/
def readied (kind : Byte) (svc : Service) : Service := fun p s =>
  if p = .waking ∧ kind ≠ Kind.hello then refuse s .notReady else svc p s

/-- R172, R176, R179: the completion event of a request frame whose length and check are right. In KEEP the Link Port
is unpowered and takes none (R169). While a reset is pending the frame is not served and the reset is made. -/
def State.complete (s : State) (kind tag : Byte) (extra : Bool) (svc : Service) : State :=
  if s.sb.power = .keep then s
  else if s.lp.pendingReset then (s.resetMade).serviceStore.refresh
  else (State.answer kind tag extra (readied kind svc s.sb.power s.arrive)).concludeRequest

/-- A request row: the completion of its frame (log 7). -/
def request (h : ReqHead) (kind : Byte) (svc : Service) (s : State) : Result :=
  .next (s.complete kind h.tag h.extra svc)

end Sys2Proof.Machine
end

