-- ==== Sys2Proof/Machine/Attend.lean ====
section
/-! DEFINITION. The Attention Unit's requests and the expiry of an AWAIT (08 R163 to R167). -/

namespace Sys2Proof.Machine

/-! ### WATCH-SET and WATCH-READ (R163) -/

/-- R163: the watch set replaced. -/
def State.setWatch (s : State) (ms : MemberSet) : State := { s with au := { s.au with watch := ms } }

/-- WATCH-SET served (R163). -/
def serveWatchSet (members : Triple) : Service := fun _ s =>
  if namesNoMember members then refuse s .range
  else
    let s' := s.setWatch (memberSetOf members)
    serve s' .ok (memberSetBytes s'.au.watch ++ memberSetBytes s'.notice)

/-- WATCH_SET (R163). -/
def execWatchSet (h : ReqHead) (members : Triple) (s : State) : Result :=
  request h Kind.watchSet (serveWatchSet members) s

/-- WATCH-READ served (R163); ATTN's codes by the order "asserted or released" (log 15). -/
def serveWatchRead : Service := fun _ s =>
  serve s .ok (memberSetBytes s.au.watch ++ memberSetBytes s.notice ++ [flagByte (!s.au.attn)])

/-- WATCH_READ (R163). -/
def execWatchRead (h : ReqHead) (s : State) : Result := request h Kind.watchRead serveWatchRead s

/-! ### REASONS-TAKE (R164, R165) -/

/-- R164: a member as the GROUPS form gives it. -/
def Attention.memberBytes (a : Attention) (m : Member) : List Byte :=
  if m.isCondition then
    flagByte (m.isIn a.level) :: a.details.bytes m ++ [flagByte (m.isIn a.latch), flagByte (m.isIn a.woke)]
  else flagByte (m.isIn a.latch) :: a.details.bytes m ++ [flagByte (m.isIn a.woke)]

/-- R189: the groups a group set names, in rising number. -/
def namedGroups (groups : Byte) : List Nat := (List.range 6).filter fun g => groups.getLsbD g

/-- R164, R189: a group set that names a group above 5. -/
def namesNoGroup (groups : Byte) : Bool := groups.getLsbD 6 || groups.getLsbD 7

/-- REASONS-TAKE served in the GROUPS form (R164). -/
def serveReasonsGroups (groups : Byte) : Service := fun _ s =>
  if namesNoGroup groups then refuse s .range
  else
    serve (s.consume (groupsMask groups)) .ok
      (counted (namedGroups groups) fun g => counted (groupMembers g) s.au.memberBytes)

/-- REASONS_TAKE_GROUPS (R164). -/
def execReasonsTakeGroups (h : ReqHead) (groups : Byte) (s : State) : Result :=
  request h Kind.reasonsTake (serveReasonsGroups groups) s

/-- R165: one group as the SUMMARY form gives it. -/
def Attention.groupSummary (a : Attention) (g : Nat) : List Byte :=
  [flagByte ((groupMembers g).any fun m => m.isIn a.latch || m.isIn a.woke),
   flagByte ((groupMembers g).any fun m => m.isIn a.level)]

/-- REASONS-TAKE served in the SUMMARY form: a group set that names a group above 5 is refused in either form (R164,
R189), and an accepted one is ignored (R165, log 30). -/
def serveReasonsSummary (groups : Byte) : Service := fun _ s =>
  if namesNoGroup groups then refuse s .range
  else serve s .ok (counted (List.range 6) s.au.groupSummary ++ [flagByte (s.notice == 0)])

/-- REASONS_TAKE_SUMMARY (R165). -/
def execReasonsTakeSummary (h : ReqHead) (groups : Byte) (s : State) : Result :=
  request h Kind.reasonsTake (serveReasonsSummary groups) s

/-! ### AWAIT and its expiry (R166, R167) -/

/-- R166: the ready set of an AWAIT at its arrival: the members of its set that are latched or true. -/
def State.readySet (s : State) (ms : MemberSet) : MemberSet := ms &&& (s.au.latch ||| s.au.level)

/-- R166: the record of an AWAIT held from `now`; a limit of 0 is taken as 1. -/
def heldAwait (h : ReqHead) (ms : MemberSet) (limit now : Nat) : PendingAwait :=
  { members := ms, arrival := now, expiry := now + max 1 limit * Config.msec, tag := h.tag, extra := h.extra }

/-- R166: an AWAIT held. -/
def State.holdAwait (s : State) (h : ReqHead) (ms : MemberSet) (limit : Nat) : State :=
  { s with lp := { s.lp with await := some (heldAwait h ms limit s.now) } }

/-- AWAIT served (R166). -/
def serveAwait (h : ReqHead) (members : Triple) (limit : Half) : Service := fun _ s =>
  if namesNoMember members then refuse s .range
  else
    let ms := memberSetOf members
    if s.readySet ms ≠ 0 then serve (s.consume ms) .ok (s.awaitPayload ms (s.readySet ms) 0)
    else (s.holdAwait h ms limit.toNat, none)

/-- AWAIT (R166). -/
def execAwait (h : ReqHead) (members : Triple) (limit : Half) (s : State) : Result :=
  request h Kind.await (serveAwait h members limit) s

/-- R167: the limit of a held AWAIT expires. -/
def State.expireAwait (s : State) (a : PendingAwait) : State :=
  let s1 := s.elapseTo a.expiry
  let s2 := { s1 with lp := { s1.lp with await := none } }
  State.conclude s (s2.holdReply Kind.await a.tag a.extra ⟨.timeout, s2.awaitPayload a.members 0 (s2.awaited a)⟩)

/-- AWAIT_EXPIRY (R167); no event with no AWAIT held (log 6). -/
def execAwaitExpiry (s : State) : Result :=
  .next (match s.lp.await with
    | some a => s.expireAwait a
    | none => s)

end Sys2Proof.Machine
end

