-- ==== Sys2Proof/Machine/RumbleOps.lean ====
section
/-! DEFINITION. Shared operations of the Rumble Unit: finding a pattern, the load list, layer starts, load ends, cues
(02 R39 to R42; 06 R117 to R123, R126, R127, R132 to R134). -/

namespace Sys2Proof.Machine

/-- The layer record `n`. -/
def State.layer (s : State) (n : Nat) : Layer := s.ru.layers.getD n {}

/-- The layer record `n` replaced. -/
def State.setLayer (s : State) (n : Nat) (l : Layer) : State :=
  { s with ru := { s.ru with layers := s.ru.layers.set n l } }

/-- Every layer record replaced. -/
def State.mapLayers (s : State) (f : Nat → Layer → Layer) : State :=
  { s with ru := { s.ru with layers := s.ru.layers.mapIdx f } }

/-- The cue record `n`. -/
def State.cue (s : State) (n : Nat) : Cue := s.ru.cues.getD n {}

/-- The cue record `n` replaced. -/
def State.setCue (s : State) (n : Nat) (c : Cue) : State :=
  { s with ru := { s.ru with cues := s.ru.cues.set n c } }

/-- R121: a busy layer is LOADING or RUNNING. -/
def Layer.busy (l : Layer) : Bool := l.state != .idle

/-- R121, R124: a layer made IDLE: pattern id, priority and scale stay, value and output become 0. -/
def Layer.stop (l : Layer) : Layer := { l with state := .idle, value := 0, output := 0 }

/-! ### Finding a pattern (R117, R118) -/

/-- The record of a host pattern slot 64..71, if it holds one. -/
def State.hostPattern (s : State) (id : Nat) : Option Pattern := (s.ru.host.getD (id - 64) none)

/-- The cached record of a store pattern, if cached. -/
def State.cached (s : State) (id : Nat) : Option Pattern :=
  (s.ru.cache.find? fun c => c.id == id).map (·.pattern)

/-- R118: the four cases. -/
inductive Finding where
  | missing
  | ready (p : Pattern)
  | load
  deriving DecidableEq, Repr

def State.findPattern (s : State) (id : Nat) : Finding :=
  if 64 ≤ id then
    match s.hostPattern id with
    | none => .missing
    | some p => .ready p
  else
    match s.cached id with
    | some p => .ready p
    | none => .load

/-- R117: an entry moved to the front of the recency order; an id not cached moves nothing. -/
def cacheTouch (cache : List Cached) (id : Nat) : List Cached :=
  match cache.find? fun c => c.id == id with
  | some c => c :: cache.filter fun c => c.id != id
  | none => cache

/-- R117, R115: a RUNNING or LOADING layer has the id as its pattern. -/
def State.cacheInUse (s : State) (id : Nat) : Bool := s.ru.layers.any fun l => l.busy && l.id == id

/-- R115: a RUNNING layer plays the host slot's id. -/
def State.slotInUse (s : State) (id : Nat) : Bool := s.ru.layers.any fun l => l.state == .running && l.id == id

/-- R119: the cache less its victim, the entry latest in the recency order among those not in use. -/
def State.withoutVictim (s : State) : List Cached :=
  (s.ru.cache.reverse.eraseP fun c => !s.cacheInUse c.id).reverse

/-- R119, placement: the record placed at the front of the recency order, in a new entry or the victim's. -/
def State.place (s : State) (id : Nat) (p : Pattern) : State :=
  let rest := if s.ru.cache.length < 8 then s.ru.cache else s.withoutVictim
  { s with ru := { s.ru with cache := { id := id, pattern := p } :: rest } }

/-! ### Running a layer (R123, R126, R127) -/

/-- R123: passes left at a start. -/
def Pattern.passes (p : Pattern) : Passes := if p.repeats = 255 then .endless else .left p.repeats

/-- R123, ready pattern: a layer RUNNING from step 0 of a record. -/
def Layer.run (l : Layer) (p : Pattern) : Layer :=
  { l with state := .running, step := 0, tick := 0, passes := p.passes, start := 0, value := 0, output := 0, pattern := p }

/-- R114: the step at which later passes begin. -/
def Pattern.again (p : Pattern) : Nat := if p.returnStep < p.steps.length then p.returnStep else 0

/-- R127: the value at tick `k` of a step begun from `a`. -/
def stepValue (st : PatternStep) (a k : Nat) : Nat :=
  if st.ramp then ((a : Int) + ((st.target : Int) - a) * k / st.duration).toNat else st.target

/-- R126: the step a layer plays. -/
def Layer.current (l : Layer) : PatternStep := l.pattern.steps.getD l.step ⟨0, 0, false⟩

/-- R126, R127: a layer still RUNNING takes a tick of its step. -/
def Layer.takeTick (l : Layer) : Layer :=
  let k := l.tick + 1
  let v := stepValue l.current l.start k
  { l with tick := k, value := v, output := v * l.scale / 255 }

/-- R126: the step of a RUNNING layer is complete. -/
def Layer.stepDone (l : Layer) : Bool := l.tick == l.current.duration

/-- R126: a RUNNING layer at a tick; the flag says that it ends naturally. -/
def Layer.advance (l : Layer) : Layer × Bool :=
  if !l.stepDone then (l.takeTick, false)
  else if l.step + 1 < l.pattern.steps.length then
    ({ l with start := l.value, step := l.step + 1, tick := 0 }.takeTick, false)
  else
    match l.passes with
    | .left 0 => ({ l.stop with start := l.value, tick := 0 }, true)
    | .left (n + 1) =>
      ({ l with start := l.value, step := l.pattern.again, tick := 0, passes := .left n }.takeTick, false)
    | .endless => ({ l with start := l.value, step := l.pattern.again, tick := 0 }.takeTick, false)

/-! ### The pattern loader (R39 to R42, R119, R120) -/

/-- R120: a load that ended MISSING or BAD: PATTERN_MISSING, and its waiting layers become IDLE. -/
def State.loadFailed (s : State) (id : Nat) : State :=
  (s.mapLayers fun _ l => if l.state = .loading ∧ l.id = id then l.stop else l).raisePatternMissing id

/-- R119: a load that ended LOADED: placement, then the waiting layers run in layer-number order. -/
def State.loadDone (s : State) (id : Nat) (p : Pattern) : State :=
  (s.place id p).mapLayers fun _ l => if l.state = .loading ∧ l.id = id then l.run p else l

/-- R40: the directory entry of a store pattern, absent at or above the pattern count or with step count 0. -/
def State.dirEntry (s : State) (id : Nat) : Option DirEntry :=
  let e := s.sp.directory.getD id {}
  if s.sp.profile.patternCount ≤ id ∨ e.steps = 0 then none else some e

/-- R183: the store size in bytes. -/
def State.storeSize (s : State) : Nat := s.sp.profile.storeUnits * 65536

/-- R40: the current load a directory entry calls for; none when a check gives MISSING or BAD. -/
def State.loadFor (s : State) (id : Nat) : Option Load :=
  match s.dirEntry id with
  | none => none
  | some e =>
    if 32 < e.steps ∨ s.storeSize < e.address + 4 + 3 * e.steps then none
    else some { address := e.address, size := 4 + 3 * e.steps, buffer := [] }

/-- R40: the ids `ids` of the load list in turn become the current load, until one passes its checks. -/
def State.beginFrom (s : State) : List Nat → State
  | [] => { s with sp := { s.sp with loadList := [], load := none } }
  | id :: rest =>
    match s.loadFor id with
    | some l => { s with sp := { s.sp with loadList := id :: rest, load := some l } }
    | none => (s.loadFailed id).beginFrom rest

/-- R40: a load begins when the list is not empty and there is no current load. -/
def State.beginLoad (s : State) : State :=
  match s.sp.load with
  | some _ => s
  | none => s.beginFrom s.sp.loadList

/-- R39: the queued ids that no LOADING layer waits on leave the list; a current load stays. -/
def State.purgeQueue (s : State) : State :=
  let waited (id : Nat) : Bool := s.ru.layers.any fun l => l.state == .loading && l.id == id
  let list := match s.sp.load with
    | some _ => s.sp.loadList.take 1 ++ (s.sp.loadList.drop 1).filter waited
    | none => s.sp.loadList.filter waited
  { s with sp := { s.sp with loadList := list } }

/-- R39: an id added at the end of the list, unless it is there. -/
def State.enqueue (s : State) (id : Nat) : State :=
  if s.sp.loadList.contains id then s
  else { s with sp := { s.sp with loadList := s.sp.loadList ++ [id] } }

/-! ### Layer starts (R122, R123) -/

/-- R122 (2, 3), R133, R135: the checks of a layer start. -/
def State.startRefused (s : State) (layer id priority : Nat) : Option Code :=
  if s.findPattern id = .missing then some .notFound
  else if (s.layer layer).busy ∧ priority < (s.layer layer).priority then some .busy
  else none

/-- R123: a layer start that passed its checks. A layer that waits for a load leaves the loader in the same event;
queued ids that nobody waits on any more are removed before the new one is added. The passes left of a LOADING layer
are 0 (log 33). -/
def State.startLayer (s : State) (layer id priority scale : Nat) : State :=
  let l := { s.layer layer with id := id, priority := priority, scale := scale }
  match s.findPattern id with
  | .missing => s
  | .ready p =>
    let s' := (s.setLayer layer (l.run p)).purgeQueue
    { s' with ru := { s'.ru with cache := if id < 64 then cacheTouch s'.ru.cache id else s'.ru.cache } }
  | .load =>
    let waiting := { l with state := .loading, step := 0, tick := 0, passes := .left 0, start := 0, value := 0, output := 0 }
    ((s.setLayer layer waiting).purgeQueue.enqueue id).beginLoad

/-- R122: the state a layer enters by a start: RUNNING on a ready pattern, else LOADING (log 16). -/
def State.startState (s : State) (id : Nat) : LayerState :=
  match s.findPattern id with
  | .ready _ => .running
  | _ => .loading

/-- R124, R137: the layers a predicate names end their use and become IDLE. -/
def State.stopLayers (s : State) (p : Nat → Bool) : State :=
  (s.mapLayers fun n l => if p n && l.busy then l.stop else l).purgeQueue

/-! ### Cues (R129, R132 to R134) -/

/-- R129: an armed cue. -/
def Cue.armed (c : Cue) : Bool := c.state != .unarmed

/-- R129: a crossing matches a trigger. -/
def Trigger.matchesCrossing (t : Trigger) (x : Crossing) : Bool :=
  t.voice == x.voice && t.marker == x.marker && t.generation == x.generation

/-- R133: cue `n` fires. -/
def State.fireCue (s : State) (n : Nat) : State :=
  let c := s.cue n
  let s' := s.setCue n { c with state := .unarmed }
  match s'.startRefused c.layer c.pattern c.priority with
  | some _ => s'.raiseCueLapsed n .blocked
  | none => (s'.startLayer c.layer c.pattern c.priority c.scale).raiseCueFired n

/-- R132 (1): cue `n` at one crossing of the report. -/
def State.cueAt (x : Crossing) (s : State) (n : Nat) : State :=
  let c := s.cue n
  match c.state with
  | .unarmed => s
  | .waitFirst =>
    if c.first.matchesCrossing x then
      match c.second with
      | none => s.fireCue n
      | some _ => s.setCue n { c with state := .waitSecond }
    else s
  | .waitSecond =>
    match c.second with
    | some t => if t.matchesCrossing x then s.fireCue n else s
    | none => s

/-- R132 (1): a crossing report taken, crossing by crossing, cues 0..3 in order at each. -/
def State.takeReport (s : State) (report : List Crossing) : State :=
  report.foldl (fun s x => [0, 1, 2, 3].foldl (State.cueAt x) s) s

/-- R134: a cue has a trigger voice in a set of voices. -/
def Cue.waitsOn (c : Cue) (vs : BitVec 8) : Bool :=
  vs.getLsbD c.first.voice || (match c.second with | some t => vs.getLsbD t.voice | none => false)

/-- R134: cue `n` lapses if it is armed on a voice of the set. -/
def State.lapseCue (vs : BitVec 8) (s : State) (n : Nat) : State :=
  let c := s.cue n
  if c.armed && c.waitsOn vs then (s.setCue n { c with state := .unarmed }).raiseCueLapsed n .voice else s

/-- R134: the cues that wait on a voice of the set lapse with cause VOICE. -/
def State.lapseCues (s : State) (vs : BitVec 8) : State := [0, 1, 2, 3].foldl (State.lapseCue vs) s

end Sys2Proof.Machine
end

