-- ==== Sys2Proof/Machine/DayOps.lean ====
section
/-! DEFINITION. Shared operations of the Day Reckoner: the raw day, reckonings and their deferral, firings and their
placement, the ON_CLOCK pass, the cell measurement (05 R90 to R97, R103 to R109; 07 R145). -/

namespace Sys2Proof.Machine

/-! ### The raw day (R90, R91) -/

/-- R90: the day start O in seconds. -/
def Profile.dayStart (p : Profile) : Nat := p.hour * 3600 + p.minute * 60

/-- R91: RD(S). -/
def rawDayOf (o seconds : Nat) : Nat := (seconds + 86400 - o) / 86400

/-- R91: the raw day of S as it stands with the current O. -/
def State.rawDay (s : State) : Nat := rawDayOf s.sp.profile.dayStart s.cu.seconds

/-! ### Cell measurement (R145) -/

/-- R145: the cell class after a measurement. -/
def measuredClass (before : CellClass) (mv : Nat) : CellClass :=
  match before with
  | .good => if mv < Config.cellBelow then .low else .good
  | .low => if Config.cellClears ≤ mv then .good else .low

/-- R145: a cell measurement. -/
def State.measureCell (s : State) : State :=
  { s with sb := { s.sb with cell := measuredClass s.sb.cell s.sb.cellMv } }

/-! ### Arithmetic (R93, R94) -/

/-- R93, R94: the day keep record after a reckoning's arithmetic, and the days credited. -/
def DayReckoner.reckon (d : DayReckoner) (raw : Nat) (restart : Bool) (limit : Nat) : DayReckoner × Nat :=
  if raw ≤ d.l then (d, 0)
  else if restart then ({ d with l := raw }, 0)
  else
    let advance := raw - d.l
    let credited := min advance limit
    ({ d with
        g := min (d.g + credited) 65535
        forfeited := min (d.forfeited + advance - credited) 65535
        l := raw }, credited)

/-! ### Firing (R103 to R106) -/

/-- A firing: its occurrences, its late value and, for EVERY, the latest day. -/
structure Firing where
  occurrences : Nat
  late : Nat
  latest : Nat
  deriving DecidableEq, Repr

/-- R104, R109: whole days by which S stands past an ON_CLOCK target. -/
def clockLate (seconds target : Nat) : Nat := min 65535 ((seconds - target) / 86400)

/-- R103: days (`gOld`, `gNew`] that meet a period and phase. -/
def everyCount (period phase gOld gNew : Nat) : Nat :=
  (((gNew : Int) - phase) / period - ((gOld : Int) - phase) / period).toNat

/-- R103: how far the latest day that meets a period and phase lies behind `g`. -/
def everyLate (period phase g : Nat) : Nat := (((g : Int) - phase) % period).toNat

/-- R103, R104: what an entry's target finds in a pass over the day interval (`gOld`, `gNew`] at `seconds`. -/
def EntryKind.firing (k : EntryKind) (gOld gNew seconds : Nat) : Option Firing :=
  match k with
  | .onDay t => if gOld < t ∧ t ≤ gNew then some ⟨1, gNew - t, 0⟩ else none
  | .every p f =>
    let n := everyCount p f gOld gNew
    if 0 < n then some ⟨min 65535 n, everyLate p f gNew, gNew - everyLate p f gNew⟩ else none
  | .onClock t => if t ≤ seconds then some ⟨1, clockLate seconds t, 0⟩ else none

/-- R105: an EVERY entry stays in the table when its record is appended. -/
def EntryKind.stays : EntryKind → Bool
  | .every _ _ => true
  | _ => false

/-- R106: the record a firing appends, its action-run flag still clear. -/
def Entry.record (e : Entry) (g occurrences late : Nat) : Fired :=
  { id := e.id, tag := e.tag, kind := e.kind.fired, g := g, occurrences := occurrences, late := late, ran := false }

/-- R103: an entry in state DUE at a firing pass: EVERY gathers, the others are passed over. -/
def Entry.gather (e : Entry) (f : Firing) : Entry :=
  match e.kind with
  | .every _ _ => { e with accumulated := satAdd 65535 e.accumulated f.occurrences, latest := f.latest }
  | _ => e

/-- R105: an entry made DUE for want of room. -/
def Entry.makeDue (e : Entry) (f : Firing) : Entry :=
  { e with due := true, accumulated := f.occurrences, latest := if e.kind.stays then f.latest else e.latest }

/-- What a firing pass has produced so far: the table kept, the fired list, and the actions to hand over, each with
the place of its record in the list. -/
structure PassOut where
  table : List Entry
  fired : List Fired
  actions : List (Nat × Action)
  deriving DecidableEq, Repr

/-- R103 to R105, R107: one entry of a firing pass. An action is handed over only for late 0. -/
def PassOut.visit (gOld gNew seconds : Nat) (o : PassOut) (e : Entry) : PassOut :=
  match e.kind.firing gOld gNew seconds with
  | none => { o with table := o.table ++ [e] }
  | some f =>
    if e.due then { o with table := o.table ++ [e.gather f] }
    else if o.fired.length < 16 then
      { table := if e.kind.stays then o.table ++ [e] else o.table
        fired := o.fired ++ [e.record gNew f.occurrences f.late]
        actions := match e.action with
          | some a => if f.late = 0 then o.actions ++ [(o.fired.length, a)] else o.actions
          | none => o.actions }
    else { o with table := o.table ++ [e.makeDue f] }

/-- R103 to R105: a firing pass over the table in ascending id. -/
def firingPass (gOld gNew seconds : Nat) (table : List Entry) (fired : List Fired) : PassOut :=
  table.foldl (PassOut.visit gOld gNew seconds) { table := [], fired := fired, actions := [] }

/-! ### Actions (R107, R135) -/

/-- R107: the action-run flag of the record at place `n` set. -/
def State.markRan (s : State) (n : Nat) : State :=
  { s with dr := { s.dr with fired := s.dr.fired.modify n fun r => { r with ran := true } } }

/-- R107, R135: one action handed to the Rumble Unit. -/
def State.runAction (s : State) (x : Nat × Action) : State :=
  match s.startRefused x.2.layer x.2.pattern x.2.priority with
  | some _ => s
  | none => (s.startLayer x.2.layer x.2.pattern x.2.priority x.2.scale).markRan x.1

/-- R95 (2, 3), R104: a pass over the table and its actions, which run in ACTIVE alone (R107). With an empty day
interval it is the ON_CLOCK pass: then ON_CLOCK entries alone can fire. -/
def State.fire (s : State) (gOld gNew : Nat) : State :=
  let o := firingPass gOld gNew s.cu.seconds s.dr.table s.dr.fired
  let s' := { s with dr := { s.dr with table := o.table, fired := o.fired } }
  if s.sb.power = .active then o.actions.foldl State.runAction s' else s'

/-! ### Reckonings (R92, R95, R96) -/

def Causes.union (a b : Causes) : Causes :=
  { rollover := a.rollover || b.rollover
    powerUp := a.powerUp || b.powerUp
    clockSet := a.clockSet || b.clockSet
    restart := a.restart || b.restart }

/-- R95: a reckoning run in full. It runs as RESTART by its cause or because the clock is INVALID (R92, R96). -/
def State.reckonNow (s : State) (c : Causes) (limit : Nat) : State :=
  let r := s.dr.reckon s.rawDay (c.restart || !s.cu.valid) limit
  let s1 := { s with dr := r.1 }.fire s.dr.g r.1.g
  let s2 := if 0 < r.2 then s1.raiseDayTurn r.2 else s1
  if c.rollover then s2.measureCell else s2

/-- R96: a reckoning merged into the deferred reckoning record. -/
def mergeDeferred (d : Option Deferred) (c : Causes) (limit : Nat) : Deferred :=
  match d with
  | none => { causes := c, limit := limit }
  | some d => { causes := d.causes.union c, limit := max d.limit limit }

/-- R92, R96: a reckoning handed to the DR: run at once, or deferred under FENCE. -/
def State.reckon (s : State) (c : Causes) (limit : Nat) : State :=
  if s.sb.supply = .fence then
    { s with dr := { s.dr with deferred := some (mergeDeferred s.dr.deferred c limit) } }
  else s.reckonNow c limit

/-- R92: a ROLLOVER reckoning, limit C. -/
def State.reckonRollover (s : State) : State := s.reckon { rollover := true } s.sp.profile.catchUp
/-- R92: a POWER_UP reckoning, limit C. -/
def State.reckonPowerUp (s : State) : State := s.reckon { powerUp := true } s.sp.profile.catchUp
/-- R92: a CLOCK_SET reckoning, limit K. -/
def State.reckonClockSet (s : State) : State := s.reckon { clockSet := true } s.sp.profile.setCredit
/-- R92: a RESTART reckoning, nothing credited. -/
def State.reckonRestart (s : State) : State := s.reckon { restart := true } 0

/-- R96: the deferred reckoning run as the class leaves FENCE. -/
def State.runDeferred (s : State) : State :=
  match s.dr.deferred with
  | none => s
  | some d => { s with dr := { s.dr with deferred := none } }.reckonNow d.causes d.limit

/-- R92, R96, R104: the per-second check of a second event. -/
def State.secondEvent (s : State) : State :=
  if s.dr.l < s.rawDay then s.reckonRollover
  else if s.sb.supply = .fence then s
  else s.fire s.dr.g s.dr.g

/-! ### Refill (R109) -/

/-- R109: the late value of a DUE entry listed. -/
def Entry.dueLate (e : Entry) (g seconds : Nat) : Nat :=
  match e.kind with
  | .onDay t => min 65535 (g - t)
  | .every _ _ => min 65535 (g - e.latest)
  | .onClock t => clockLate seconds t

/-- R109: one entry of the refill walk. -/
def PassOut.refill (g seconds : Nat) (o : PassOut) (e : Entry) : PassOut :=
  if e.due && decide (o.fired.length < 16) then
    { o with
      table := if e.kind.stays then o.table ++ [{ e with due := false, accumulated := 0, latest := 0 }] else o.table
      fired := o.fired ++ [e.record g e.accumulated (e.dueLate g seconds)] }
  else { o with table := o.table ++ [e] }

/-- R109: the fired list refilled from DUE entries. -/
def State.refillFired (s : State) : State :=
  let o := s.dr.table.foldl (PassOut.refill s.dr.g s.cu.seconds) { table := [], fired := s.dr.fired, actions := [] }
  { s with dr := { s.dr with table := o.table, fired := o.fired } }

end Sys2Proof.Machine
end

