-- ==== Sys2Proof/Machine/Clock.lean ====
section
/-! DEFINITION. The Clock Unit: civil time, the end of a second, the crystal monitor and the clock requests
(04 R75 to R85). -/

namespace Sys2Proof.Machine

/-! ### Civil time (R79) -/

/-- R79: a year of 2000..2099 is a leap year when it is divisible by 4. -/
def leapYear (year : Nat) : Bool := year % 4 == 0

/-- R79: the first day-of-year of each month. -/
def monthStarts (leap : Bool) : List Nat :=
  if leap then [0, 31, 60, 91, 121, 152, 182, 213, 244, 274, 305, 335]
  else [0, 31, 59, 90, 120, 151, 181, 212, 243, 273, 304, 334]

/-- R79: the days in a month. -/
def monthDays (leap : Bool) (month : Nat) : Nat :=
  ([31, if leap then 29 else 28, 31, 30, 31, 30, 31, 31, 30, 31, 30, 31] : List Nat).getD (month - 1) 0

/-- The first day-of-year of a month. -/
def monthStart (leap : Bool) (month : Nat) : Nat := (monthStarts leap).getD (month - 1) 0

/-- R79: the civil form of a seconds count. -/
structure Civil where
  year : Nat
  month : Nat
  day : Nat
  hour : Nat
  minute : Nat
  second : Nat
  weekday : Nat
  dayOfYear : Nat
  deriving DecidableEq, Repr

/-- R79 (3, 4): year and day-of-year of a day count. -/
def yearOf (days : Nat) : Nat × Nat :=
  let q := days % 1461
  let base := 2000 + 4 * (days / 1461)
  if q < 366 then (base, q) else (base + 1 + (q - 366) / 365, (q - 366) % 365)

/-- R79 (5): the month of a day-of-year. -/
def monthOf (leap : Bool) (dayOfYear : Nat) : Nat := ((monthStarts leap).filter fun d => decide (d ≤ dayOfYear)).length

/-- R79: S to its civil form. -/
def civilOf (seconds : Nat) : Civil :=
  let days := seconds / 86400
  let secs := seconds % 86400
  let y := yearOf days
  let month := monthOf (leapYear y.1) y.2
  { year := y.1, month := month, day := y.2 - monthStart (leapYear y.1) month + 1
    hour := secs / 3600, minute := secs % 3600 / 60, second := secs % 60
    weekday := (days + 6) % 7, dayOfYear := y.2 }

/-- R79: the days before a year. -/
def daysBefore (year : Nat) : Nat :=
  let k := (year - 2000) % 4
  1461 * ((year - 2000) / 4) + if k = 0 then 0 else 366 + 365 * (k - 1)

/-- R79: a civil date and time to S. -/
def secondsOf (year month day hour minute second : Nat) : Nat :=
  (daysBefore year + monthStart (leapYear year) month + (day - 1)) * 86400 + hour * 3600 + minute * 60 + second

/-! ### Seconds (R75, R76) -/

/-- R76, R82: a second begins whole; the trim second is shortened or lengthened by t. -/
def ClockUnit.startSecond (c : ClockUnit) : ClockUnit :=
  if c.phase = 0 then { c with divider := c.trim.toNat, hold := (-c.trim).toNat } else { c with divider := 0, hold := 0 }

/-- R75: a second ends: S held at its maximum, the trim phase advanced, the next second begun. -/
def ClockUnit.endSecond (c : ClockUnit) : ClockUnit :=
  { c with seconds := min Config.maxSeconds (c.seconds + 1), phase := (c.phase + 1) % 64 }.startSecond

/-- R75: when the divider passes from 32,767 to 0, at the nominal crystal rate (log 11). -/
def State.secondDue (s : State) : Nat :=
  ((s.now * 64 / 15625 + (s.cu.hold + 32768 - s.cu.divider)) * 15625 + 63) / 64

/-- R75: the event of a second's end, at its moment; a second event follows when S increased and the part is ACTIVE or
STANDBY. -/
def State.secondEnds (s s1 : State) (cellMv : Nat) : State :=
  let s2 := { s1 with cu := s1.cu.endSecond, sb := { s1.sb with cellMv := cellMv } }
  State.conclude s (if s.cu.seconds < Config.maxSeconds ∧ s.sb.power.awake then s2.secondEvent else s2)

/-- R75, R78: a second ends if the clock is VALID at the moment it falls due. A clock that is INVALID, or that a full
format makes INVALID before that moment (R88), ends no second (log 6). -/
def State.endSecond (s : State) (cellMv : Nat) : State :=
  let s1 := s.elapseTo s.secondDue
  if s1.cu.valid then s.secondEnds s1 cellMv else s

/-- SECOND_END (R75). -/
def execSecondEnd (cellMv : Nat) (s : State) : Result := .next (s.endSecond cellMv)

/-! ### The crystal monitor (R77) -/

/-- R77: a stop found. -/
def ClockUnit.stop (c : ClockUnit) : ClockUnit :=
  if c.valid then { c with running := false, valid := false, divider := 0, hold := 0 } else { c with running := false }

/-- CRYSTAL_STOP_FOUND (R77); the status must be RUNNING (log 6). -/
def execCrystalStopFound (s : State) : Result :=
  .next (if s.cu.running then State.conclude s { s with cu := s.cu.stop } else s)

/-- CRYSTAL_EDGE_RETURN (R77); the status must be STOPPED (log 6). -/
def execCrystalEdgeReturn (s : State) : Result :=
  .next (if s.cu.running then s else State.conclude s { s with cu := { s.cu with running := true } })

/-! ### CLOCK-READ (R80) -/

/-- R79, R80: a civil form as carried. -/
def Civil.bytes (c : Civil) : List Byte :=
  leBytes 2 c.year ++ leBytes 1 c.month ++ leBytes 1 c.day ++ leBytes 1 c.hour ++ leBytes 1 c.minute ++ leBytes 1 c.second
    ++ leBytes 1 c.weekday ++ leBytes 2 c.dayOfYear

/-- CLOCK-READ served (R80). -/
def serveClockRead : Service := fun _ s =>
  serve s (if s.cu.valid then .ok else .clockInvalid)
    (leBytes 4 s.cu.seconds ++ (civilOf s.cu.seconds).bytes ++ [clockStateByte s.cu.valid] ++ signedBytes 2 s.cu.trim
      ++ [flagByte (!s.cu.running)] ++ leBytes 1 s.cu.phase)

/-- CLOCK_READ (R80). -/
def execClockRead (h : ReqHead) (s : State) : Result := request h Kind.clockRead serveClockRead s

/-! ### Rewinds (R84) -/

/-- R84: a move of S from `old` recorded, when it lowered S. -/
def State.recordRewind (s : State) (old : Nat) : State :=
  if s.cu.seconds < old then
    { s with dr := { s.dr with rewind := min 4294967295 (s.dr.rewind + (old - s.cu.seconds)) } }.raiseRewound
  else s

/-! ### CLOCK-SET (R81, R82) -/

/-- R81 (1 to 4): a date or time out of range. -/
def dateBad (year month day hour minute second : Nat) : Bool :=
  decide (year < 2000) || decide (2099 < year) || decide (month = 0) || decide (12 < month)
    || decide (day = 0) || decide (monthDays (leapYear year) month < day)
    || decide (23 < hour) || decide (59 < minute) || decide (59 < second)

/-- R82: the clock set to a seconds count. -/
def ClockUnit.set (c : ClockUnit) (seconds : Nat) : ClockUnit :=
  { c with seconds := seconds, valid := true }.startSecond

/-- CLOCK-SET served (R81, R82). -/
def serveClockSet (year : Half) (month day hour minute second : Byte) : Service := fun _ s =>
  if dateBad year.toNat month.toNat day.toNat hour.toNat minute.toNat second.toNat then refuse s .range
  else if !s.cu.running then refuse s .state
  else
    let new := secondsOf year.toNat month.toNat day.toNat hour.toNat minute.toNat second.toNat
    let s1 := { s with cu := s.cu.set new }.recordRewind s.cu.seconds
    serve (if s.cu.valid then s1.reckonClockSet else s1.reckonRestart) .ok
      (leBytes 4 new ++ leBytes 1 (civilOf new).weekday ++ leBytes 4 (s.cu.seconds - new) ++ [clockStateByte s.cu.valid])

/-- CLOCK_SET (R82). -/
def execClockSet (h : ReqHead) (year : Half) (month day hour minute second : Byte) (s : State) : Result :=
  request h Kind.clockSet (serveClockSet year month day hour minute second) s

/-! ### CLOCK-NUDGE (R83) -/

/-- R83: S moved by an amount, clamped. -/
def nudged (seconds : Nat) (n : Int) : Nat := min Config.maxSeconds ((seconds : Int) + n).toNat

/-- CLOCK-NUDGE served (R83). -/
def serveClockNudge (amount : Half) : Service := fun _ s =>
  if amount.toInt < -3600 ∨ 3600 < amount.toInt then refuse s .range
  else if !s.cu.valid then refuse s .clockInvalid
  else
    let new := nudged s.cu.seconds amount.toInt
    serve ({ s with cu := { s.cu with seconds := new } }.recordRewind s.cu.seconds).reckonClockSet .ok
      (leBytes 4 new ++ signedBytes 2 ((new : Int) - s.cu.seconds) ++ leBytes 2 (s.cu.seconds - new))

/-- CLOCK_NUDGE (R83). -/
def execClockNudge (h : ReqHead) (amount : Half) (s : State) : Result :=
  request h Kind.clockNudge (serveClockNudge amount) s

/-! ### CLOCK-TRIM (R85) -/

/-- R85: a trim value clamped. -/
def clampTrim (n : Int) : Int := max (-64) (min 63 n)

/-- CLOCK-TRIM served (R85). -/
def serveClockTrim (value : Half) : Service := fun _ s =>
  let t := clampTrim value.toInt
  serve { s with cu := { s.cu with trim := t } } .ok (signedBytes 2 t ++ leBytes 1 s.cu.phase)

/-- CLOCK_TRIM (R85). -/
def execClockTrim (h : ReqHead) (value : Half) (s : State) : Result :=
  request h Kind.clockTrim (serveClockTrim value) s

end Sys2Proof.Machine
end

