-- ==== Sys2Proof/Machine/Days.lean ====
section
/-! DEFINITION. The requests of the Day Reckoner: ENTRY-ADD, ENTRY-DROP, ENTRY-LIST, FIRED-TAKE, DAYS-READ
(05 R99 to R102, R108 to R111). -/

namespace Sys2Proof.Machine

/-! ### ENTRY-ADD (R99, R100) -/

/-- R192: an entry's kind and target as carried. -/
def kindOf (kind : Byte) (target : Quad) : Option EntryKind :=
  if kind = 0 then some (.onDay (target.extractLsb' 0 16).toNat)
  else if kind = 1 then some (.every (target.extractLsb' 0 16).toNat (target.extractLsb' 16 16).toNat)
  else if kind = 2 then some (.onClock target.toNat)
  else none

/-- R99 (1): an EVERY entry's period and phase out of range. -/
def EntryKind.everyBad : EntryKind → Bool
  | .every p f => decide (p = 0) || decide (365 < p) || decide (p ≤ f)
  | _ => false

/-- R99 (1): an action out of range. -/
def actionBad (pattern layer priority : Byte) : Bool :=
  decide (71 < pattern.toNat) || decide (2 < layer.toNat) || decide (15 < priority.toNat)

/-- R99 (3): a target that G or S has reached, or above the clock range. -/
def EntryKind.targetBad (k : EntryKind) (g seconds : Nat) : Bool :=
  match k with
  | .onDay t => decide (t ≤ g)
  | .every _ _ => false
  | .onClock t => decide (t ≤ seconds) || decide (Config.maxSeconds < t)

/-- R99: the kind is ON_CLOCK. -/
def EntryKind.isClock : EntryKind → Bool
  | .onClock _ => true
  | _ => false

/-- The table holds an entry of the id. -/
def hasId (table : List Entry) (id : Nat) : Bool := table.any fun e => e.id == id

/-- R99: the checks of an ENTRY-ADD of a kind. -/
def State.entryRefused (s : State) (f : EntryFields) (k : EntryKind) : Option Code :=
  if k.everyBad || (f.actionPresent != 0 && f.actionPresent != 1)
      || (f.actionPresent == 1 && actionBad f.pattern f.layer f.priority) then some .range
  else if k.isClock && !s.cu.valid then some .clockInvalid
  else if k.targetBad s.dr.g s.cu.seconds then some .range
  else if decide (32 ≤ s.dr.table.length) && !hasId s.dr.table f.id.toNat then some .full
  else if s.sb.supply = .fence then some .power
  else none

/-- R98, R100: the entry an ENTRY-ADD makes. -/
def newEntry (f : EntryFields) (k : EntryKind) : Entry :=
  { id := f.id.toNat, kind := k, tag := f.tag.toNat
    action := if f.actionPresent = 1 then
        some { pattern := f.pattern.toNat, layer := f.layer.toNat, priority := f.priority.toNat, scale := f.scale.toNat }
      else none
    due := false, accumulated := 0, latest := 0 }

/-- R100: an entry inserted at its id's place, or put in the place of the old entry of that id. -/
def insertEntry (e : Entry) : List Entry → List Entry
  | [] => [e]
  | x :: xs =>
    if x.id = e.id then e :: xs
    else if e.id < x.id then e :: x :: xs
    else x :: insertEntry e xs

/-- R100: the first day an added entry will fire on. -/
def EntryKind.firstDay (k : EntryKind) (g : Nat) : Nat :=
  match k with
  | .onDay t => t
  | .every p f => g + 1 + (((f : Int) - (g + 1)) % p).toNat
  | .onClock _ => 0

/-- ENTRY-ADD served (R99, R100). -/
def serveEntryAdd (f : EntryFields) : Service := fun _ s =>
  if 254 < f.id.toNat then refuse s .range
  else
    match kindOf f.kind f.target with
    | none => refuse s .range
    | some k =>
      match s.entryRefused f k with
      | some c => refuse s c
      | none =>
        let table := insertEntry (newEntry f k) s.dr.table
        serve { s with dr := { s.dr with table := table } } .ok
          ([f.id, flagByte (hasId s.dr.table f.id.toNat)] ++ leBytes 1 table.length ++ leBytes 3 (k.firstDay s.dr.g))

/-- ENTRY_ADD (R100). -/
def execEntryAdd (h : ReqHead) (f : EntryFields) (s : State) : Result :=
  request h Kind.entryAdd (serveEntryAdd f) s

/-! ### ENTRY-DROP (R101) -/

/-- ENTRY-DROP served (R101). -/
def serveEntryDrop (id : Byte) : Service := fun _ s =>
  if 254 < id.toNat then refuse s .range
  else
    match s.dr.table.find? fun e => e.id == id.toNat with
    | none => refuse s .notFound
    | some e =>
      if s.sb.supply = .fence then refuse s .power
      else
        let table := s.dr.table.filter fun x => x.id != id.toNat
        serve { s with dr := { s.dr with table := table } } .ok
          ([id, e.kind.byte, flagByte e.due] ++ leBytes 1 table.length)

/-- ENTRY_DROP (R101). -/
def execEntryDrop (h : ReqHead) (id : Byte) (s : State) : Result :=
  request h Kind.entryDrop (serveEntryDrop id) s

/-! ### ENTRY-LIST (R102) -/

/-- ENTRY-LIST served (R102). -/
def serveEntryList (first : Byte) : Service := fun _ s =>
  if 31 < first.toNat then refuse s .range
  else
    let entries := (s.dr.table.drop first.toNat).take 8
    serve s (if s.dr.table.length ≤ first.toNat then .fin else .ok)
      (leBytes 1 s.dr.table.length ++ counted entries Entry.bytes)

/-- ENTRY_LIST (R102). -/
def execEntryList (h : ReqHead) (first : Byte) (s : State) : Result :=
  request h Kind.entryList (serveEntryList first) s

/-! ### FIRED-TAKE (R108, R109) -/

/-- The number of DUE entries of a table. -/
def dueCount (table : List Entry) : Nat := (table.filter (·.due)).length

/-- R108: the records a FIRED-TAKE leaves in the list before the refill. -/
def State.dropFired (s : State) (n : Nat) : State := { s with dr := { s.dr with fired := s.dr.fired.drop n } }

/-- FIRED-TAKE served (R108, R109). -/
def serveFiredTake (count : Byte) : Service := fun _ s =>
  if count = 0 ∨ 16 < count.toNat then refuse s .range
  else if s.sb.supply = .fence then refuse s .power
  else
    let s' := (s.dropFired count.toNat).refillFired
    serve s' .ok (counted (s.dr.fired.take count.toNat) Fired.bytes
      ++ leBytes 1 s'.dr.fired.length ++ leBytes 1 (dueCount s'.dr.table))

/-- FIRED_TAKE (R108). -/
def execFiredTake (h : ReqHead) (count : Byte) (s : State) : Result :=
  request h Kind.firedTake (serveFiredTake count) s

/-! ### DAYS-READ (R111) -/

/-- R96, R189: merged causes as a bit mask. -/
def Causes.byte (c : Causes) : Byte :=
  flagByte c.rollover ||| (flagByte c.powerUp <<< 1) ||| (flagByte c.clockSet <<< 2) ||| (flagByte c.restart <<< 3)

/-- R111: the deferred reckoning as carried. -/
def deferredBytes : Option Deferred → List Byte
  | none => [0, 0, 0, 0]
  | some d => [1, d.causes.byte] ++ leBytes 2 d.limit

/-- DAYS-READ served (R111). -/
def serveDaysRead : Service := fun _ s =>
  serve s .ok (leBytes 2 s.dr.g ++ leBytes 2 s.dr.l ++ leBytes 2 s.rawDay ++ leBytes 4 s.cu.seconds
    ++ [clockStateByte s.cu.valid] ++ leBytes 2 s.dr.forfeited ++ leBytes 4 s.dr.rewind
    ++ leBytes 3 s.sp.profile.dayStart ++ leBytes 2 s.sp.profile.catchUp ++ leBytes 2 s.sp.profile.setCredit
    ++ deferredBytes s.dr.deferred ++ leBytes 1 s.dr.table.length ++ leBytes 1 (dueCount s.dr.table)
    ++ leBytes 1 s.dr.fired.length)

/-- DAYS_READ (R111). -/
def execDaysRead (h : ReqHead) (s : State) : Result := request h Kind.daysRead serveDaysRead s

end Sys2Proof.Machine
end

