-- ==== Sys2Proof/Machine/Render.lean ====
section
/-! DEFINITION. The render event and the commands that are one: MIX_BLOCK_BOUNDARY, PRIMING_LIMIT and
AMPLIFIER_IDLE_OFF (01 R8, R17, R19 to R29; 06 R125, R132). -/

namespace Sys2Proof.Machine

/-! ### Boundary updates (R8, R20) -/

/-- R8: the fill threshold. -/
def Voice.threshold (v : Voice) : Nat := if v.looped then 64 else min 64 (v.length * v.width)

/-- R8: whether a PRIMING voice becomes PLAYING at this boundary, by its fill or by the priming limit. -/
def Voice.examine (v : Voice) : Voice :=
  if v.state = .priming then
    if v.threshold ≤ v.ring.length then { v with state := .playing }
    else if v.priming + 1 = 32 then { v with priming := v.priming + 1, state := .playing }
    else { v with priming := v.priming + 1 }
  else v

/-- R20 (2): a gain moved toward its target by a ramp. -/
def slewGain (gain target : Int) (ramp : Nat) : Int :=
  if ramp = 0 ∨ (target - gain).natAbs ≤ ramp then target
  else if gain < target then gain + ramp else gain - ramp

/-- R20 (2): PAUSED and IDLE voices are not slewed. -/
def Voice.slew (v : Voice) : Voice :=
  match v.state with
  | .priming | .playing | .releasing => { v with gain := slewGain v.gain v.target v.ramp }
  | .idle | .paused => v

/-- R20 (3): a RELEASING voice whose gain is 0 ends. -/
def Voice.releaseEnds (v : Voice) : Bool := v.state == .releasing && v.gain == 0

/-- R20: the boundary updates of one voice. -/
def Voice.boundary (v : Voice) : Voice :=
  let v' := v.examine.slew
  if v'.releaseEnds then v'.endUse else v'

/-! ### One output sample (R21 to R28) -/

/-- R27: a one-shot voice that has reached its length. -/
def Voice.reached (v : Voice) : Bool := !v.looped && decide (v.length ≤ v.posInt)

/-- R21: a voice that renders and advances. -/
def Voice.sounding (v : Voice) : Bool :=
  (v.state == .playing || v.state == .releasing) && !v.reached

/-- R22: the sample in the first bytes of a ring, scaled to 16 bits. -/
def sampleOf (f : SampleFormat) (bs : List Byte) : Int :=
  match f with
  | .pcm8 => (byteAt bs 0).toInt * 256
  | .pcm16 => (half bs 0).toInt

/-- R22: the last sample of a one-shot voice has the neighbour 0, which needs no bytes. -/
def Voice.lastSample (v : Voice) : Bool := !v.looped && (v.posInt + 1 == v.length)

/-- R22: the ring bytes the two neighbours need. -/
def Voice.needed (v : Voice) : Nat := if v.lastSample then v.width else 2 * v.width

/-- R22: a voice lacks a byte it needs. -/
def Voice.starves (v : Voice) : Bool := decide (v.ring.length < v.needed) || v.owed != 0

/-- R22: s_i. -/
def Voice.sampleHere (v : Voice) : Int := sampleOf v.format v.ring

/-- R22: s_{i+1}. -/
def Voice.sampleNext (v : Voice) : Int := if v.lastSample then 0 else sampleOf v.format (v.ring.drop v.width)

/-- R23: interpolation by the top 8 bits of the fraction; `/` floors toward minus infinity. -/
def interpolate (here next : Int) (frac : Nat) : Int := here + (next - here) * ((frac / 256 : Nat) : Int) / 256

/-- R24: the term of a value at a gain, +32,768 saturated. -/
def scaleTerm (v gain : Int) : Int := min 32767 ((v * gain + 16384) / 32768)

/-- R21, R22, R24: a voice's term for one output sample. -/
def Voice.term (v : Voice) : Int :=
  if v.sounding && !v.starves then scaleTerm (interpolate v.sampleHere v.sampleNext v.posFrac) v.gain else 0

/-- R27: the integer part after the step is added, before any wrap. -/
def Voice.unwrapped (v : Voice) : Nat := v.posInt + (v.posFrac + v.step % 65536) / 65536 + v.step / 65536

/-- R27: an advance that wraps the loop. -/
def Voice.wraps (v : Voice) : Bool := v.looped && decide (v.loopEnd ≤ v.unwrapped)

/-- R27: the samples an advance passes. -/
def Voice.passed (v : Voice) : Nat :=
  (if v.looped then v.unwrapped else min v.unwrapped v.length) - v.posInt

/-- R27: the passed bytes leave the ring; a byte not in the ring is owed. -/
def Voice.dropPassed (v : Voice) (n : Nat) : Voice :=
  { v with ring := v.ring.drop n, owed := v.owed + (n - v.ring.length) }

/-- R27: the position advanced by the step. -/
def Voice.movePosition (v : Voice) : Voice :=
  if v.looped then
    { v with
      posInt := if v.wraps then v.unwrapped - v.loopLength else v.unwrapped
      posFrac := (v.posFrac + v.step % 65536) % 65536 }
  else if v.length ≤ v.unwrapped then { v with posInt := v.length, posFrac := 0 }
  else { v with posInt := v.unwrapped, posFrac := (v.posFrac + v.step % 65536) % 65536 }

/-- R21, R22, R27: a voice after one output sample. -/
def Voice.afterSample (v : Voice) : Voice :=
  if v.sounding then
    ({ v with starved := v.starved || v.starves }.dropPassed (v.passed * v.width)).movePosition
  else v

/-- R28: the markers of a voice as (number, index, report). -/
def Voice.markers (v : Voice) : List (Nat × Marker) :=
  (v.marker0.toList.map fun m => (0, m)) ++ (v.marker1.toList.map fun m => (1, m))

/-- R28: crossed in (i_before, i_unwrapped]. -/
def Voice.crossedBefore (v : Voice) (m : Marker) : Bool := decide (v.posInt < m.index) && decide (m.index ≤ v.unwrapped)

/-- R28: crossed in [loop start, i_after] of an advance that wrapped. -/
def Voice.crossedAfter (v : Voice) (m : Marker) : Bool :=
  v.wraps && decide (v.loopStart ≤ m.index) && decide (m.index ≤ v.unwrapped - v.loopLength)

/-- R28: markers in the play order of their indices, marker 0 first at the same index. -/
def byIndex : List (Nat × Marker) → List (Nat × Marker)
  | [a, b] => if b.2.index < a.2.index then [b, a] else [a, b]
  | l => l

/-- R28: the markers one advance crosses, in report order. -/
def Voice.crossed (v : Voice) : List (Nat × Marker) :=
  if v.sounding then
    byIndex (v.markers.filter fun m => v.crossedBefore m.2) ++ byIndex (v.markers.filter fun m => v.crossedAfter m.2)
  else []

/-- What the render has gathered so far (R25, R28). -/
structure Rendered where
  voices : List Voice
  report : List Crossing
  pairs : BitVec 16
  clipped : Bool
  codes : List Nat
  deriving DecidableEq, Repr

/-- R25: the master stage before saturation. -/
def masterOut (sum : Int) (e : Nat) : Int := (sum * e + 16384) / 32768

/-- R25: saturation. -/
def saturate (x : Int) : Int := max (-32768) (min 32767 x)

/-- R26: the DAC code of an output sample. -/
def dacOf (out : Int) : Nat := (out / 16 + 2048).toNat

/-- R28: the crossings of all voices at output sample `k`, in voice order. -/
def crossingsAt (voices : List Voice) (k : Nat) : List Crossing :=
  (voices.mapIdx fun n v => v.crossed.map fun m =>
    { voice := n, marker := m.1, generation := v.generation, sample := k }).flatten

/-- R28: the (voice, marker) pairs of crossings whose report flag is set. -/
def reportedPairs (voices : List Voice) : List Nat :=
  (voices.mapIdx fun n v => (v.crossed.filter (·.2.report)).map fun m => 2 * n + m.1).flatten

/-- R21 to R28: output sample `k` at the effective master gain `e`. -/
def renderSample (e : Nat) (r : Rendered) (k : Nat) : Rendered :=
  let out := masterOut (r.voices.map Voice.term).sum e
  { voices := r.voices.map Voice.afterSample
    report := r.report ++ crossingsAt r.voices k
    pairs := r.pairs ||| maskOf (reportedPairs r.voices)
    clipped := r.clipped || out != saturate out
    codes := r.codes ++ [dacOf (saturate out)] }

/-- R19 (2): the 64 output samples. -/
def renderBlock (e : Nat) (voices : List Voice) : Rendered :=
  (List.range 64).foldl (renderSample e) { voices := voices, report := [], pairs := 0, clipped := false, codes := [] }

/-! ### The block close (R29) -/

/-- R29 (4): the owed bytes of a voice settled against its fetch in flight. -/
def Voice.settleOwed (v : Voice) (f : Option Fetch) (n : Nat) : Voice :=
  match f with
  | some g =>
    if fetchFor f n v.generation then
      { v.advanceFetch (v.owed - min v.owed g.size) with owed := min v.owed g.size }
    else { v.advanceFetch v.owed with owed := 0 }
  | none => { v.advanceFetch v.owed with owed := 0 }

/-- R29: one voice at the close: the starved flag cleared, a one-shot end, owed bytes, the age. -/
def Voice.close (f : Option Fetch) (n : Nat) (v : Voice) : Voice :=
  let v1 := { v with starved := false }
  if v1.busy then
    if v1.reached && (v1.state == .playing || v1.state == .releasing) then v1.endUse
    else
      let v2 := if 0 < v1.owed then v1.settleOwed f n else v1
      { v2 with age := min 65535 (v2.age + 1) }
  else v1

/-- The set of the voices that a predicate names. -/
def voiceMask (voices : List Voice) (p : Voice → Bool) : BitVec 8 :=
  maskOf ((List.range 8).filter fun n => p (voices.getD n {}))

/-- R4: the voices busy before and IDLE after. -/
def endedMask (before after : List Voice) : BitVec 8 :=
  voiceMask before Voice.busy &&& ~~~ voiceMask after Voice.busy

/-- R17: the idle-block count and the amplifier at a close. -/
def SoundEngine.closeIdle (e : SoundEngine) : SoundEngine :=
  if e.voices.all fun v => !v.busy then
    let n := min 512 (e.idleBlocks + 1)
    { e with idleBlocks := n, amp := e.amp && !(n == 512 && !e.hold) }
  else { e with idleBlocks := 0 }

/-- R125: the boundary phase taken at a mix block boundary; at phase 0 its tick falls due, unless it was taken first. -/
def RumbleUnit.takePhase (r : RumbleUnit) : RumbleUnit :=
  { r with
    phase := (r.phase + 1) % 4
    tick := if r.phase = 0 then (if r.tick = .early then .none else .due) else r.tick }

/-- R19, R29, R132: the render event at a boundary reached at `s.now`. -/
def State.render (s : State) : State :=
  let before := s.se.voices
  let started := before.map Voice.boundary
  let r := renderBlock s.se.effMaster started
  let closed := r.voices.mapIdx (Voice.close s.sp.fetch)
  let ended := endedMask before closed
  let se := { s.se with
    voices := closed, block := r.codes, blockStart := s.now, nextBoundary := s.se.nextBoundary + Config.mixBlock }
  let s1 := { s with se := se.closeIdle, ru := s.ru.takePhase }
  let s2 := (s1.raiseMarker r.pairs).raiseStarved (voiceMask r.voices (·.starved))
  let s3 := if r.clipped then s2.raiseClip else s2
  ((s3.raiseVoiceEnd ended).takeReport r.report).lapseCues ended

/-- R19: a mix block boundary; there is none outside ACTIVE. -/
def State.boundary (s : State) : State :=
  if s.sb.power = .active then
    State.conclude s (s.elapseTo s.se.nextBoundary).render
  else s

/-- MIX_BLOCK_BOUNDARY (R19). -/
def execMixBlockBoundary (s : State) : Result := .next s.boundary

/-- R8: voice `n` will reach the priming limit at the next boundary. -/
def State.primingDue (s : State) (n : Nat) : Bool :=
  let v := s.voice n
  (s.sb.power == .active) && (v.state == .priming) && decide (v.ring.length < v.threshold) && (v.priming == 31)

/-- PRIMING_LIMIT (R8): the boundary at which voice `n` becomes PLAYING with the bytes it holds; no event where that
voice is not at the limit (logs 6 and 9). -/
def execPrimingLimit (n : Nat) (s : State) : Result := .next (if s.primingDue n then s.boundary else s)

/-- AMPLIFIER_IDLE_OFF (R17): the boundary whose close turns the amplifier OFF; no event where it would not (logs 6
and 9). -/
def execAmplifierIdleOff (s : State) : Result :=
  .next (if s.se.amp && !s.boundary.se.amp then s.boundary else s)

end Sys2Proof.Machine
end

