-- ==== Sys2Proof/Machine/Rumble.lean ====
section
/-! DEFINITION. The Rumble Unit: pattern definition, layers, the rumble tick and cues (06 R115, R116, R122 to R131,
R136). -/

namespace Sys2Proof.Machine

/-! ### PATTERN-DEFINE (R116) -/

/-- R116: the steps carried, as many as the step count; a step that is missing is zeros (R175). -/
def carriedSteps (f : PatternFields) : List StepFields :=
  (List.range f.stepCount.toNat).map fun k => f.steps.getD k ⟨0, 0, 0⟩

/-- R114, R191: the record a PATTERN-DEFINE carries. -/
def carriedPattern (f : PatternFields) : Pattern :=
  { repeats := f.repeats.toNat, returnStep := f.returnStep.toNat, revision := f.revision.toNat
    steps := (carriedSteps f).map fun (x : StepFields) =>
      { target := x.target.toNat, duration := x.duration.toNat, ramp := x.flags.getLsbD 0 } }

/-- R116: the checks of a PATTERN-DEFINE. -/
def State.defineRefused (s : State) (f : PatternFields) : Option Code :=
  if f.slot.toNat < 64 ∨ 71 < f.slot.toNat then some .range
  else if 32 < f.stepCount.toNat then some .range
  else if (carriedPattern f).steps.any (·.duration == 0) then some .range
  else if s.slotInUse f.slot.toNat then some .busy
  else none

/-- A host pattern slot stored or emptied. -/
def State.setHost (s : State) (id : Nat) (p : Option Pattern) : State :=
  { s with ru := { s.ru with host := s.ru.host.set (id - 64) p } }

/-- PATTERN-DEFINE served (R116). -/
def servePatternDefine (f : PatternFields) : Service := fun _ s =>
  match s.defineRefused f with
  | some c => refuse s c
  | none =>
    serve (s.setHost f.slot.toNat (if f.stepCount = 0 then none else some (carriedPattern f))) .ok [f.slot, f.stepCount]

/-- PATTERN_DEFINE (R116). -/
def execPatternDefine (h : ReqHead) (f : PatternFields) (s : State) : Result :=
  request h Kind.patternDefine (servePatternDefine f) s

/-! ### RUMBLE-PLAY (R122, R123) -/

/-- R122: the checks of a RUMBLE-PLAY. -/
def State.playRefused (s : State) (layer pattern priority : Byte) : Option Code :=
  if 2 < layer.toNat ∨ 71 < pattern.toNat ∨ 15 < priority.toNat then some .range
  else s.startRefused layer.toNat pattern.toNat priority.toNat

/-- R122's order: the state of a layer after an accepted RUMBLE-PLAY, LOADING or RUNNING. -/
def LayerState.startedByte : LayerState → Byte
  | .running => 1
  | _ => 0

/-- RUMBLE-PLAY served (R122, R123). -/
def serveRumblePlay (layer pattern priority scale : Byte) : Service := fun _ s =>
  match s.playRefused layer pattern priority with
  | some c => refuse s c
  | none =>
    serve (s.startLayer layer.toNat pattern.toNat priority.toNat scale.toNat) .ok
      [layer, (s.startState pattern.toNat).startedByte, flagByte (s.layer layer.toNat).busy]

/-- RUMBLE_PLAY (R122). -/
def execRumblePlay (h : ReqHead) (layer pattern priority scale : Byte) (s : State) : Result :=
  request h Kind.rumblePlay (serveRumblePlay layer pattern priority scale) s

/-! ### RUMBLE-STOP (R124) -/

/-- R124: the layers a RUMBLE-STOP names. -/
def namesLayer (layer : Byte) (n : Nat) : Bool := (layer == 0xFF) || (layer.toNat == n)

/-- R124: the busy layers among those a predicate names. -/
def State.busyLayers (s : State) (p : Nat → Bool) : Byte :=
  maskOf ((List.range 3).filter fun n => p n && (s.layer n).busy)

/-- RUMBLE-STOP served (R124). -/
def serveRumbleStop (layer : Byte) : Service := fun _ s =>
  if 2 < layer.toNat ∧ layer ≠ 0xFF then refuse s .range
  else serve (s.stopLayers (namesLayer layer)) .ok [s.busyLayers (namesLayer layer)]

/-- RUMBLE_STOP (R124). -/
def execRumbleStop (h : ReqHead) (layer : Byte) (s : State) : Result :=
  request h Kind.rumbleStop (serveRumbleStop layer) s

/-! ### RUMBLE-QUERY (R136) -/

/-- R121: passes left as carried, 255 for ENDLESS (log 14). -/
def Passes.byte : Passes → Byte
  | .left n => BitVec.ofNat 8 n
  | .endless => 0xFF

/-- R136: a layer as carried. -/
def Layer.bytes (l : Layer) : List Byte :=
  l.state.byte :: leBytes 1 l.id ++ leBytes 1 l.priority ++ leBytes 1 l.scale ++ leBytes 1 l.step ++ leBytes 1 l.tick
    ++ [l.passes.byte] ++ leBytes 1 l.start ++ leBytes 1 l.value ++ leBytes 1 l.output

/-- R136: a trigger as carried, its generation in one byte (log 14). -/
def Trigger.bytes (t : Trigger) : List Byte := leBytes 1 t.voice ++ leBytes 1 t.marker ++ [t.generation]

/-- R136: a cue as carried: both triggers, then the present flag of the second. -/
def Cue.bytes (c : Cue) : List Byte :=
  c.state.byte :: c.first.bytes ++ (c.second.getD {}).bytes ++ [flagByte c.second.isSome] ++ leBytes 1 c.pattern
    ++ leBytes 1 c.layer ++ leBytes 1 c.priority ++ leBytes 1 c.scale

/-- R136: a cache entry as carried. -/
def State.cachedBytes (s : State) (c : Cached) : List Byte :=
  leBytes 1 c.id ++ leBytes 1 c.pattern.revision ++ [flagByte (s.cacheInUse c.id)]

/-- R136: a host slot as carried; an empty one carries 00h for its revision (log 36). -/
def hostBytes : Option Pattern → List Byte
  | none => [0, 0]
  | some p => leBytes 1 p.steps.length ++ leBytes 1 p.revision

/-- R39, R136: the bytes received for the current load, 0 when there is none (log 36). -/
def State.received (s : State) : Nat :=
  match s.sp.load with
  | some l => l.buffer.length
  | none => 0

/-- RUMBLE-QUERY served (R136). -/
def serveRumbleQuery : Service := fun _ s =>
  serve s .ok (counted s.ru.layers Layer.bytes ++ counted s.ru.cues Cue.bytes ++ counted s.ru.cache s.cachedBytes
    ++ counted s.ru.host hostBytes ++ counted s.sp.loadList (leBytes 1) ++ leBytes 1 s.received
    ++ leBytes 1 s.ru.applied ++ leBytes 1 s.sb.m)

/-- RUMBLE_QUERY (R136). -/
def execRumbleQuery (h : ReqHead) (s : State) : Result := request h Kind.rumbleQuery serveRumbleQuery s

/-! ### The rumble tick (R125, R126) -/

/-- R126: a layer at a tick. -/
def Layer.atTick (l : Layer) : Layer := if l.state = .running then l.advance.1 else l

/-- R126: a layer ends naturally at this tick. -/
def Layer.ends (l : Layer) : Bool := (l.state == .running) && l.advance.2

/-- R125: the layers that end in this tick. -/
def State.endingLayers (s : State) : Byte := maskOf ((List.range 3).filter fun n => (s.layer n).ends)

/-- R125: the tick event of the boundary under way. -/
def State.tickLayers (s : State) : State :=
  (s.mapLayers fun _ l => l.atTick).raisePatternEnded s.endingLayers

/-- R125: a tick falls due at a boundary whose render has been taken, or may be taken before the render of the next
boundary when that one takes phase 0. -/
def State.tickDue (s : State) : Bool :=
  (s.sb.power == .active) && ((s.ru.tick == .due) || ((s.ru.phase == 0) && (s.ru.tick == .none)))

/-- R125: the tick mark after a tick, and the time a tick taken before its render moves to. -/
def State.markTick (s : State) : State :=
  if s.ru.tick = .due then { s with ru := { s.ru with tick := .none } }
  else
    let s1 := s.elapseTo s.se.nextBoundary
    { s1 with ru := { s1.ru with tick := .early } }

/-- R125: a rumble tick; none outside ACTIVE, and one at each boundary that takes phase 0 (log 28). -/
def State.tick (s : State) : State := if s.tickDue then State.conclude s s.markTick.tickLayers else s

/-- RUMBLE_TICK (R125). -/
def execRumbleTick (s : State) : Result := .next s.tick

/-- R126: layer `n` is RUNNING with its step complete. -/
def State.stepEnds (s : State) (n : Nat) : Bool := ((s.layer n).state == .running) && (s.layer n).stepDone

/-- LAYER_STEP_END (R126): the tick at which layer `n` moves on to its next step or pass, or ends; no event where its
step is not complete (logs 6 and 9). -/
def execLayerStepEnd (n : Nat) (s : State) : Result := .next (if s.stepEnds n then s.tick else s)

/-! ### CUE-ARM (R130) -/

/-- R130 (1): a trigger out of range. -/
def triggerBad (voice marker : Byte) : Bool := decide (7 < voice.toNat) || decide (1 < marker.toNat)

/-- R130: the checks of a CUE-ARM. -/
def State.armRefused (s : State) (f : CueFields) : Option Code :=
  if decide (3 < f.cue.toNat) || triggerBad f.firstVoice f.firstMarker
      || (f.secondPresent != 0 && f.secondPresent != 1)
      || (f.secondPresent == 1 && triggerBad f.secondVoice f.secondMarker)
      || decide (71 < f.pattern.toNat) || decide (2 < f.layer.toNat) || decide (15 < f.priority.toNat) then some .range
  else if !(s.voice f.firstVoice.toNat).busy || (f.secondPresent == 1 && !(s.voice f.secondVoice.toNat).busy) then
    some .state
  else none

/-- R130: a trigger with the generation of its voice captured. -/
def State.capture (s : State) (voice marker : Byte) : Trigger :=
  { voice := voice.toNat, marker := marker.toNat, generation := (s.voice voice.toNat).generation }

/-- R130: the cue record a CUE-ARM makes. -/
def State.armedCue (s : State) (f : CueFields) : Cue :=
  { state := .waitFirst, first := s.capture f.firstVoice f.firstMarker
    second := if f.secondPresent = 1 then some (s.capture f.secondVoice f.secondMarker) else none
    pattern := f.pattern.toNat, layer := f.layer.toNat, priority := f.priority.toNat, scale := f.scale.toNat }

/-- R130: the captured generations of a cue. -/
def Cue.generations (c : Cue) : List (BitVec 8) := c.first.generation :: c.second.toList.map (·.generation)

/-- CUE-ARM served (R130); the captured generations are a counted list of one byte each (log 14). -/
def serveCueArm (f : CueFields) : Service := fun _ s =>
  match s.armRefused f with
  | some c => refuse s c
  | none =>
    let c := s.armedCue f
    serve (s.setCue f.cue.toNat c) .ok
      (f.cue :: counted c.generations (fun g => [g]) ++ [flagByte (s.cue f.cue.toNat).armed])

/-- CUE_ARM (R130). -/
def execCueArm (h : ReqHead) (f : CueFields) (s : State) : Result := request h Kind.cueArm (serveCueArm f) s

/-! ### CUE-DISARM (R131) -/

/-- R131: the cues a CUE-DISARM names. -/
def namesCue (cue : Byte) (n : Nat) : Bool := (cue == 0xFF) || (cue.toNat == n)

/-- R131: a cue made UNARMED, its other fields kept (R129). -/
def Cue.unarm (c : Cue) : Cue := { c with state := .unarmed }

/-- Every cue record replaced. -/
def State.mapCues (s : State) (f : Nat → Cue → Cue) : State :=
  { s with ru := { s.ru with cues := s.ru.cues.mapIdx f } }

/-- R131, R137: the cues a predicate names become UNARMED. -/
def State.disarm (s : State) (p : Nat → Bool) : State :=
  s.mapCues fun n c => if p n then c.unarm else c

/-- R131: the armed cues among those a predicate names. -/
def State.armedCues (s : State) (p : Nat → Bool) : Byte :=
  maskOf ((List.range 4).filter fun n => p n && (s.cue n).armed)

/-- CUE-DISARM served (R131). -/
def serveCueDisarm (cue : Byte) : Service := fun _ s =>
  if 3 < cue.toNat ∧ cue ≠ 0xFF then refuse s .range
  else serve (s.disarm (namesCue cue)) .ok [s.armedCues (namesCue cue)]

/-- CUE_DISARM (R131). -/
def execCueDisarm (h : ReqHead) (cue : Byte) (s : State) : Result :=
  request h Kind.cueDisarm (serveCueDisarm cue) s

end Sys2Proof.Machine
end

