-- ==== Sys2Proof/Machine/Save.lean ====
section
/-! DEFINITION. The Save Controller: the save requests and the ends of a keep operation's phases (03 R50 to R70). -/

namespace Sys2Proof.Machine

/-! ### Shared checks and changes -/

/-- R53 (3): a slot number that is 0 or above the slot count. -/
def State.slotBad (s : State) (slot : Byte) : Bool := decide (slot.toNat = 0) || decide (s.slotCount < slot.toNat)

/-- R53 (2, 3): the checks that the save requests share. -/
def State.layoutRefused (s : State) (slot : Byte) : Option Code :=
  if s.sc.layoutState = .noLayout then some .noLayout
  else if s.slotBad slot then some .range
  else none

/-- `s` with another operation record. -/
def State.setOp (s : State) (op : Option KeepOp) : State := { s with sc := { s.sc with op := op } }

/-- `s` with another write-open record. -/
def State.setOpen (s : State) (slot : Option Nat) (mark : Nat) : State :=
  { s with sc := { s.sc with openSlot := slot, highMark := mark } }

/-- R175: `n` data bytes, those that are missing being zeros. -/
def dataBytes (data : List Byte) (n : Nat) : List Byte := (List.range n).map (byteAt data)

/-! ### SLOT-OPEN (R53 to R55) -/

/-- R53: the checks of a SLOT-OPEN. -/
def State.openRefused (s : State) (slot seed : Byte) : Option Code :=
  if seed ≠ 0 ∧ seed ≠ 1 then some .range
  else
    match s.layoutRefused slot with
    | some c => some c
    | none =>
      if s.sc.openSlot.isSome || s.sc.op.isSome then some .busy
      else if s.sb.supply = .fence then some .power
      else none

/-- R55: the operation record of a seeding; the length and CRC it does not use are 0 (log 5). -/
def seedOp (slot extent now : Nat) : KeepOp :=
  { kind := .seed, phase := .seeding, slot := slot, extent := extent, done := 0, length := 0, expected := 0, began := now }

/-- R54, R55: the seed extent of an open. -/
def State.seedExtent (s : State) (slot seed : Byte) : Nat := if seed = 1 then s.readExtent slot.toNat else 0

/-- SLOT-OPEN served (R53 to R55). -/
def serveSlotOpen (slot seed : Byte) : Service := fun _ s =>
  match s.openRefused slot seed with
  | some c => refuse s c
  | none =>
    let extent := s.seedExtent slot seed
    let s1 := s.setOpen (some slot.toNat) 0
    serve (if extent = 0 then s1 else s1.setOp (some (seedOp slot.toNat extent s.now)))
      (if seed = 1 then .accepted else .ok)
      ([slot, flagByte (!s.faceIsB slot.toNat)] ++ leBytes 2 extent)

/-- SLOT_OPEN (R54). -/
def execSlotOpen (h : ReqHead) (slot seed : Byte) (s : State) : Result :=
  request h Kind.slotOpen (serveSlotOpen slot seed) s

/-- R55: the seeding has copied its extent. -/
def State.seedingDone (s : State) (op : KeepOp) : State :=
  State.conclude s (((s.elapseTo (op.began + op.extent * Config.byteTime)).setOp none).setOpen s.sc.openSlot op.extent)

/-- SEEDING_COMPLETION (R55); no event unless a seeding runs (log 6). -/
def execSeedingCompletion (s : State) : Result :=
  .next (match s.sc.op with
    | some op => if op.phase = .seeding then s.seedingDone op else s
    | none => s)

/-! ### SLOT-WRITE (R56) -/

/-- R56: the checks of a SLOT-WRITE. -/
def State.writeRefused (s : State) (slot : Byte) (offset : Half) (count : Byte) : Option Code :=
  if count = 0 ∨ 240 < count.toNat then some .range
  else
    match s.layoutRefused slot with
    | some c => some c
    | none =>
      if s.sc.openSlot ≠ some slot.toNat then some .state
      else if s.sc.op.isSome then some .busy
      else if s.slotSize slot.toNat < offset.toNat + count.toNat then some .range
      else if s.sb.supply = .fence then some .power
      else none

/-- SLOT-WRITE served (R56). -/
def serveSlotWrite (slot : Byte) (offset : Half) (count : Byte) (data : List Byte) : Service := fun _ s =>
  match s.writeRefused slot offset count with
  | some c => refuse s c
  | none =>
    let mark := max s.sc.highMark (offset.toNat + count.toNat)
    let s1 := s.keepWrite (s.shadowData slot.toNat + offset.toNat) (dataBytes data count.toNat)
    serve (s1.setOpen (some slot.toNat) mark) .ok (slot :: leBytes 2 mark)

/-- SLOT_WRITE (R56). -/
def execSlotWrite (h : ReqHead) (slot : Byte) (offset : Half) (count : Byte) (data : List Byte) (s : State) : Result :=
  request h Kind.slotWrite (serveSlotWrite slot offset count data) s

/-! ### SLOT-COMMIT and the verify (R57 to R59) -/

/-- R57: the checks of a SLOT-COMMIT. -/
def State.commitRefused (s : State) (slot : Byte) (length : Half) : Option Code :=
  match s.layoutRefused slot with
  | some c => some c
  | none =>
    if s.sc.openSlot ≠ some slot.toNat then some .state
    else if s.sc.op.isSome then some .busy
    else if s.slotSize slot.toNat < length.toNat then some .range
    else if s.sb.supply = .fence then some .power
    else none

/-- R57: the operation record of a commit. -/
def commitOp (slot : Nat) (length crc : Half) (now : Nat) : KeepOp :=
  { kind := .commit, phase := .verifying, slot := slot, extent := length.toNat, done := 0, length := length.toNat,
    expected := crc, began := now }

/-- R58: the CRC a verify computes. -/
def State.verifyCrc (s : State) (op : KeepOp) : Half :=
  crc16 (Memory.readAll s.keep (s.shadowData op.slot) op.length)

/-- R59: the header written when a verify matched. -/
def State.commitHeader (s : State) (op : KeepOp) : HeaderFields :=
  { slot := op.slot, live := true, generation := s.nextGeneration op.slot, length := op.length, crc := op.expected,
    day := some s.dr.g, clock := if s.cu.valid then some s.cu.seconds else none }

/-- R58, R59: the end of a verify at `s.now`. -/
def State.endVerify (s : State) (op : KeepOp) : State :=
  if s.verifyCrc op = op.expected then
    (s.writeShadowHeader op.slot (s.commitHeader op)).setOp (some { op with phase := .settling, began := s.now })
  else (s.setOp none).raiseSaveFailed op.slot .mismatch

/-- SLOT-COMMIT served (R57); the verify of no bytes ends in the same event (R58). -/
def serveSlotCommit (slot : Byte) (length crc : Half) : Service := fun _ s =>
  match s.commitRefused slot length with
  | some c => refuse s c
  | none =>
    let op := commitOp slot.toNat length crc s.now
    let s1 := s.setOp (some op)
    serve (if length = 0 then s1.endVerify op else s1) .accepted [slot]

/-- SLOT_COMMIT (R57). -/
def execSlotCommit (h : ReqHead) (slot : Byte) (length crc : Half) (s : State) : Result :=
  request h Kind.slotCommit (serveSlotCommit slot length crc) s

/-- R58: the verify of an operation ends, L/2 µs after it began. -/
def State.verifyDone (s : State) (op : KeepOp) : State :=
  State.conclude s ((s.elapseTo (op.began + op.extent * Config.byteTime)).endVerify { op with done := op.extent })

/-- VERIFY_END (R58); no event unless a verify runs (log 6). -/
def execVerifyEnd (s : State) : Result :=
  .next (match s.sc.op with
    | some op => if op.phase = .verifying then s.verifyDone op else s
    | none => s)

/-! ### The flip (R60, R61) -/

/-- R61: the slot state a flip leaves. -/
def OpKind.result : OpKind → SlotState
  | .erase => .empty
  | _ => .live

/-- R61: what the flip does. -/
def State.flipSlot (s : State) (op : KeepOp) : State :=
  let s1 := { s with
    face := s.face ^^^ slotBit op.slot
    sc := { s.sc with slots := s.sc.slots.set (op.slot - 1) op.kind.result } }
  let s2 := if op.kind = OpKind.commit then s1.setOpen none 0 else s1
  (s2.setOp none).raiseSaveDone op.slot

/-- R61: the flip, 4 ms after SETTLING began. -/
def State.flip (s : State) (op : KeepOp) : State :=
  State.conclude s ((s.elapseTo (op.began + Config.settleTime)).flipSlot op)

/-- FLIP (R61); no event unless an operation is SETTLING (log 6). -/
def execFlip (s : State) : Result :=
  .next (match s.sc.op with
    | some op => if op.phase = .settling then s.flip op else s
    | none => s)

/-! ### SLOT-ERASE and SLOT-ABORT (R62, R63) -/

/-- R62: the checks of a SLOT-ERASE. -/
def State.eraseRefused (s : State) (slot : Byte) : Option Code :=
  match s.layoutRefused slot with
  | some c => some c
  | none =>
    if s.sc.op.isSome || (s.sc.openSlot == some slot.toNat) then some .busy
    else if s.sb.supply = .fence then some .power
    else none

/-- R62: the EMPTY header of an erase. -/
def State.eraseHeader (s : State) (slot : Nat) : HeaderFields :=
  { slot := slot, live := false, generation := s.nextGeneration slot, length := 0, crc := 0xFFFF, day := none,
    clock := none }

/-- R62: the operation record of an erase; the extent, count, length and CRC it does not use are 0 (log 5). -/
def eraseOp (slot now : Nat) : KeepOp :=
  { kind := .erase, phase := .settling, slot := slot, extent := 0, done := 0, length := 0, expected := 0, began := now }

/-- SLOT-ERASE served (R62). -/
def serveSlotErase (slot : Byte) : Service := fun _ s =>
  match s.eraseRefused slot with
  | some c => refuse s c
  | none =>
    serve ((s.writeShadowHeader slot.toNat (s.eraseHeader slot.toNat)).setOp (some (eraseOp slot.toNat s.now)))
      .accepted [slot]

/-- SLOT_ERASE (R62). -/
def execSlotErase (h : ReqHead) (slot : Byte) (s : State) : Result :=
  request h Kind.slotErase (serveSlotErase slot) s

/-- R63: the checks of a SLOT-ABORT. -/
def State.abortRefused (s : State) (slot : Byte) : Option Code :=
  match s.layoutRefused slot with
  | some c => some c
  | none => if s.sc.openSlot ≠ some slot.toNat then some .state else none

/-- R63: the operation record after an abort of slot `n`: an erase of another slot runs on. -/
def opAfterAbort (op : Option KeepOp) (n : Nat) : Option KeepOp :=
  match op with
  | some o => if o.slot = n then none else some o
  | none => none

/-- SLOT-ABORT served (R63). -/
def serveSlotAbort (slot : Byte) : Service := fun _ s =>
  match s.abortRefused slot with
  | some c => refuse s c
  | none => serve ((s.setOp (opAfterAbort s.sc.op slot.toNat)).setOpen none 0) .ok []

/-- SLOT_ABORT (R63). -/
def execSlotAbort (h : ReqHead) (slot : Byte) (s : State) : Result :=
  request h Kind.slotAbort (serveSlotAbort slot) s

/-! ### A rise to FENCE (R65) -/

/-- R65: what a rise of the supply class to FENCE does to the SC. -/
def State.abandonSave (s : State) : State :=
  match s.sc.op with
  | none => s
  | some op =>
    let s1 := s.setOp none
    (if op.kind = OpKind.erase then s1 else s1.setOpen none 0).raiseSaveFailed op.slot .power

/-! ### SLOT-READ (R68, R69) -/

/-- The state of slot `n`. -/
def State.slotState (s : State) (n : Nat) : SlotState := s.sc.slots.getD (n - 1) .empty

/-- R69: the outcome of a SLOT-READ that passed its checks. -/
def State.readCode (s : State) (n offset : Nat) (generation : Quad) : Code :=
  if s.slotState n = .empty then .empty
  else if generation ≠ 0xFFFFFFFF ∧ generation.toNat ≠ headerGeneration (s.faceHeader n) then .stale
  else if s.readExtent n ≤ offset then .fin
  else if s.slotState n = .damaged then .damaged
  else .ok

/-- R69: the data a SLOT-READ returns with an outcome. -/
def State.readData (s : State) (n offset count : Nat) (c : Code) : List Byte :=
  if c = .ok ∨ c = .damaged then
    Memory.readAll s.keep (s.faceData n + offset) (min count (s.readExtent n - offset))
  else []

/-- SLOT-READ served (R68, R69). -/
def serveSlotRead (slot : Byte) (offset : Half) (count : Byte) (generation : Quad) : Service := fun _ s =>
  if count = 0 ∨ 240 < count.toNat then refuse s .range
  else
    match s.layoutRefused slot with
    | some c => refuse s c
    | none =>
      let n := slot.toNat
      let c := s.readCode n offset.toNat generation
      serve s c (slot :: leBytes 4 (headerGeneration (s.faceHeader n)) ++ leBytes 2 (s.readExtent n)
        ++ s.readData n offset.toNat count.toNat c)

/-- SLOT_READ (R69). -/
def execSlotRead (h : ReqHead) (slot : Byte) (offset : Half) (count : Byte) (generation : Quad) (s : State) : Result :=
  request h Kind.slotRead (serveSlotRead slot offset count generation) s

/-! ### SLOT-LIST (R70) -/

/-- R70: a stamp of slot `n`'s face header, absent for a DAMAGED slot with an invalid header. -/
def State.stamp (s : State) (n : Nat) (f : List Byte → Option Nat) : Option Nat :=
  if s.slotState n = .damaged ∧ !s.faceValid n then none else f (s.faceHeader n)

/-- R190: the operation byte of slot `n`. -/
def opByte (op : Option KeepOp) (n : Nat) : Byte :=
  match op with
  | some o => if o.slot = n then o.phase.byte else 0
  | none => 0

/-- R70, R190: the 19 bytes of slot `n`. -/
def State.slotBytes (s : State) (n : Nat) : List Byte :=
  let day := s.stamp n headerDay
  let clock := s.stamp n headerClock
  let isOpen := s.sc.openSlot == some n
  [(s.slotState n).byte, opByte s.sc.op n,
    flagByte day.isSome ||| (flagByte clock.isSome <<< 1) ||| (flagByte isOpen <<< 2)]
    ++ leBytes 2 (s.slotSize n) ++ leBytes 2 (s.readExtent n) ++ leBytes 2 (if isOpen then s.sc.highMark else 0)
    ++ leBytes 4 (headerGeneration (s.faceHeader n)) ++ leBytes 2 (day.getD 0) ++ leBytes 4 (clock.getD 0)

/-- SLOT-LIST served (R70). -/
def serveSlotList : Service := fun _ s =>
  if s.sc.layoutState = .noLayout then refuse s .noLayout
  else serve s .ok (leBytes 1 s.slotCount ++ (List.range s.slotCount).flatMap fun i => s.slotBytes (i + 1))

/-- SLOT_LIST (R70). -/
def execSlotList (h : ReqHead) (s : State) : Result := request h Kind.slotList serveSlotList s

end Sys2Proof.Machine
end

