-- ==== Sys2Proof/Machine/Sound.lean ====
section
/-! DEFINITION. The sound requests: VOICE-START, VOICE-ADJUST, VOICE-STOP, VOICE-QUERY, MIX-SET (01 R5 to R17). -/

namespace Sys2Proof.Machine

/-- R189: a single-byte set of the items a predicate names. -/
def byteSet (p : Nat → Bool) : BitVec 8 := maskOf ((List.range 8).filter p)

/-- Every voice record replaced. -/
def State.mapVoices (s : State) (f : Nat → Voice → Voice) : State :=
  { s with se := { s.se with voices := s.se.voices.mapIdx f } }

/-- R4, R134: the uses of the voices of a set end: IDLE, cues waiting on them lapse, VOICE_END if asked. -/
def State.endVoices (s : State) (vs : BitVec 8) (event : Bool) : State :=
  let s1 := s.mapVoices fun n v => if vs.getLsbD n then v.endUse else v
  let s2 := if event then s1.raiseVoiceEnd vs else s1
  s2.lapseCues vs

/-! ### VOICE-START (R5 to R7) -/

/-- R5 (4): a marker field that VOICE-START refuses for a sound of the given length and loop end. -/
def markerBad (m : Option Marker) (length loopLength loopEnd : Nat) : Bool :=
  match m with
  | none => false
  | some m => decide (length < m.index) || ((loopLength != 0) && decide (loopEnd < m.index))

/-- R5 (1 to 4): the range checks of a VOICE-START against a store size. -/
def startBad (f : VoiceStartFields) (storeSize : Nat) : Bool :=
  let b := if f.format = 1 then 2 else 1
  let loopEnd := f.loopStart.toNat + f.loopLength.toNat
  (decide (7 < f.voice.toNat) && f.voice != 0xFF) || decide (15 < f.priority.toNat) || (formatOf f.format).isNone
    || decide (32767 < f.ramp.toNat)
    || f.length == 0 || decide (storeSize < f.start.toNat + f.length.toNat * b)
    || (f.loopLength != 0 && (decide (f.loopLength.toNat < 4) || decide (f.length.toNat < loopEnd)))
    || markerBad (markerOf f.marker0) f.length.toNat f.loopLength.toNat loopEnd
    || markerBad (markerOf f.marker1) f.length.toNat f.loopLength.toNat loopEnd

/-- R6: whether candidate `a` is taken before candidate `b`, the lower number: RELEASING first, then the larger age. -/
def stealBefore (a b : Voice) : Bool :=
  if (a.state == .releasing) != (b.state == .releasing) then a.state == .releasing else decide (b.age < a.age)

/-- R6: the voice to steal at a priority. -/
def stealVoice (voices : List Voice) (priority : Nat) : Option Nat :=
  ((List.range 8).filter fun n => decide ((voices.getD n {}).priority ≤ priority)).foldl
    (fun best n => match best with
      | none => some n
      | some m => if stealBefore (voices.getD n {}) (voices.getD m {}) then some n else some m) none

/-- R6: the voice an ANY request takes. -/
def anyVoice (voices : List Voice) (priority : Nat) : Option Nat :=
  match (List.range 8).find? fun n => !(voices.getD n {}).busy with
  | some n => some n
  | none => stealVoice voices priority

/-- R6: the voice a request takes. -/
def chooseVoice (voices : List Voice) (f : VoiceStartFields) : Option Nat :=
  if f.voice = 0xFF then anyVoice voices f.priority.toNat else some f.voice.toNat

/-- R7, R10: a step field, clamped. -/
def clampStep (w : Triple) : Nat := max 1 (min 262144 w.toNat)

/-- R7, R3: the record of the voice taken. -/
def Voice.load (v : Voice) (f : VoiceStartFields) : Voice :=
  { v with
    state := .priming, generation := v.generation + 1, priority := f.priority.toNat, age := 0
    format := (formatOf f.format).getD .pcm8, start := f.start.toNat, length := f.length.toNat
    loopStart := if f.loopLength = 0 then 0 else f.loopStart.toNat, loopLength := f.loopLength.toNat
    posInt := 0, posFrac := 0, step := clampStep f.step
    gain := f.startGain.toInt, target := f.targetGain.toInt, ramp := f.ramp.toNat
    marker0 := markerOf f.marker0, marker1 := markerOf f.marker1
    ring := [], owed := 0, fetchAddr := f.start.toNat, request := false, starved := false, priming := 0 }

/-- R7: an accepted VOICE-START on voice `n`. -/
def State.startVoice (s : State) (n : Nat) (f : VoiceStartFields) : State :=
  let s1 := if (s.voice n).busy then s.endVoices (single n) false else s
  let s2 := s1.setVoice n ((s1.voice n).load f)
  { s2 with se := { s2.se with amp := true, idleBlocks := 0 } }

/-- VOICE-START served (R5 to R7); the reply's generation takes one byte (log 14). -/
def serveVoiceStart (f : VoiceStartFields) : Service := fun _ s =>
  if startBad f s.storeSize then refuse s .range
  else
    match chooseVoice s.se.voices f with
    | none => refuse s .full
    | some n =>
      let s' := s.startVoice n f
      serve s' .ok [BitVec.ofNat 8 n, (s'.voice n).generation, flagByte (s.voice n).busy]

/-- VOICE_START (R7). -/
def execVoiceStart (h : ReqHead) (f : VoiceStartFields) (s : State) : Result :=
  request h Kind.voiceStart (serveVoiceStart f) s

/-! ### VOICE-ADJUST (R9 to R11) -/

/-- R9 (1): an expected generation of 256..FFFEh. -/
def generationBad (g : Half) : Bool := decide (256 ≤ g.toNat) && g != 0xFFFF

/-- R9 (3), R12 (3): an expected generation that is not the voice's. -/
def generationStale (g : Half) (v : Voice) : Bool := g != 0xFFFF && g != v.generation.setWidth 16

/-- R190: VOICE-ADJUST's change-set bits. -/
def adjustSel (f : VoiceAdjustFields) (i : Nat) : Bool := f.changes.getLsbD i

/-- R9: the checks of a VOICE-ADJUST. -/
def adjustRefused (f : VoiceAdjustFields) (v : Voice) : Option Code :=
  if 7 < f.voice.toNat ∨ generationBad f.generation ∨ (adjustSel f 2 ∧ 32767 < f.ramp.toNat)
      ∨ (adjustSel f 5 ∧ f.pause ≠ 0 ∧ f.pause ≠ 1) then some .range
  else if !v.busy then some .state
  else if generationStale f.generation v then some .stale
  else if (adjustSel f 1 ∧ v.state = .releasing)
      ∨ (adjustSel f 5 ∧ f.pause = 0 ∧ (v.state = .priming ∨ v.state = .releasing)) then some .state
  else if (adjustSel f 3 ∧ markerBad (markerOf f.marker0) v.length v.loopLength v.loopEnd)
      ∨ (adjustSel f 4 ∧ markerBad (markerOf f.marker1) v.length v.loopLength v.loopEnd) then some .range
  else none

/-- R11: a pause control on a voice's state. -/
def pauseState (code : Byte) (st : VoiceState) : VoiceState :=
  match st with
  | .playing => if code = 0 then .paused else .playing
  | .paused => if code = 1 then .playing else .paused
  | st => st

/-- R10, R11: the selected items applied. -/
def Voice.adjust (v : Voice) (f : VoiceAdjustFields) : Voice :=
  { v with
    step := if adjustSel f 0 then clampStep f.step else v.step
    target := if adjustSel f 1 then f.targetGain.toInt else v.target
    ramp := if adjustSel f 2 then f.ramp.toNat else v.ramp
    marker0 := if adjustSel f 3 then markerOf f.marker0 else v.marker0
    marker1 := if adjustSel f 4 then markerOf f.marker1 else v.marker1
    state := if adjustSel f 5 then pauseState f.pause v.state else v.state }

/-- VOICE-ADJUST served (R9 to R11); the reply's generation takes one byte (log 14). -/
def serveVoiceAdjust (f : VoiceAdjustFields) : Service := fun _ s =>
  let v := s.voice f.voice.toNat
  match adjustRefused f v with
  | some c => refuse s c
  | none =>
    let v' := v.adjust f
    serve (s.setVoice f.voice.toNat v') .ok [f.voice, v'.generation, v'.state.byte]

/-- VOICE_ADJUST (R10). -/
def execVoiceAdjust (h : ReqHead) (f : VoiceAdjustFields) (s : State) : Result :=
  request h Kind.voiceAdjust (serveVoiceAdjust f) s

/-! ### VOICE-STOP (R12 to R14) -/

/-- R12: the checks of a VOICE-STOP. An expected generation of 256..FFFEh is refused for ALL too (log 31). -/
def stopRefused (voice : Byte) (generation : Half) (mode : Byte) (ramp : Half) (v : Voice) : Option Code :=
  if (7 < voice.toNat ∧ voice ≠ 0xFF) ∨ generationBad generation ∨ (mode ≠ 0 ∧ mode ≠ 1) ∨ 32767 < ramp.toNat then
    some .range
  else if voice ≠ 0xFF ∧ !v.busy then some .state
  else if voice ≠ 0xFF ∧ generationStale generation v then some .stale
  else none

/-- R12: the voices a VOICE-STOP acts on: the one named, or every busy voice. -/
def State.stopSet (s : State) (voice : Byte) : BitVec 8 :=
  if voice = 0xFF then byteSet fun n => (s.voice n).busy else single voice.toNat

/-- R14: the effect of a release on a voice that is not PRIMING. -/
def Voice.release (v : Voice) (ramp : Nat) : Voice :=
  match v.state with
  | .playing | .paused | .releasing => { v with target := 0, ramp := ramp, state := .releasing }
  | .idle | .priming => v

/-- R14: a release of the voices of a set: PRIMING voices end with VOICE_END, the others become RELEASING. -/
def State.releaseVoices (s : State) (vs : BitVec 8) (ramp : Nat) : State :=
  let priming := byteSet fun n => vs.getLsbD n && (s.voice n).state == .priming
  let s1 := s.mapVoices fun n v => if vs.getLsbD n then v.release ramp else v
  s1.endVoices priming true

/-- VOICE-STOP served, for a mode byte (R12 to R14). -/
def serveVoiceStop (voice : Byte) (generation : Half) (mode : Byte) (ramp : Half) : Service := fun _ s =>
  match stopRefused voice generation mode ramp (s.voice voice.toNat) with
  | some c => refuse s c
  | none =>
    let vs := s.stopSet voice
    serve (if mode = 0 then s.endVoices vs false else s.releaseVoices vs ramp.toNat) .ok [vs]

/-- VOICE_STOP_IMMEDIATE (R13). -/
def execVoiceStopImmediate (h : ReqHead) (voice : Byte) (generation ramp : Half) (s : State) : Result :=
  request h Kind.voiceStop (serveVoiceStop voice generation 0 ramp) s

/-- VOICE_STOP_RELEASE (R14). -/
def execVoiceStopRelease (h : ReqHead) (voice : Byte) (generation ramp : Half) (s : State) : Result :=
  request h Kind.voiceStop (serveVoiceStop voice generation 1 ramp) s

/-! ### VOICE-QUERY (R15) -/

/-- R15: a voice's record as carried. Its generation takes one byte (log 14); its fetch address takes the low three of
16,777,216 where it stands there (log 32). -/
def Voice.queryBytes (v : Voice) (inFlight : Bool) : List Byte :=
  [v.state.byte, v.generation] ++ leBytes 1 v.priority ++ leBytes 2 v.age ++ [v.format.byte]
    ++ leBytes 3 v.start ++ leBytes 3 v.length ++ leBytes 3 v.loopStart ++ leBytes 3 v.loopLength
    ++ leBytes 3 v.posInt ++ leBytes 2 v.posFrac ++ leBytes 3 v.step
    ++ signedBytes 2 v.gain ++ signedBytes 2 v.target ++ leBytes 2 v.ramp
    ++ markerBytes v.marker0 ++ markerBytes v.marker1
    ++ leBytes 1 v.ring.length ++ leBytes 1 v.owed ++ leBytes 3 v.fetchAddr ++ [flagByte v.request, flagByte inFlight]
    ++ leBytes 1 v.priming

/-- VOICE-QUERY served (R15). -/
def serveVoiceQuery (voice : Byte) : Service := fun _ s =>
  if 7 < voice.toNat then refuse s .range
  else
    let v := s.voice voice.toNat
    serve s .ok (v.queryBytes (fetchFor s.sp.fetch voice.toNat v.generation))

/-- VOICE_QUERY (R15). -/
def execVoiceQuery (h : ReqHead) (voice : Byte) (s : State) : Result :=
  request h Kind.voiceQuery (serveVoiceQuery voice) s

/-! ### MIX-SET (R16) -/

/-- R16, R17: the engine after an accepted MIX-SET. -/
def SoundEngine.mix (e : SoundEngine) (gain : Nat) (hold : Bool) (ceiling : Nat) : SoundEngine :=
  { e with
    master := gain, effMaster := min gain ceiling, hold := hold
    amp := if hold then true else e.amp && e.idleBlocks != 512 }

/-- MIX-SET served (R16). -/
def serveMixSet (gain : Half) (hold : Byte) : Service := fun _ s =>
  if 32767 < gain.toNat ∨ (hold ≠ 0 ∧ hold ≠ 1) then refuse s .range
  else
    let e := s.se.mix gain.toNat (hold == 1) s.sb.audio
    serve { s with se := e } .ok (halfBytes gain ++ leBytes 2 e.effMaster ++ [flagByte e.hold, flagByte e.amp])

/-- MIX_SET (R16). -/
def execMixSet (h : ReqHead) (gain : Half) (hold : Byte) (s : State) : Result :=
  request h Kind.mixSet (serveMixSet gain hold) s

end Sys2Proof.Machine
end

