-- ==== Sys2Proof/Machine/PowerUp.lean ====
section
/-! DEFINITION. WAKING: the keep signature, the crystal check, the profile, the format decision, the formats, the
directory, the scrub and the last stages (10 R180 to R187; 03 R71, R72; 04 R87). -/

namespace Sys2Proof.Machine

/-- The part is in a stage of WAKING. -/
def State.inStage (s : State) (n : Nat) : Bool := (s.sb.power == .waking) && (s.sb.stage == n)

/-! ### Stages 8 to 11 (R187) -/

/-- Stages 8 to 11, one event: cell measurement, POWER_UP reckoning, condition evaluation, entry to ACTIVE. -/
def State.finishWaking (s : State) : State :=
  let s9 := (s.measureCell.beginStage 9).reckonPowerUp
  ((s9.beginStage 10).syncConditions.beginStage 11).enterActive

/-! ### Stage 7, the scrub (R71, R72) -/

/-- The scrub of slot `n` begins. -/
def State.beginScrub (s : State) (n : Nat) : State :=
  { s with sb := { s.sb with scrubSlot := n, stageStart := s.now } }

/-- R71: stage 7 begins; under NO_LAYOUT it ends at once. Before the scrub there are no slot states (log 5). -/
def State.stageScrub (s : State) : State :=
  let s1 := { s with sc := { s.sc with slots := [] } }.beginStage 7
  if s.sc.layoutState = .noLayout then s1.finishWaking else s1.beginScrub 1

/-- R71: how long the scrub of slot `n` takes. -/
def State.scrubTime (s : State) (n : Nat) : Nat :=
  Config.headerTime
    + if s.faceValid n && headerLive (s.faceHeader n) then headerLength (s.faceHeader n) * Config.byteTime else 0

/-- R71, R72: the state of the slot under the scrub is decided; the last slot's ends the stage. -/
def State.scrubbed (s : State) (cellMv : Nat) : State :=
  let n := s.sb.scrubSlot
  let s1 := s.elapseTo (s.sb.stageStart + s.scrubTime n)
  let s2 := { s1 with
    sc := { s1.sc with slots := s1.sc.slots ++ [s1.examineSlot n] }, sb := { s1.sb with cellMv := cellMv } }
  State.conclude s (if n < s.slotCount then s2.beginScrub (n + 1) else (s2.beginStage 8).finishWaking)

/-- SCRUB_SLOT_END (R71); no event outside stage 7 of WAKING (log 6). -/
def execScrubSlotEnd (cellMv : Nat) (s : State) : Result := .next (if s.inStage 7 then s.scrubbed cellMv else s)

/-! ### Stage 6, the directory (R187) -/

/-- R191: entry `i` of a directory image. -/
def dirEntryOf (img : List Byte) (i : Nat) : DirEntry :=
  { address := (triple img (4 * i)).toNat, steps := (byteAt img (4 * i + 3)).toNat }

/-- R187: the directory has been read. -/
def State.takeDirectory (s : State) : State :=
  { s with sp := { s.sp with directory := (List.range 64).map (dirEntryOf s.sp.reader), reader := [] } }.stageScrub

/-- R187: stage 6 begins; it ends at once when nothing is to be read. -/
def State.stageDirectory (s : State) : State :=
  let s1 := s.beginStage 6
  if s.sb.profileStatus = .fromStore ∧ 0 < s.sp.profile.patternCount then s1
  else { s1 with sp := { s1.sp with directory := List.replicate 64 {} } }.stageScrub

/-! ### Stage 5: validation, decision, formats (R183 to R186) -/

/-- R191: the fields of a profile image. -/
def profileOf (img : List Byte) : Profile :=
  { gameCode := (quad img 4).toNat, slotCount := (byteAt img 3).toNat
    sizes := (List.range 8).map fun i => (half img (8 + 2 * i)).toNat
    hour := (byteAt img 24).toNat, minute := (byteAt img 25).toNat
    catchUp := (half img 26).toNat, setCredit := (half img 28).toNat, allowance := (byteAt img 30).toNat
    patternCount := (byteAt img 31).toNat, directory := (triple img 32).toNat, storeUnits := (half img 35).toNat }

/-- R195: the profile magic. -/
def profileMagic : List Byte := [0x50, 0x4A]

/-- R183 (4): a field out of range. -/
def Profile.outOfRange (p : Profile) : Bool :=
  decide (p.storeUnits < 1) || decide (256 < p.storeUnits)
    || decide (p.slotCount < 1) || decide (8 < p.slotCount) || !layoutLegal p.rawLayout
    || decide (23 < p.hour) || decide (59 < p.minute)
    || decide (p.catchUp < 1) || decide (1000 < p.catchUp) || decide (p.catchUp < p.setCredit)
    || decide (p.allowance < 40) || decide (150 < p.allowance) || decide (p.allowance % 5 ≠ 0)
    || decide (64 < p.patternCount)
    || (decide (0 < p.patternCount) && decide (p.storeUnits * 65536 < p.directory + 256))

/-- R183: the image is defaulted. -/
def imageBad (img : List Byte) : Bool :=
  (img.take 16).all (· == 0) || (img.take 16).all (· == 0xFF)
    || (img.take 2 != profileMagic) || (byteAt img 2 != 1)
    || (half img 62 != crc16 (img.take 62))
    || (profileOf img).outOfRange

/-- R183: the image read is validated, and its values or those of the default profile are handed to their users. -/
def State.validateProfile (s : State) : State :=
  let bad := imageBad s.sp.reader
  let p := if bad then {} else profileOf s.sp.reader
  { s with
    sp := { s.sp with profile := p, reader := [] }
    sb := { s.sb with profileStatus := if bad then .defaulted else .fromStore, allowance := p.allowance } }

/-- R184: the format decision and the layout state. -/
def State.formatDecision (s : State) : Option FormatKind × LayoutState :=
  if !s.sb.intact then (some .full, .usable)
  else if s.sb.profileStatus = .fromStore then
    if s.sp.profile.gameCode ≠ recordedCode s.keep then (some .full, .usable)
    else if s.layout ≠ recordedLayout s.keep then (some .slots, .usable)
    else (none, .usable)
  else if s.layout ≠ recordedLayout s.keep then (none, .noLayout)
  else (none, .usable)

/-- R184: the decision taken; a format begins, or stage 5 ends at once. -/
def State.decideFormat (s : State) : State :=
  let d := s.formatDecision
  let s1 := { s with
    sc := { s.sc with layoutState := d.2 }
    sb := { s.sb with
      decided := true, formatKind := d.1, format := d.1.map fun k => { kind := k, made := 0, ran := 0 } } }
  match d.1 with
  | some _ => s1
  | none => s1.stageDirectory

/-- R182 to R184: the profile image has been read. -/
def State.takeProfile (s : State) : State := (s.beginStage 5).validateProfile.decideFormat

/-- R185, R186: the format under way ends, 1 ms after it began, fence waits aside, with its closing writes (log 25). -/
def State.formatDone (s : State) (f : FormatRun) : State :=
  let s1 := (s.elapse (Config.formatTime - f.ran)).closeFormat f.kind
  let s2 := { s1 with sb := { s1.sb with format := none } }.raiseFormatted f.kind
  State.conclude s s2.stageDirectory

/-- A format of a kind is under way and not held by the fence (R184). -/
def State.formatRuns (s : State) (k : FormatKind) : Option FormatRun :=
  match s.sb.format with
  | some f => if f.kind = k ∧ s.inStage 5 ∧ s.sb.supply ≠ .fence then some f else none
  | none => none

/-- FULL_FORMAT_END (R185); no event unless a full format runs (log 6). -/
def execFullFormatEnd (s : State) : Result :=
  .next (match s.formatRuns .full with
    | some f => s.formatDone f
    | none => s)

/-- SLOT_FORMAT_END (R186); no event unless a slot format runs (log 6). -/
def execSlotFormatEnd (s : State) : Result :=
  .next (match s.formatRuns .slots with
    | some f => s.formatDone f
    | none => s)

/-! ### Stages 2 and 3 (R181, R87) -/

/-- R181: the signature read and compared. -/
def State.signatureChecked (s : State) : State :=
  let s1 := s.elapseTo (s.sb.stageStart + Config.signatureTime)
  State.conclude s
    ({ s1 with sb := { s1.sb with intact := Memory.readAll s1.keep 0 16 == signature } }.beginStage 3)

/-- KEEP_SIGNATURE_CHECK (R181); no event outside stage 2 of WAKING (log 6). -/
def execKeepSignatureCheck (s : State) : Result := .next (if s.inStage 2 then s.signatureChecked else s)

/-- R87: what the crystal check does to the clock. -/
def ClockUnit.checked (c : ClockUnit) (edge : Bool) : ClockUnit :=
  if edge then { c with running := true }
  else if c.valid then { c with running := false, valid := false, divider := 0, hold := 0 }
  else { c with running := false }

/-- R87: the crystal check ends at an edge, or after one monitor window without one. -/
def State.crystalChecked (s : State) (edge : Bool) : State :=
  let s1 := if edge then s else s.elapseTo (s.sb.stageStart + Config.monitorWindow)
  State.conclude s ({ s1 with cu := s1.cu.checked edge }.beginStage 4)

/-- CRYSTAL_CHECK_END (R87); no event outside stage 3 of WAKING (log 6). -/
def execCrystalCheckEnd (edge : Bool) (s : State) : Result :=
  .next (if s.inStage 3 then s.crystalChecked edge else s)

end Sys2Proof.Machine
end

