-- ==== Sys2Proof/Machine/Supply.lean ====
section
/-! DEFINITION. The Supply Monitor and Budget: the supply class, loss and return of console power, STANDBY-ENTER and
BUDGET-READ (07 R140 to R152). -/

namespace Sys2Proof.Machine

/-! ### The supply class (R141, R143) -/

/-- R141: the class after the supply comes to a voltage. -/
def classAfter (c : SupplyClass) (mv : Nat) : SupplyClass :=
  match c with
  | .normal => if mv < Config.fenceBelow then .fence else if mv < Config.warnBelow then .warn else .normal
  | .warn => if Config.warnClears ≤ mv then .normal else if mv < Config.fenceBelow then .fence else .warn
  | .fence => if Config.warnClears ≤ mv then .normal else if Config.fenceClears ≤ mv then .warn else .fence

/-- The two pins at new voltages. -/
def State.setPins (s : State) (supplyMv cellMv : Nat) : State :=
  { s with sb := { s.sb with supplyMv := supplyMv, cellMv := cellMv } }

/-- `s` with another supply class. -/
def State.setClass (s : State) (c : SupplyClass) : State := { s with sb := { s.sb with supply := c } }

/-- R181: stage 1 of WAKING ends as the class leaves FENCE. -/
def State.endSupplyWait (s : State) : State := if s.inStage 1 then s.beginStage 2 else s

/-- R143: what a change from class `old` hands to the other blocks. A waiting format goes on by itself (R184). -/
def State.classChanged (s : State) (old : SupplyClass) : State :=
  if old ≠ .fence ∧ s.sb.supply = .fence then s.abandonSave
  else if old = .fence ∧ s.sb.supply ≠ .fence then s.endSupplyWait.runDeferred
  else s

/-- R144: console power lost, the supply pin at a voltage. -/
def State.losePower (s : State) (supplyMv : Nat) : State :=
  State.conclude s (s.setPins supplyMv s.sb.cellMv).enterKeep

/-- R141: the console supply comes to a voltage; below 2.50 V that is the loss of console power (log 26). -/
def State.supplyMoves (s : State) (supplyMv cellMv : Nat) : State :=
  if supplyMv < Config.powerBelow then (s.setPins s.sb.supplyMv cellMv).losePower supplyMv
  else
    State.conclude s (((s.setPins supplyMv cellMv).setClass (classAfter s.sb.supply supplyMv)).classChanged s.sb.supply)

/-- SUPPLY_CLASS_CHANGE (R141); in KEEP the SB is unpowered (log 6). -/
def execSupplyClassChange (supplyMv cellMv : Nat) (s : State) : Result :=
  .next (if s.sb.power = .keep then s else s.supplyMoves supplyMv cellMv)

/-- CONSOLE_POWER_LOST (R144); no event in KEEP or at 2.50 V and above (log 6). -/
def execConsolePowerLost (supplyMv : Nat) (s : State) : Result :=
  .next (if s.sb.power ≠ .keep ∧ supplyMv < Config.powerBelow then s.losePower supplyMv else s)

/-- R140: console power returns. -/
def State.returnPower (s : State) (supplyMv : Nat) : State :=
  State.conclude s (s.setPins supplyMv s.sb.cellMv).enterWaking

/-- CONSOLE_POWER_RETURN (R140); no event outside KEEP or below 2.50 V (log 6). -/
def execConsolePowerReturn (supplyMv : Nat) (s : State) : Result :=
  .next (if s.sb.power = .keep ∧ Config.powerBelow ≤ supplyMv then s.returnPower supplyMv else s)

/-! ### STANDBY-ENTER (R151, R152, R18, R43, R137) -/

/-- R18, R43, R137, R152: the entry to STANDBY. -/
def State.enterStandby (s : State) : State :=
  let s1 := s.mapVoices fun _ v => if v.busy then v.endUse else v
  let s2 := (s1.stopLayers fun _ => true).disarm fun _ => true
  { s2 with
    se := { s2.se with amp := false, idleBlocks := 0 }
    sp := { s2.sp with fetch := abandonFetch s2.sp.fetch, loadList := [], load := none }
    sb := { s2.sb with power := .standby } }

/-- R151: the operation in flight as carried: its phase and its slot, 00h when there is none (log 36). -/
def opBytes : Option KeepOp → List Byte
  | none => [0, 0]
  | some op => op.phase.byte :: leBytes 1 op.slot

/-- STANDBY-ENTER served (R151). The power state is the one value its reply can carry, STANDBY (log 15). -/
def serveStandbyEnter : Service := fun _ s =>
  let s' := s.enterStandby
  serve s' .ok ([0] ++ opBytes s'.sc.op ++ [flagByte s'.dr.deferred.isSome, s'.sb.supply.byte])

/-- STANDBY_ENTER (R151). -/
def execStandbyEnter (h : ReqHead) (s : State) : Result := request h Kind.standbyEnter serveStandbyEnter s

/-! ### BUDGET-READ (R150) -/

/-- BUDGET-READ served (R150). -/
def serveBudgetRead : Service := fun p s =>
  let a := s.sb.allowance
  serve s .ok (leBytes 1 a ++ [flagByte (s.sb.profileStatus == .defaulted)] ++ leBytes 1 Config.baseDraw
    ++ leBytes 1 s.sb.u ++ leBytes 1 s.sb.w ++ leBytes 1 (available a s.sb.u s.sb.w)
    ++ leBytes 1 (baseCeiling a s.sb.u s.sb.w) ++ leBytes 1 s.sb.m ++ leBytes 1 s.ru.applied
    ++ leBytes 2 s.sb.audio ++ [s.sb.supply.byte, s.sb.cell.byte, flagByte s.sb.settle, arrivalByte p])

/-- BUDGET_READ (R150). -/
def execBudgetRead (h : ReqHead) (s : State) : Result := request h Kind.budgetRead serveBudgetRead s

end Sys2Proof.Machine
end

