-- ==== Sys2Proof/Machine/Frames.lean ====
section
/-! DEFINITION. Request frames: HELLO and RESET-ACTIVE (09 R178, R179), the needed length and the fields of each kind
(R175, 11 R190), the frame of a request, and the service of each request. -/

namespace Sys2Proof.Machine

/-! ### HELLO (R178) -/

/-- R178: the last format kind, layout state and stage are shown as they stand; the stage is 0 outside WAKING. -/
def State.helloStage (s : State) : Nat := if s.sb.power = .waking then s.sb.stage else 0

/-- R178: the game code, 0 while NOT_READ and under the default profile. -/
def State.helloCode (s : State) : Nat := if s.sb.profileStatus = .fromStore then s.sp.profile.gameCode else 0

/-- R178: a value of the profile, 0 while NOT_READ. -/
def State.whenRead (s : State) (n : Nat) : Nat := if s.sb.profileStatus = .notRead then 0 else n

/-- HELLO served (R178). -/
def serveHello : Service := fun _ s =>
  serve s .ok (leBytes 2 0x0340 ++ [0x01, helloPowerByte s.sb.power] ++ leBytes 1 s.helloStage
    ++ [s.sb.profileStatus.byte] ++ leBytes 4 s.helloCode ++ leBytes 2 (s.whenRead s.sp.profile.storeUnits)
    ++ [formatKindByte s.sb.formatKind, s.sc.layoutState.byte]
    ++ [8] ++ leBytes 1 (s.whenRead s.slotCount) ++ [3, 4, 32, 16])

/-- HELLO (R178). -/
def execHello (h : ReqHead) (s : State) : Result := request h Kind.hello serveHello s

/-! ### RESET-ACTIVE (R179) -/

/-- R179: the pending reset set. -/
def State.pendReset (s : State) : State := { s with lp := { s.lp with pendingReset := true } }

/-- RESET-ACTIVE served (R179). -/
def serveResetActive : Service := fun p s => serve s.pendReset .ok [arrivalByte p]

/-- RESET_ACTIVE (R179). -/
def execResetActive (h : ReqHead) (s : State) : Result := request h Kind.resetActive serveResetActive s

/-! ### Payloads (R175, R190) -/

/-- R190: the needed length of a kind's payload, from the payload as received; none for a kind that R190 does not
list. -/
def neededLength (kind : Byte) (p : List Byte) : Option Nat :=
  match kind.toNat with
  | 0x10 | 0x11 | 0x21 | 0x46 | 0x50 | 0x58 | 0x65 | 0x70 | 0x71 => some 0
  | 0x33 | 0x43 | 0x44 | 0x5A | 0x5B | 0x5C | 0x62 | 0x64 => some 1
  | 0x22 | 0x40 | 0x52 | 0x53 => some 2
  | 0x20 | 0x34 => some 3
  | 0x61 => some 4
  | 0x23 | 0x42 => some 5
  | 0x32 => some 6
  | 0x51 => some 7
  | 0x45 => some 8
  | 0x63 => some 10
  | 0x59 => some 13
  | 0x31 => some 20
  | 0x30 => some 32
  | 0x41 => some (4 + (byteAt p 3).toNat)
  | 0x60 => some (5 + 3 * (byteAt p 1).toNat)
  | _ => none

/-- R190: VOICE-START's fields. -/
def voiceStartOf (p : List Byte) : VoiceStartFields :=
  { voice := byteAt p 0, priority := byteAt p 1, format := byteAt p 2, start := triple p 3, length := triple p 6
    loopStart := triple p 9, loopLength := triple p 12, step := triple p 15, startGain := half p 18
    targetGain := half p 20, ramp := half p 22, marker0 := quad p 24, marker1 := quad p 28 }

/-- R190: VOICE-ADJUST's fields. -/
def voiceAdjustOf (p : List Byte) : VoiceAdjustFields :=
  { voice := byteAt p 0, generation := half p 1, changes := byteAt p 3, step := triple p 4, targetGain := half p 7
    ramp := half p 9, marker0 := quad p 11, marker1 := quad p 15, pause := byteAt p 19 }

/-- R190, R192: ENTRY-ADD's fields. -/
def entryOf (p : List Byte) : EntryFields :=
  { id := byteAt p 0, kind := byteAt p 1, actionPresent := byteAt p 2, target := quad p 3, tag := half p 7
    pattern := byteAt p 9, layer := byteAt p 10, priority := byteAt p 11, scale := byteAt p 12 }

/-- R191: the step fields at place `k` of a PATTERN-DEFINE. -/
def stepFieldsOf (p : List Byte) (k : Nat) : StepFields :=
  { target := byteAt p (5 + 3 * k), duration := byteAt p (6 + 3 * k), flags := byteAt p (7 + 3 * k) }

/-- R190, R191: PATTERN-DEFINE's fields. -/
def patternFieldsOf (p : List Byte) : PatternFields :=
  { slot := byteAt p 0, stepCount := byteAt p 1, repeats := byteAt p 2, returnStep := byteAt p 3
    revision := byteAt p 4, steps := (List.range (byteAt p 1).toNat).map (stepFieldsOf p) }

/-- R190: CUE-ARM's fields. -/
def cueOf (p : List Byte) : CueFields :=
  { cue := byteAt p 0, firstVoice := byteAt p 1, firstMarker := byteAt p 2, secondPresent := byteAt p 3
    secondVoice := byteAt p 4, secondMarker := byteAt p 5, pattern := byteAt p 6, layer := byteAt p 7
    priority := byteAt p 8, scale := byteAt p 9 }

/-- What a frame's kind and payload ask for: a request, a mode or form that no row has (R12, R164: RANGE at the kind's
first check), or a kind that R190 does not list. -/
inductive Asked where
  | typed (c : Instr)
  | outOfRange
  | unknown
  deriving DecidableEq, Repr

/-- R190: a payload read as its kind's fields; missing bytes are zeros and excess bytes are not read (R175). -/
def decodeRequest (h : ReqHead) (kind : Byte) (p : List Byte) : Asked :=
  match kind.toNat with
  | 0x10 => .typed (.hello h)
  | 0x11 => .typed (.resetActive h)
  | 0x20 => .typed (.watchSet h (triple p 0))
  | 0x21 => .typed (.watchRead h)
  | 0x22 =>
    if byteAt p 0 = 0 then .typed (.reasonsTakeGroups h (byteAt p 1))
    else if byteAt p 0 = 1 then .typed (.reasonsTakeSummary h (byteAt p 1))
    else .outOfRange
  | 0x23 => .typed (.await h (triple p 0) (half p 3))
  | 0x30 => .typed (.voiceStart h (voiceStartOf p))
  | 0x31 => .typed (.voiceAdjust h (voiceAdjustOf p))
  | 0x32 =>
    if byteAt p 3 = 0 then .typed (.voiceStopImmediate h (byteAt p 0) (half p 1) (half p 4))
    else if byteAt p 3 = 1 then .typed (.voiceStopRelease h (byteAt p 0) (half p 1) (half p 4))
    else .outOfRange
  | 0x33 => .typed (.voiceQuery h (byteAt p 0))
  | 0x34 => .typed (.mixSet h (half p 0) (byteAt p 2))
  | 0x40 => .typed (.slotOpen h (byteAt p 0) (byteAt p 1))
  | 0x41 => .typed (.slotWrite h (byteAt p 0) (half p 1) (byteAt p 3)
      ((List.range (byteAt p 3).toNat).map fun i => byteAt p (4 + i)))
  | 0x42 => .typed (.slotCommit h (byteAt p 0) (half p 1) (half p 3))
  | 0x43 => .typed (.slotAbort h (byteAt p 0))
  | 0x44 => .typed (.slotErase h (byteAt p 0))
  | 0x45 => .typed (.slotRead h (byteAt p 0) (half p 1) (byteAt p 3) (quad p 4))
  | 0x46 => .typed (.slotList h)
  | 0x50 => .typed (.clockRead h)
  | 0x51 => .typed (.clockSet h (half p 0) (byteAt p 2) (byteAt p 3) (byteAt p 4) (byteAt p 5) (byteAt p 6))
  | 0x52 => .typed (.clockNudge h (half p 0))
  | 0x53 => .typed (.clockTrim h (half p 0))
  | 0x58 => .typed (.daysRead h)
  | 0x59 => .typed (.entryAdd h (entryOf p))
  | 0x5A => .typed (.entryDrop h (byteAt p 0))
  | 0x5B => .typed (.entryList h (byteAt p 0))
  | 0x5C => .typed (.firedTake h (byteAt p 0))
  | 0x60 => .typed (.patternDefine h (patternFieldsOf p))
  | 0x61 => .typed (.rumblePlay h (byteAt p 0) (byteAt p 1) (byteAt p 2) (byteAt p 3))
  | 0x62 => .typed (.rumbleStop h (byteAt p 0))
  | 0x63 => .typed (.cueArm h (cueOf p))
  | 0x64 => .typed (.cueDisarm h (byteAt p 0))
  | 0x65 => .typed (.rumbleQuery h)
  | 0x70 => .typed (.standbyEnter h)
  | 0x71 => .typed (.budgetRead h)
  | _ => .unknown

/-! ### The frame of a request (R190) -/

/-- R190: a VOICE-START payload. -/
def voiceStartBytes (f : VoiceStartFields) : List Byte :=
  [f.voice, f.priority, f.format] ++ tripleBytes f.start ++ tripleBytes f.length ++ tripleBytes f.loopStart
    ++ tripleBytes f.loopLength ++ tripleBytes f.step ++ halfBytes f.startGain ++ halfBytes f.targetGain
    ++ halfBytes f.ramp ++ quadBytes f.marker0 ++ quadBytes f.marker1

/-- R190: a VOICE-ADJUST payload. -/
def voiceAdjustBytes (f : VoiceAdjustFields) : List Byte :=
  f.voice :: halfBytes f.generation ++ [f.changes] ++ tripleBytes f.step ++ halfBytes f.targetGain ++ halfBytes f.ramp
    ++ quadBytes f.marker0 ++ quadBytes f.marker1 ++ [f.pause]

/-- R190, R192: an ENTRY-ADD payload. -/
def entryFieldBytes (f : EntryFields) : List Byte :=
  [f.id, f.kind, f.actionPresent] ++ quadBytes f.target ++ halfBytes f.tag ++ [f.pattern, f.layer, f.priority, f.scale]

/-- R190, R191: a PATTERN-DEFINE payload. -/
def patternFieldBytes (f : PatternFields) : List Byte :=
  [f.slot, f.stepCount, f.repeats, f.returnStep, f.revision]
    ++ f.steps.flatMap fun (x : StepFields) => [x.target, x.duration, x.flags]

/-- R190: a CUE-ARM payload. -/
def cueFieldBytes (f : CueFields) : List Byte :=
  [f.cue, f.firstVoice, f.firstMarker, f.secondPresent, f.secondVoice, f.secondMarker, f.pattern, f.layer, f.priority,
    f.scale]

/-- R190: the head, kind and needed payload of a request; none for a command that is no request. -/
def encodeRequest : Instr → Option (ReqHead × Byte × List Byte)
  | .hello h => some (h, Kind.hello, [])
  | .resetActive h => some (h, Kind.resetActive, [])
  | .watchSet h m => some (h, Kind.watchSet, tripleBytes m)
  | .watchRead h => some (h, Kind.watchRead, [])
  | .reasonsTakeGroups h g => some (h, Kind.reasonsTake, [0, g])
  | .reasonsTakeSummary h g => some (h, Kind.reasonsTake, [1, g])
  | .await h m l => some (h, Kind.await, tripleBytes m ++ halfBytes l)
  | .voiceStart h f => some (h, Kind.voiceStart, voiceStartBytes f)
  | .voiceAdjust h f => some (h, Kind.voiceAdjust, voiceAdjustBytes f)
  | .voiceStopImmediate h v g r => some (h, Kind.voiceStop, v :: halfBytes g ++ [0] ++ halfBytes r)
  | .voiceStopRelease h v g r => some (h, Kind.voiceStop, v :: halfBytes g ++ [1] ++ halfBytes r)
  | .voiceQuery h v => some (h, Kind.voiceQuery, [v])
  | .mixSet h g b => some (h, Kind.mixSet, halfBytes g ++ [b])
  | .slotOpen h n b => some (h, Kind.slotOpen, [n, b])
  | .slotWrite h n o c d => some (h, Kind.slotWrite, n :: halfBytes o ++ [c] ++ d)
  | .slotCommit h n l e => some (h, Kind.slotCommit, n :: halfBytes l ++ halfBytes e)
  | .slotErase h n => some (h, Kind.slotErase, [n])
  | .slotAbort h n => some (h, Kind.slotAbort, [n])
  | .slotRead h n o c g => some (h, Kind.slotRead, n :: halfBytes o ++ [c] ++ quadBytes g)
  | .slotList h => some (h, Kind.slotList, [])
  | .clockRead h => some (h, Kind.clockRead, [])
  | .clockSet h y mo d ho mi se => some (h, Kind.clockSet, halfBytes y ++ [mo, d, ho, mi, se])
  | .clockNudge h n => some (h, Kind.clockNudge, halfBytes n)
  | .clockTrim h t => some (h, Kind.clockTrim, halfBytes t)
  | .entryAdd h f => some (h, Kind.entryAdd, entryFieldBytes f)
  | .entryDrop h i => some (h, Kind.entryDrop, [i])
  | .entryList h i => some (h, Kind.entryList, [i])
  | .firedTake h n => some (h, Kind.firedTake, [n])
  | .daysRead h => some (h, Kind.daysRead, [])
  | .patternDefine h f => some (h, Kind.patternDefine, patternFieldBytes f)
  | .rumblePlay h l i p c => some (h, Kind.rumblePlay, [l, i, p, c])
  | .rumbleStop h l => some (h, Kind.rumbleStop, [l])
  | .rumbleQuery h => some (h, Kind.rumbleQuery, [])
  | .cueArm h f => some (h, Kind.cueArm, cueFieldBytes f)
  | .cueDisarm h c => some (h, Kind.cueDisarm, [c])
  | .standbyEnter h => some (h, Kind.standbyEnter, [])
  | .budgetRead h => some (h, Kind.budgetRead, [])
  | .windowOpen | .windowClose | .frameCompletion _ | .replyCollected _ | .awaitExpiry | .mixBlockBoundary
  | .primingLimit _ | .amplifierIdleOff | .fetchCompletion _ _ | .seedingCompletion | .verifyEnd | .flip
  | .scrubSlotEnd _ | .secondEnd _ | .crystalStopFound | .crystalEdgeReturn | .rumbleTick | .layerStepEnd _
  | .supplyClassChange _ _ | .consolePowerLost _ | .consolePowerReturn _ | .keepSignatureCheck | .crystalCheckEnd _
  | .fullFormatEnd | .slotFormatEnd | .byteTransfer _ => none

/-- R190, R193: the bytes of a request frame less its check byte. -/
def frameHead (kind tag : Byte) (payload : List Byte) : List Byte :=
  0x6E#8 :: BitVec.ofNat 8 payload.length :: kind :: tag :: payload

/-- R190, R193: the check byte of a request frame. -/
def frameCheck (kind tag : Byte) (payload : List Byte) : Byte :=
  crc8 (BitVec.ofNat 8 payload.length :: kind :: tag :: payload)

/-! ### Services -/

/-- The service of a request: how its owning block serves it (R176). -/
def serviceOf : Instr → Option Service
  | .hello _ => some serveHello
  | .resetActive _ => some serveResetActive
  | .watchSet _ m => some (serveWatchSet m)
  | .watchRead _ => some serveWatchRead
  | .reasonsTakeGroups _ g => some (serveReasonsGroups g)
  | .reasonsTakeSummary _ g => some (serveReasonsSummary g)
  | .await h m l => some (serveAwait h m l)
  | .voiceStart _ f => some (serveVoiceStart f)
  | .voiceAdjust _ f => some (serveVoiceAdjust f)
  | .voiceStopImmediate _ v g r => some (serveVoiceStop v g 0 r)
  | .voiceStopRelease _ v g r => some (serveVoiceStop v g 1 r)
  | .voiceQuery _ v => some (serveVoiceQuery v)
  | .mixSet _ g b => some (serveMixSet g b)
  | .slotOpen _ n b => some (serveSlotOpen n b)
  | .slotWrite _ n o c d => some (serveSlotWrite n o c d)
  | .slotCommit _ n l e => some (serveSlotCommit n l e)
  | .slotErase _ n => some (serveSlotErase n)
  | .slotAbort _ n => some (serveSlotAbort n)
  | .slotRead _ n o c g => some (serveSlotRead n o c g)
  | .slotList _ => some serveSlotList
  | .clockRead _ => some serveClockRead
  | .clockSet _ y mo d ho mi se => some (serveClockSet y mo d ho mi se)
  | .clockNudge _ n => some (serveClockNudge n)
  | .clockTrim _ t => some (serveClockTrim t)
  | .entryAdd _ f => some (serveEntryAdd f)
  | .entryDrop _ i => some (serveEntryDrop i)
  | .entryList _ i => some (serveEntryList i)
  | .firedTake _ n => some (serveFiredTake n)
  | .daysRead _ => some serveDaysRead
  | .patternDefine _ f => some (servePatternDefine f)
  | .rumblePlay _ l i p c => some (serveRumblePlay l i p c)
  | .rumbleStop _ l => some (serveRumbleStop l)
  | .rumbleQuery _ => some serveRumbleQuery
  | .cueArm _ f => some (serveCueArm f)
  | .cueDisarm _ c => some (serveCueDisarm c)
  | .standbyEnter _ => some serveStandbyEnter
  | .budgetRead _ => some serveBudgetRead
  | .windowOpen | .windowClose | .frameCompletion _ | .replyCollected _ | .awaitExpiry | .mixBlockBoundary
  | .primingLimit _ | .amplifierIdleOff | .fetchCompletion _ _ | .seedingCompletion | .verifyEnd | .flip
  | .scrubSlotEnd _ | .secondEnd _ | .crystalStopFound | .crystalEdgeReturn | .rumbleTick | .layerStepEnd _
  | .supplyClassChange _ _ | .consolePowerLost _ | .consolePowerReturn _ | .keepSignatureCheck | .crystalCheckEnd _
  | .fullFormatEnd | .slotFormatEnd | .byteTransfer _ => none

/-- The service of a decoded request. A mode or form that no row has is refused with RANGE. -/
def Asked.service : Asked → Option Service
  | .typed c => serviceOf c
  | .outOfRange => some fun _ s => refuse s .range
  | .unknown => none

end Sys2Proof.Machine
end

