-- ==== Sys2Proof/Machine/Link.lean ====
section
/-! DEFINITION. The Link Port: windows, byte transfers, the frame parser and the completion of a frame
(09 R170 to R176, R179). -/

namespace Sys2Proof.Machine

/-! ### Windows (R170, R171, R173) -/

/-- R170: the Link Port as a window opens; bytes sent and the frame record are at their idle values (log 37). -/
def LinkPort.openWindow (l : LinkPort) : LinkPort :=
  { l with window := true, parser := .hunt, extent := 0, taken := 0, frame := {}, outgoing := l.held.isSome, sent := 0 }

/-- WINDOW_OPEN (R170); none in KEEP, and none while a window is open (log 6). -/
def execWindowOpen (s : State) : Result :=
  .next (if s.sb.power = .keep ∨ s.lp.window then s else { s with lp := s.lp.openWindow })

/-- R171, R173: the Link Port as the window closes: a reply partly clocked out is discarded, a frame is abandoned.
Bytes sent, bytes taken and the extent are at their idle values then (log 37). -/
def LinkPort.closeWindow (l : LinkPort) : LinkPort :=
  { l with
    window := false, parser := .hunt, extent := 0, taken := 0, frame := {}
    held := if l.outgoing then none else l.held, outgoing := false, sent := 0 }

/-- R171, R173, R179: the close of the open window. -/
def State.closeWindow (s : State) : State :=
  if s.lp.outgoing ∧ s.lp.pendingReset then State.conclude s s.resetMade
  else
    let s1 := { s with lp := s.lp.closeWindow }
    State.conclude s (if s.lp.parser = .frame then s1.raiseFrameFault .abandoned else s1)

/-- WINDOW_CLOSE (R171); none while no window is open (log 6). -/
def execWindowClose (s : State) : Result := .next (if s.lp.window then s.closeWindow else s)

/-! ### The outgoing byte (R170) -/

/-- R170: one byte shifted out on DOUT and counted. With the reply collected, bytes sent is 0 (log 37). -/
def LinkPort.shiftOut (l : LinkPort) : LinkPort :=
  match l.held with
  | some r =>
    if l.outgoing then
      if r.length ≤ l.sent + 1 then { l with dout := byteAt r l.sent, held := none, outgoing := false, sent := 0 }
      else { l with dout := byteAt r l.sent, sent := l.sent + 1 }
    else { l with dout := 0 }
  | none => { l with dout := 0 }

/-- R170: the byte transfer under way collects the held reply. -/
def LinkPort.collects (l : LinkPort) : Bool :=
  match l.held with
  | some r => l.outgoing && decide (r.length ≤ l.sent + 1)
  | none => false

/-! ### The frame parser (R172) -/

/-- R172: a byte of a frame after its sync byte. -/
def LinkPort.take (l : LinkPort) (b : Byte) : LinkPort :=
  match l.taken with
  | 0 | 1 => { l with taken := l.taken + 1, extent := 5 + b.toNat, frame := { l.frame with length := b } }
  | 2 => { l with taken := l.taken + 1, frame := { l.frame with kind := b } }
  | 3 => { l with taken := l.taken + 1, frame := { l.frame with tag := b } }
  | _ => { l with taken := l.taken + 1, frame := { l.frame with
      payload := if l.frame.payload.length < 248 then l.frame.payload ++ [b] else l.frame.payload } }

/-- R172: the sync byte starts a frame, with an empty buffer; the extent is 0 until the length byte (log 37). -/
def LinkPort.sync (l : LinkPort) : LinkPort := { l with parser := .frame, taken := 1, extent := 0, frame := {} }

/-- R172: the next byte of the frame under way is its check byte. -/
def LinkPort.atCheck (l : LinkPort) : Bool := (l.parser == .frame) && decide (4 ≤ l.taken) && (l.taken + 1 == l.extent)

/-! ### The completion of a frame (R172, R174, R176, R179) -/

/-- R174 (1, 2): the frame check that fails, with its FRAME_FAULT cause. -/
def Frame.fault (f : Frame) (check : Byte) : Option (Code × FaultCause) :=
  if 248 < f.length.toNat then some (.frameLength, .length)
  else if crc8 (f.length :: f.kind :: f.tag :: f.payload) ≠ check then some (.frameCheck, .check)
  else none

/-- R174, R176: a completed frame that no block sees, answered with an outcome and an empty payload. -/
def State.reject (s : State) (f : Frame) (c : Code) (fault : Option FaultCause) : State :=
  if s.lp.pendingReset then (s.resetMade).serviceStore.refresh
  else
    let s1 := s.arrive
    let s2 := match fault with
      | some k => s1.raiseFrameFault k
      | none => s1
    (s2.holdReply f.kind f.tag false ⟨c, []⟩).concludeRequest

/-- R175: whether a payload is longer than its kind needs. -/
def excess (kind : Byte) (p : List Byte) : Bool :=
  match neededLength kind p with
  | some n => decide (n < p.length)
  | none => false

/-- R172, R174 to R176, R179: the completion of a frame with its check byte. -/
def State.completeFrame (s : State) (f : Frame) (check : Byte) : State :=
  match f.fault check with
  | some (c, k) => s.reject f c (some k)
  | none =>
    let extra := excess f.kind f.payload
    match (decodeRequest ⟨f.tag, extra⟩ f.kind f.payload).service with
    | some svc => s.complete f.kind f.tag extra svc
    | none => s.reject f .unknownKind none

/-- R172: the byte shifted in, handed to the parser. -/
def State.takeByte (s : State) (din : Byte) : State :=
  match s.lp.parser with
  | .hunt => if din = 0x6E#8 then { s with lp := s.lp.sync } else s
  | .frame => if s.lp.atCheck then s.completeFrame s.lp.frame din else { s with lp := s.lp.take din }

/-- R170, R172, R179: one byte transfer in the open window. The outgoing byte is counted first; a reset made by the
collection closes the window, and the byte shifted in is not taken. -/
def State.transfer (s : State) (din : Byte) : State :=
  let s1 := { s with lp := s.lp.shiftOut }
  if s.lp.collects ∧ s.lp.pendingReset then State.conclude s s1.resetMade else s1.takeByte din

/-- BYTE_TRANSFER (R170); none while no window is open (log 6). -/
def execByteTransfer (din : Byte) (s : State) : Result := .next (if s.lp.window then s.transfer din else s)

/-- FRAME_COMPLETION (R172): the byte transfer of a frame's check byte; no event where the next byte is not one (logs
6 and 8). -/
def execFrameCompletion (din : Byte) (s : State) : Result :=
  .next (if s.lp.window ∧ s.lp.atCheck then s.transfer din else s)

/-- REPLY_COLLECTED (R170): the byte transfer of the held reply's last byte; no event where the next byte out is not
it (logs 6 and 8). -/
def execReplyCollected (din : Byte) (s : State) : Result :=
  .next (if s.lp.window ∧ s.lp.collects then s.transfer din else s)

end Sys2Proof.Machine
end

