-- ==== Sys2Proof/Machine/Store.lean ====
section
/-! DEFINITION. The Store Port: the completion of a fetch (02 R31, R36, R37, R41, R42, R45). -/

namespace Sys2Proof.Machine

/-! ### Voice fetches (R36, R37) -/

/-- R36: a matched completion at a voice. -/
def Voice.take (v : Voice) (n : Nat) (data : List Byte) : Voice :=
  let dropped := min v.owed n
  { v.advanceFetch n with owed := v.owed - dropped, ring := v.ring ++ data.drop dropped }

/-- R36, R37: the bytes of a voice fetch, discarded unless matched. -/
def State.deliverVoice (s : State) (n : Nat) (f : Fetch) (data : List Byte) : State :=
  let v := s.voice n
  if v.generation = f.generation ∧ v.busy then s.setVoice n (v.take f.size data) else s

/-! ### Loader fetches (R41, R42) -/

/-- R191: step `k` of a pattern record. -/
def patternStepOf (record : List Byte) (k : Nat) : PatternStep :=
  { target := (byteAt record (4 + 3 * k)).toNat, duration := (byteAt record (5 + 3 * k)).toNat
    ramp := (byteAt record (6 + 3 * k)).getLsbD 0 }

/-- R191: a pattern record of `n` steps. -/
def patternOf (record : List Byte) (n : Nat) : Pattern :=
  { repeats := (byteAt record 1).toNat, returnStep := (byteAt record 2).toNat, revision := (byteAt record 3).toNat
    steps := (List.range n).map (patternStepOf record) }

/-- R41: the directory step count of a load. -/
def Load.steps (l : Load) : Nat := (l.size - 4) / 3

/-- R42: the record checks. -/
def Load.good (l : Load) : Bool :=
  ((byteAt l.buffer 0).toNat == l.steps) && (patternOf l.buffer l.steps).steps.all (·.duration != 0)

/-- R42: the current load ends; the next id, if any, becomes the current load. -/
def State.endLoad (s : State) (l : Load) : State :=
  match s.sp.loadList with
  | [] => s
  | id :: rest =>
    let s1 := { s with sp := { s.sp with loadList := rest, load := none } }
    (if l.good then s1.loadDone id (patternOf l.buffer l.steps) else s1.loadFailed id).beginLoad

/-- R41: the bytes of a loader fetch. -/
def State.deliverLoader (s : State) (data : List Byte) : State :=
  match s.sp.load with
  | none => s
  | some l =>
    let l' := { l with buffer := l.buffer ++ data }
    let s1 := { s with sp := { s.sp with load := some l' } }
    if l'.size ≤ l'.buffer.length then s1.endLoad l' else s1

/-! ### The power-up reader (R45, R182, R187) -/

/-- R45: the bytes of a power-up reader fetch; the last of a read ends its stage. -/
def State.deliverReader (s : State) (data : List Byte) : State :=
  let s1 := { s with sp := { s.sp with reader := s.sp.reader ++ data } }
  if s1.sp.reader.length < s1.readerSpan.2 then s1
  else if s1.inStage 4 then s1.takeProfile
  else if s1.inStage 6 then s1.takeDirectory
  else s1

/-! ### FETCH_COMPLETION (R31) -/

/-- R31 (1), R37, R41, R43, R44: the bytes handed to the requester; an abandoned fetch delivers to none. -/
def State.deliver (s : State) (f : Fetch) (data : List Byte) : State :=
  if f.abandoned then s
  else
    match f.requester with
    | .voice n => s.deliverVoice n f data
    | .loader => s.deliverLoader data
    | .powerUp => s.deliverReader data

/-- R31: the fetch in flight completes; the close of the event re-evaluates requests and makes the next grant. -/
def State.fetchDone (s : State) (f : Fetch) (data : List Byte) (cellMv : Nat) : State :=
  let s1 := s.elapseTo f.due
  let s2 := { s1 with sp := { s1.sp with fetch := none }, sb := { s1.sb with cellMv := cellMv } }
  State.conclude s (s2.deliver f data)

/-- FETCH_COMPLETION (R31); no event with no fetch in flight, or with other than its N bytes (log 6). -/
def execFetchCompletion (data : List Byte) (cellMv : Nat) (s : State) : Result :=
  .next (match s.sp.fetch with
    | some f => if data.length = f.size then s.fetchDone f data cellMv else s
    | none => s)

end Sys2Proof.Machine
end

