-- ==== Sys2Proof/Machine/Dispatch.lean ====
section
/-! DEFINITION. The dispatch: one arm per command, each one call of its meaning. -/

namespace Sys2Proof.Machine

def exec (i : Instr) (s : State) : Host.Outcome State Fault Refusal :=
  match i with
  | .windowOpen => Sys2Proof.Machine.execWindowOpen s
  | .windowClose => Sys2Proof.Machine.execWindowClose s
  | .frameCompletion din => Sys2Proof.Machine.execFrameCompletion din s
  | .replyCollected din => Sys2Proof.Machine.execReplyCollected din s
  | .hello h => Sys2Proof.Machine.execHello h s
  | .resetActive h => Sys2Proof.Machine.execResetActive h s
  | .watchSet h members => Sys2Proof.Machine.execWatchSet h members s
  | .watchRead h => Sys2Proof.Machine.execWatchRead h s
  | .reasonsTakeGroups h groups => Sys2Proof.Machine.execReasonsTakeGroups h groups s
  | .reasonsTakeSummary h groups => Sys2Proof.Machine.execReasonsTakeSummary h groups s
  | .await h members limit => Sys2Proof.Machine.execAwait h members limit s
  | .awaitExpiry => Sys2Proof.Machine.execAwaitExpiry s
  | .voiceStart h f => Sys2Proof.Machine.execVoiceStart h f s
  | .voiceAdjust h f => Sys2Proof.Machine.execVoiceAdjust h f s
  | .voiceStopImmediate h voice generation ramp => Sys2Proof.Machine.execVoiceStopImmediate h voice generation ramp s
  | .voiceStopRelease h voice generation ramp => Sys2Proof.Machine.execVoiceStopRelease h voice generation ramp s
  | .voiceQuery h voice => Sys2Proof.Machine.execVoiceQuery h voice s
  | .mixSet h gain hold => Sys2Proof.Machine.execMixSet h gain hold s
  | .mixBlockBoundary => Sys2Proof.Machine.execMixBlockBoundary s
  | .primingLimit voice => Sys2Proof.Machine.execPrimingLimit voice s
  | .amplifierIdleOff => Sys2Proof.Machine.execAmplifierIdleOff s
  | .fetchCompletion data cellMv => Sys2Proof.Machine.execFetchCompletion data cellMv s
  | .slotOpen h slot seed => Sys2Proof.Machine.execSlotOpen h slot seed s
  | .seedingCompletion => Sys2Proof.Machine.execSeedingCompletion s
  | .slotWrite h slot offset count data => Sys2Proof.Machine.execSlotWrite h slot offset count data s
  | .slotCommit h slot length crc => Sys2Proof.Machine.execSlotCommit h slot length crc s
  | .verifyEnd => Sys2Proof.Machine.execVerifyEnd s
  | .flip => Sys2Proof.Machine.execFlip s
  | .slotErase h slot => Sys2Proof.Machine.execSlotErase h slot s
  | .slotAbort h slot => Sys2Proof.Machine.execSlotAbort h slot s
  | .slotRead h slot offset count generation => Sys2Proof.Machine.execSlotRead h slot offset count generation s
  | .slotList h => Sys2Proof.Machine.execSlotList h s
  | .scrubSlotEnd cellMv => Sys2Proof.Machine.execScrubSlotEnd cellMv s
  | .secondEnd cellMv => Sys2Proof.Machine.execSecondEnd cellMv s
  | .crystalStopFound => Sys2Proof.Machine.execCrystalStopFound s
  | .crystalEdgeReturn => Sys2Proof.Machine.execCrystalEdgeReturn s
  | .clockRead h => Sys2Proof.Machine.execClockRead h s
  | .clockSet h year month day hour minute second => Sys2Proof.Machine.execClockSet h year month day hour minute second s
  | .clockNudge h amount => Sys2Proof.Machine.execClockNudge h amount s
  | .clockTrim h value => Sys2Proof.Machine.execClockTrim h value s
  | .entryAdd h f => Sys2Proof.Machine.execEntryAdd h f s
  | .entryDrop h id => Sys2Proof.Machine.execEntryDrop h id s
  | .entryList h first => Sys2Proof.Machine.execEntryList h first s
  | .firedTake h count => Sys2Proof.Machine.execFiredTake h count s
  | .daysRead h => Sys2Proof.Machine.execDaysRead h s
  | .patternDefine h f => Sys2Proof.Machine.execPatternDefine h f s
  | .rumblePlay h layer pattern priority scale => Sys2Proof.Machine.execRumblePlay h layer pattern priority scale s
  | .rumbleStop h layer => Sys2Proof.Machine.execRumbleStop h layer s
  | .rumbleQuery h => Sys2Proof.Machine.execRumbleQuery h s
  | .rumbleTick => Sys2Proof.Machine.execRumbleTick s
  | .layerStepEnd layer => Sys2Proof.Machine.execLayerStepEnd layer s
  | .cueArm h f => Sys2Proof.Machine.execCueArm h f s
  | .cueDisarm h cue => Sys2Proof.Machine.execCueDisarm h cue s
  | .standbyEnter h => Sys2Proof.Machine.execStandbyEnter h s
  | .budgetRead h => Sys2Proof.Machine.execBudgetRead h s
  | .supplyClassChange supplyMv cellMv => Sys2Proof.Machine.execSupplyClassChange supplyMv cellMv s
  | .consolePowerLost supplyMv => Sys2Proof.Machine.execConsolePowerLost supplyMv s
  | .consolePowerReturn supplyMv => Sys2Proof.Machine.execConsolePowerReturn supplyMv s
  | .keepSignatureCheck => Sys2Proof.Machine.execKeepSignatureCheck s
  | .crystalCheckEnd edge => Sys2Proof.Machine.execCrystalCheckEnd edge s
  | .fullFormatEnd => Sys2Proof.Machine.execFullFormatEnd s
  | .slotFormatEnd => Sys2Proof.Machine.execSlotFormatEnd s
  | .byteTransfer din => Sys2Proof.Machine.execByteTransfer din s

end Sys2Proof.Machine
end

