-- ==== Sys2Proof/Machine/Step.lean ====
section
/-! DEFINITION. The step: the command at the front of the queue runs whole; on an empty queue an eighth of a
microsecond passes (log 10). -/

namespace Sys2Proof.Machine

/-- An idle moment: time passes by its unit. -/
def State.idle (s : State) : State := (s.elapse 1).refresh

def step (s : State) : Host.Outcome State Fault Refusal :=
  match s.pending with
  | [] => .next s.idle
  | c :: rest => exec c { s with pending := rest }

/-- `s` with the command a word spells put at the front of its queue. The table gives no bits, so no word spells one
(log 21). -/
def State.withFetchWord (s : State) (nbits w : Nat) : State :=
  match decodeTableWord nbits w with
  | some c => { s with pending := c :: s.pending }
  | none => s

end Sys2Proof.Machine
end

