-- ==== Sys2Proof/Safety.lean ====
section
/-! DEFINITION. What counts as a safe state, in the terms the statements use: the invariants that every step keeps,
and the states in which a request meets nothing but its own rule. -/

namespace Sys2Proof.Safety

open Sys2Proof.Machine

/-! ### Between events -/

/-- No event is owed: the conditions are reported (R159), the store port has made the grant it can make and every
request flag is evaluated (R33, R34), and every recomputed value stands (R2, R26, R128, R139, R147, R149, R161). -/
abbrev Settled (s : State) : Prop := s.report = s ∧ s.serviceStore = s ∧ s.refresh = s

/-- R184: a format is under way in stage 5 of WAKING alone. -/
abbrev FormatPlaced (s : State) : Prop := s.sb.format.isSome → s.sb.power = .waking ∧ s.sb.stage = 5

/-- Settled, and a format only where R184 has one. -/
abbrev Calm (s : State) : Prop := Settled s ∧ FormatPlaced s

/-- ACTIVE, with no reset pending and no reply held, between events: a request meets nothing but its own rule. -/
abbrev Listening (s : State) : Prop :=
  Settled s ∧ s.sb.power = .active ∧ s.lp.pendingReset = false ∧ s.lp.held = none

/-- The state in which a frame of a kind has been answered and nothing else has changed: the parser hunts, a held
AWAIT is gone, and the reply is held (R172, R176). Extent and bytes taken 0, the empty frame buffer and bytes sent 0 are
the model's idle values (log 37). -/
def answered (s : State) (kind : Byte) (h : ReqHead) (code : Code) (payload : List Byte) : State :=
  { s with lp := { s.lp with
      parser := .hunt, extent := 0, taken := 0, frame := {}, await := none
      held := some (replyFrame kind h.tag (code.withExtra h.extra) payload), outgoing := false, sent := 0 } }

/-- The keep domain is the same: keep memory, the face word, the clock and the Day Reckoner's records. -/
abbrev SameKeep (s t : State) : Prop := t.keep = s.keep ∧ t.face = s.face ∧ t.cu = s.cu ∧ t.dr = s.dr

/-- Two voice records that differ at most in the fetch-request flag (R33). -/
abbrev SameUse (v w : Voice) : Prop := { v with request := w.request } = w

/-- The voice records are the same but for their fetch-request flags. -/
abbrev SameVoices (s t : State) : Prop :=
  t.se.voices.map (fun v => { v with request := false }) = s.se.voices.map (fun v => { v with request := false })

/-- The engine record is the same but for the values recomputed from the budget (R2, R26). -/
abbrev SameEngine (s t : State) : Prop :=
  t.se.master = s.se.master ∧ t.se.hold = s.se.hold ∧ t.se.amp = s.se.amp ∧ t.se.idleBlocks = s.se.idleBlocks
    ∧ t.se.block = s.se.block ∧ t.se.blockStart = s.se.blockStart ∧ t.se.nextBoundary = s.se.nextBoundary

/-- The store port is the same but for the fetch in flight and the last voice granted (R34). -/
abbrev SameStore (s t : State) : Prop :=
  t.sp.profile = s.sp.profile ∧ t.sp.directory = s.sp.directory ∧ t.sp.reader = s.sp.reader
    ∧ t.sp.loadList = s.sp.loadList ∧ t.sp.load = s.sp.load

/-- The Rumble Unit is the same but for the applied strength (R128). -/
abbrev SameRumble (s t : State) : Prop := { t.ru with applied := s.ru.applied } = s.ru

/-- The supply record is the same but for the shares and ceilings (R139, R147, R149). -/
abbrev SameSupply (s t : State) : Prop :=
  { t.sb with u := s.sb.u, w := s.sb.w, settle := s.sb.settle, m := s.sb.m, audio := s.sb.audio } = s.sb

/-- The Attention Unit is the same but for ATTN (R161). -/
abbrev SameAttention (s t : State) : Prop := { t.au with attn := s.au.attn } = s.au

/-- R4: a voice record whose use has ended. -/
def endedUse (v : Voice) : Voice :=
  { v with state := .idle, ring := [], owed := 0, request := false, starved := false, priming := 0 }

/-- R134: cue `j` after the voices of a set have ended their uses: UNARMED if it was armed on one of them. -/
def lapsed (s : State) (ended : Nat → Bool) (j : Nat) : Cue :=
  let c := s.cue j
  if c.state ≠ .unarmed ∧ (ended c.first.voice = true ∨ ∃ t ∈ c.second, ended t.voice = true) then
    { c with state := .unarmed }
  else c

/-- R158: an event whose detail is a set of items is raised with the items below `w` that a predicate names: the latch
is set, and the detail holds them and, if the latch was set before, those it held. With no item it is not raised. -/
abbrev RaisesSet {k : Nat} (m : Member) (detail : Details → BitVec k) (w : Nat) (items : Nat → Bool)
    (s t : State) : Prop :=
  if (List.range w).any items then
    m.isIn t.au.latch = true
      ∧ ∀ n < w, (detail t.au.details).getLsbD n
          = (items n || (m.isIn s.au.latch && (detail s.au.details).getLsbD n))
  else m.isIn t.au.latch = m.isIn s.au.latch ∧ detail t.au.details = detail s.au.details

/-- R134: CUE_LAPSED is raised with the cues that lapse because the voices of a set have ended their uses, cause
VOICE. -/
abbrev LapsesByVoice (ended : Nat → Bool) (s t : State) : Prop :=
  RaisesSet .cueLapsed (·.cueLapsed) 4 (fun j => lapsed s ended j != s.cue j) s t
    ∧ t.au.details.lapseCause
      = if (List.range 4).any (fun j => lapsed s ended j != s.cue j) then some .voice else s.au.details.lapseCause

/-- R154, R155, R160: an event returns the part from STANDBY to ACTIVE by the new latching of one member, which is
marked woke. -/
abbrev WokenBy (m : Member) (c : Instr) (s : State) : Prop :=
  ∃ t, exec c s = .next t ∧ t.sb.power = .active ∧ t.au.attn = true ∧ t.au.woke = s.au.woke ||| m.set
    ∧ t.au.latch = s.au.latch ||| m.set ∧ t.se.nextBoundary = t.now + 15625 ∧ t.ru.phase = 0
    ∧ t.se.amp = (s.se.amp || s.se.hold)

/-- R167: an event ends a held AWAIT by the new latching of one member of its set: the reply is OK with that member
ready, and the whole set is cleared. -/
abbrev AnsweredBy (m : Member) (c : Instr) (a : PendingAwait) (s : State) : Prop :=
  ∃ t, exec c s = .next t ∧ t.lp.await = none ∧ t.au.latch = (s.au.latch ||| m.set) &&& ~~~ a.members
    ∧ t.au.woke = s.au.woke &&& ~~~ a.members ∧ t.sb.power = .active
    ∧ ∃ shown, t.lp.held = some (replyFrame Kind.await a.tag (Code.withExtra a.extra .ok)
        (tripleBytes (m.set.setWidth 24) ++ leBytes 2 ((t.now - a.arrival) / 8000) ++ shown))

/-- Model time moved on to `t` with nothing under way but the clock (log 10). -/
def movedTo (s : State) (t : Nat) : State :=
  { s with now := s.now + (t - s.now), cu := s.cu.count s.now (t - s.now) }

/-- No keep operation and no format is under way. -/
abbrev Quiet (s : State) : Prop := s.sc.op = none ∧ s.sb.format = none

/-! ### The mix, one voice and one output sample at a time (R20 to R29)

Written from the rules beside the model's own rendering, so that the statement about a mix block says that the two
agree. -/

/-- R1: b, the bytes of a sample. -/
def sampleBytes (v : Voice) : Nat := if v.format = .pcm16 then 2 else 1

/-- R8, R20: a voice after the boundary updates: priming, gain slew, release end. -/
def atBoundary (v : Voice) : Voice :=
  let threshold := if v.loopLength ≠ 0 then 64 else min 64 (v.length * sampleBytes v)
  let gain := if v.state = .idle ∨ v.state = .paused then v.gain
    else if v.ramp = 0 ∨ (v.target - v.gain).natAbs ≤ v.ramp then v.target
    else if v.gain < v.target then v.gain + v.ramp
    else v.gain - v.ramp
  if v.state = .releasing ∧ gain = 0 then endedUse { v with gain := gain }
  else { v with
    gain := gain
    state := if v.state = .priming ∧ (threshold ≤ v.ring.length ∨ v.priming = 31) then .playing else v.state
    priming := if v.state = .priming ∧ v.ring.length < threshold then v.priming + 1 else v.priming }

/-- R21: a voice that has a term and advances. -/
def sounds (v : Voice) : Bool :=
  decide ((v.state = .playing ∨ v.state = .releasing) ∧ (v.loopLength ≠ 0 ∨ v.posInt < v.length))

/-- R22: a one-shot voice at its last sample. -/
def atLast (v : Voice) : Bool := decide (v.loopLength = 0 ∧ v.posInt + 1 = v.length)

/-- R22: the ring lacks a byte that the two neighbours need. -/
def lacksBytes (v : Voice) : Bool :=
  decide (0 < v.owed ∨ v.ring.length < (if atLast v then sampleBytes v else 2 * sampleBytes v))

/-- R22: the sample at byte `k` of the ring. -/
def ringSample (v : Voice) (k : Nat) : Int :=
  if v.format = .pcm16 then (half v.ring k).toInt else 256 * (byteAt v.ring k).toInt

/-- R21 to R24: the term of a voice. Division is by a positive number and floors. -/
def termOf (v : Voice) : Int :=
  if sounds v ∧ ¬ lacksBytes v then
    let a := ringSample v 0
    let b := if atLast v then 0 else ringSample v (sampleBytes v)
    let x := a + (b - a) * ((v.posFrac / 256 : Nat) : Int) / 256
    min 32767 ((x * v.gain + 16384) / 32768)
  else 0

/-- R27: i_unwrapped. -/
def steppedTo (v : Voice) : Nat := v.posInt + v.step / 65536 + (v.posFrac + v.step % 65536) / 65536

/-- R27: the advance wraps the loop. -/
def wrapsTo (v : Voice) : Bool := decide (v.loopLength ≠ 0 ∧ v.loopStart + v.loopLength ≤ steppedTo v)

/-- R21, R22, R27: a voice after one output sample. -/
def nextSample (v : Voice) : Voice :=
  if sounds v then
    let i := steppedTo v
    let passed := ((if v.loopLength = 0 then min i v.length else i) - v.posInt) * sampleBytes v
    { v with
      starved := v.starved || lacksBytes v
      ring := v.ring.drop passed, owed := v.owed + (passed - v.ring.length)
      posInt := if v.loopLength = 0 then min i v.length else if wrapsTo v then i - v.loopLength else i
      posFrac := if v.loopLength = 0 ∧ v.length ≤ i then 0 else (v.posFrac + v.step) % 65536 }
  else v

/-- The voices before output sample `k` of a block that began with `voices`. -/
def voicesAt (voices : List Voice) (k : Nat) : List Voice := Nat.repeat (List.map nextSample) k voices

/-- R24, R25: output sample `k` before saturation, at the effective master gain `e`. -/
def mixedAt (voices : List Voice) (e k : Nat) : Int := (((voicesAt voices k).map termOf).sum * e + 16384) / 32768

/-- R28: the markers (number and marker) that one advance crosses, in report order: those before the loop end and then
those after the wrap, each by index, marker 0 first at one index. -/
def crossesMarkers (v : Voice) : List (Nat × Marker) :=
  let all := v.marker0.toList.map (fun m => (0, m)) ++ v.marker1.toList.map (fun m => (1, m))
  let ordered := fun (l : List (Nat × Marker)) => match l with
    | [x, y] => if y.2.index < x.2.index then [y, x] else [x, y]
    | l => l
  if sounds v then
    ordered (all.filter fun x => decide (v.posInt < x.2.index ∧ x.2.index ≤ steppedTo v))
      ++ ordered (all.filter fun x =>
        wrapsTo v && decide (v.loopStart ≤ x.2.index ∧ x.2.index ≤ steppedTo v - v.loopLength))
  else []

/-- R28: the crossing report of a block that began with `voices`: by output sample, then by voice. -/
def blockReport (voices : List Voice) : List Crossing :=
  (List.range 64).flatMap fun k => (List.range 8).flatMap fun n =>
    let v := (voicesAt voices k).getD n {}
    (crossesMarkers v).map fun x => { voice := n, marker := x.1, generation := v.generation, sample := k }

/-- R3, R29: voice `n` after the close of a block, `f` being the fetch in flight. -/
def atClose (f : Option Fetch) (n : Nat) (v : Voice) : Voice :=
  if v.state = .idle then { v with starved := false }
  else if (v.state = .playing ∨ v.state = .releasing) ∧ v.loopLength = 0 ∧ v.length ≤ v.posInt then endedUse v
  else
    let still := match f with
      | some g => if g.requester = .voice n ∧ g.generation = v.generation then min v.owed g.size else 0
      | none => 0
    let stop := v.start + (v.loopStart + v.loopLength) * sampleBytes v
    let a := v.fetchAddr + (v.owed - still)
    { v with
      starved := false, owed := still, age := min 65535 (v.age + 1)
      fetchAddr := if v.owed ≠ 0 ∧ v.loopLength ≠ 0 ∧ stop ≤ a then
          v.start + v.loopStart * sampleBytes v + (a - stop) % (v.loopLength * sampleBytes v)
        else a }

/-! ### Fresh states and runs of transfers -/

/-- The part as the entry to WAKING by RESET-ACTIVE or by the return of console power leaves it (R44, R142, R162, R169,
R179, R180), with `dout` the byte last shifted out. -/
def freshPart (s : State) (dout : Byte) : State :=
  let c : SupplyClass := if 3100 ≤ s.sb.supplyMv then .normal else if 2900 ≤ s.sb.supplyMv then .warn else .fence
  State.refresh { s with
    lp := { dout := dout }, au := {}, se := {}, sp := { fetch := abandonFetch s.sp.fetch }, sc := {}, ru := {}
    sb := { supplyMv := s.sb.supplyMv, cellMv := s.sb.cellMv, supply := c, stage := if c = .fence then 1 else 2
            stageStart := s.now }
    dr := { s.dr with deferred := none } }

/-- The byte transfers of some bytes, one after another. -/
def transfers (s : State) : List Byte → Result
  | [] => .next s
  | b :: bs =>
    match exec (.byteTransfer b) s with
    | .next t => transfers t bs
    | r => r

/-! ### Invariants -/

/-- R51, R55, R57: an operation record's shape. -/
abbrev OpOk (s : State) (op : KeepOp) : Prop :=
  1 ≤ op.slot ∧ op.slot ≤ s.slotCount ∧ op.extent ≤ s.slotSize op.slot ∧ op.length ≤ s.slotSize op.slot
    ∧ op.done ≤ op.extent
    ∧ (op.kind = .seed → op.phase = .seeding ∧ s.sc.openSlot = some op.slot)
    ∧ (op.kind = .commit → (op.phase = .verifying ∨ op.phase = .settling) ∧ s.sc.openSlot = some op.slot)
    ∧ (op.kind = .erase → op.phase = .settling ∧ s.sc.openSlot ≠ some op.slot)

/-- R51: the write-open record and the operation record. In WAKING and KEEP both are in their reset state. -/
abbrev SaveOk (s : State) : Prop :=
  (∀ op ∈ s.sc.op, OpOk s op)
    ∧ (∀ n ∈ s.sc.openSlot, 1 ≤ n ∧ n ≤ s.slotCount ∧ s.sc.highMark ≤ s.slotSize n)
    ∧ (s.sb.power.awake = false → s.sc.op = none ∧ s.sc.openSlot = none)

/-! ### A firing pass (R95, R103 to R107) -/

/-- R103, R104: the days of (`gOld`, `g`] on which an entry fires in a pass at the seconds count `now`; for an ON_CLOCK
entry one place stands for its target reached. -/
def reachedDays (gOld g now : Nat) (e : Entry) : List Nat :=
  match e.kind with
  | .onDay d => if gOld < d ∧ d ≤ g then [d] else []
  | .every p f => (List.range (g + 1)).filter fun d => decide (gOld < d) && (d % p == f)
  | .onClock c => if c ≤ now then [0] else []

/-- R103, R104: the late value of a firing. -/
def lateIn (gOld g now : Nat) (e : Entry) : Nat :=
  match e.kind with
  | .onClock c => min 65535 ((now - c) / 86400)
  | _ => g - (reachedDays gOld g now e).getLastD 0

/-- R105: an EVERY entry stays in the table when it fires. -/
def staysListed (e : Entry) : Bool :=
  match e.kind with
  | .every _ _ => true
  | _ => false

/-- R105: the entries of the table that append a record in a pass, in ascending id while there is room. -/
def listedIn (gOld g now : Nat) (s : State) : List Entry :=
  (s.dr.table.filter fun e => !(reachedDays gOld g now e).isEmpty && !e.due).take (16 - s.dr.fired.length)

/-- R107: the entries of a pass that append a record, have an action, and are not late. -/
def actingIn (gOld g now : Nat) (s : State) : List Entry :=
  (listedIn gOld g now s).filter fun e => e.action.isSome && (lateIn gOld g now e == 0)

/-- R106: the record a firing appends, its action-run flag clear. -/
def firedIn (gOld g now : Nat) (e : Entry) : Fired :=
  { id := e.id, tag := e.tag
    kind := match e.kind with
      | .onDay _ => .onDay
      | .every _ _ => .every
      | .onClock _ => .onClock
    g := g, occurrences := (reachedDays gOld g now e).length, late := lateIn gOld g now e, ran := false }

/-- R103, R105: what is left in the table of an entry after a pass: an entry that does not fire stays as it is, an EVERY
entry that is DUE gathers, and of the others that fire those listed go, but for EVERY, and the rest become DUE. -/
def entryAfter (gOld g now : Nat) (s : State) (e : Entry) : Option Entry :=
  let days := reachedDays gOld g now e
  if days.isEmpty then some e
  else if e.due then
    some (if staysListed e then
      { e with accumulated := min 65535 (e.accumulated + days.length), latest := days.getLastD 0 } else e)
  else if (listedIn gOld g now s).any (fun x => x.id == e.id) then (if staysListed e then some e else none)
  else some { e with
    due := true, accumulated := days.length, latest := if staysListed e then days.getLastD 0 else e.latest }

/-- R103 to R106: the day table and the fired list after a pass over (`gOld`, `g`] at `now`, but for the action-run flags
of the new records. -/
abbrev FiringPass (gOld g now : Nat) (s t : State) : Prop :=
  t.dr.table = s.dr.table.filterMap (entryAfter gOld g now s)
    ∧ t.dr.fired.map (fun r => { r with ran := false })
      = s.dr.fired.map (fun r => { r with ran := false }) ++ (listedIn gOld g now s).map (firedIn gOld g now)
    ∧ t.dr.fired.take s.dr.fired.length = s.dr.fired

/-- R107, R135: the actions of a pass. Outside ACTIVE, and with none to hand over, no layer starts. The one action of a
pass makes the layer start that a RUMBLE-PLAY of its fields would make, and the new records' action-run flags say
whether that was taken. -/
abbrev PassActions (gOld g now : Nat) (s t : State) : Prop :=
  (s.sb.power ≠ .active ∨ actingIn gOld g now s = [] →
    t.ru.layers = s.ru.layers ∧ ∀ r ∈ t.dr.fired.drop s.dr.fired.length, r.ran = false)
  ∧ ∀ e a, s.sb.power = .active → actingIn gOld g now s = [e] → e.action = some a →
    a.pattern ≤ 71 → a.layer ≤ 2 → a.priority ≤ 15 → a.scale ≤ 255 →
    ∃ u, exec (.rumblePlay ⟨0, false⟩ (BitVec.ofNat 8 a.layer) (BitVec.ofNat 8 a.pattern)
        (BitVec.ofNat 8 a.priority) (BitVec.ofNat 8 a.scale)) s = .next u
      ∧ t.ru.layers = u.ru.layers ∧ t.ru.cache = u.ru.cache ∧ t.sp.loadList = u.sp.loadList
      ∧ ∀ r ∈ t.dr.fired.drop s.dr.fired.length, r.ran = decide (r.id = e.id ∧ byteAt (u.lp.held.getD []) 4 = 0)

/-- R93, R158: DAY_TURN is raised by the days credited. -/
abbrev TurnsDays (credited : Nat) (s t : State) : Prop :=
  Member.dayTurn.isIn t.au.latch = true
    ∧ t.au.details.dayTurn
      = min 65535 ((if Member.dayTurn.isIn s.au.latch then s.au.details.dayTurn else 0) + credited)

/-- R98: the range of an EVERY entry's period and phase. -/
def periodOk (k : EntryKind) : Bool :=
  match k with
  | .every p f => decide (1 ≤ p ∧ p ≤ 365 ∧ f < p)
  | _ => true

/-- R74, R89, R98, R105, R106: S in the clock range, the day keep record's ranges, the table in strictly ascending id
with every period and phase in range, the list's size, and a DUE entry only with a full list. -/
abbrev DaysOk (s : State) : Prop :=
  s.cu.seconds ≤ 3155759999 ∧ s.dr.l ≤ 36525
    ∧ s.dr.g ≤ 65535 ∧ s.dr.forfeited ≤ 65535 ∧ s.dr.rewind ≤ 4294967295
    ∧ s.dr.table.Pairwise (fun a b => a.id < b.id) ∧ s.dr.table.length ≤ 32 ∧ (∀ e ∈ s.dr.table, e.id ≤ 254 ∧ periodOk e.kind = true)
    ∧ s.dr.fired.length ≤ 16 ∧ ((∃ e ∈ s.dr.table, e.due = true) → s.dr.fired.length = 16)

/-- The bytes of a fetch in flight for voice `n`. -/
def inFlight (f : Option Fetch) (n : Nat) : Nat :=
  match f with
  | some f => if f.requester = .voice n then f.size else 0
  | none => 0

/-- R35: ring fill and bytes in flight of every voice. -/
abbrev RingOk (s : State) : Prop :=
  s.se.voices.length = 8 ∧ ∀ n ∈ List.range 8, (s.voice n).ring.length + inFlight s.sp.fetch n ≤ 128

/-- A LOADING layer waits on the id. -/
def waited (s : State) (id : Nat) : Bool := s.ru.layers.any fun l => l.state == .loading && l.id == id

/-- R39, R98, R117, R129: the load list and the cache, and the layer every stored start names. -/
abbrev LoaderOk (s : State) : Prop :=
  s.ru.layers.length = 3
    ∧ s.sp.loadList.Nodup ∧ s.sp.loadList.length ≤ 4 ∧ (s.sp.load.isSome ↔ s.sp.loadList ≠ [])
    ∧ (∀ id ∈ s.sp.loadList.drop 1, waited s id = true)
    ∧ (∀ l ∈ s.ru.layers, l.state = .loading → l.id ∈ s.sp.loadList)
    ∧ s.ru.cache.length ≤ 8 ∧ (s.ru.cache.map (·.id)).Nodup
    ∧ (∀ c ∈ s.ru.cache, c.id ∉ s.sp.loadList)
    ∧ (∀ c ∈ s.ru.cues, c.layer < 3) ∧ (∀ e ∈ s.dr.table, ∀ a ∈ e.action, a.layer < 3)

/-- R46: a keep address inside slot `n`'s face half, header or data. -/
abbrev inFace (s : State) (n a : Nat) : Prop := s.faceAddr n ≤ a ∧ a < s.faceAddr n + 32 + s.slotSize n

end Sys2Proof.Safety
end

