-- ==== Sys2Proof/WellFormed.lean ====
section
/-! DEFINITION. The shape of a command's operands. Ranges that the part itself checks (and answers with an outcome)
are no part of this: a field's type is the width it is carried in. -/

namespace Sys2Proof

/-- R175: the data bytes of a SLOT-WRITE are as many as its count, after completion by zeros. -/
def wfSlotWrite (count : Byte) (data : List Byte) : Bool := data.length == count.toNat

/-- R175: the steps of a PATTERN-DEFINE are as many as its step count, after completion by zeros. -/
def wfPattern (f : PatternFields) : Bool := f.steps.length == f.stepCount.toNat

/-- R30: a fetch brings 1..32 bytes. -/
def wfFetch (data : List Byte) : Bool := decide (1 ≤ data.length) && decide (data.length ≤ 32)

/-- Whether a command's operands have the shape their row gives them. -/
def Instr.wellFormed : Instr → Bool
  | .slotWrite _ _ _ count data => wfSlotWrite count data
  | .patternDefine _ f => wfPattern f
  | .fetchCompletion data _ => wfFetch data
  | .primingLimit voice => decide (voice < 8)
  | .layerStepEnd layer => decide (layer < 3)
  | .consolePowerLost supplyMv => decide (supplyMv < 2500)
  | .consolePowerReturn supplyMv => decide (2500 ≤ supplyMv)
  | _ => true

end Sys2Proof
end

