-- ==== Sys2Proof/Certificates/Slice0/Obligations.lean ====
section
/-! DEFINITION. The statements for the provers. Each is a proposition about every state or operand it names. -/

open Sys2Proof Sys2Proof.Machine Sys2Proof.Safety

/-! ### The step -/

/-- The command at the front of the queue is run by `exec` on the state with the rest of the queue. -/
def Obligations.StepRunsFrontCommand : Prop :=
  ∀ (c : Instr) (rest : List Instr) (s : State),
    s.pending = c :: rest → step s = exec c { s with pending := rest }

/-! ### The Link Port -/

/-- R170, R171, R173: a fall of SEL opens a window, with the outgoing mark set exactly when a reply is held. A rise
of SEL closes it: a reply being clocked out is discarded, and a frame under way is abandoned with FRAME_FAULT. The
Link Port's idle values in the next state are the model's choice (log 37). -/
def Obligations.WindowsOpenAndClose : Prop :=
  ∀ s : State, Settled s → s.sb.power ≠ .keep →
    (s.lp.window = false →
      exec .windowOpen s = .next { s with lp := { s.lp with
        window := true, parser := .hunt, extent := 0, taken := 0, frame := {}
        outgoing := s.lp.held.isSome, sent := 0 } })
    ∧ (s.lp.window = true → ¬ (s.lp.outgoing = true ∧ s.lp.pendingReset = true) → s.lp.parser = .hunt →
      exec .windowClose s = .next { s with lp := { s.lp with
        window := false, parser := .hunt, extent := 0, taken := 0, frame := {}
        held := if s.lp.outgoing then none else s.lp.held, outgoing := false, sent := 0 } })
    ∧ (s.lp.window = true → ¬ (s.lp.outgoing = true ∧ s.lp.pendingReset = true) → s.lp.parser = .frame →
      s.sb.power = .active → s.lp.await = none →
      exec .windowClose s = .next (State.refresh { s with
        lp := { s.lp with
          window := false, parser := .hunt, extent := 0, taken := 0, frame := {}
          held := if s.lp.outgoing then none else s.lp.held, outgoing := false, sent := 0 }
        au := { s.au with
          latch := s.au.latch ||| Member.frameFault.set
          details := { s.au.details with
            frameFault := min 255 ((if Member.frameFault.isIn s.au.latch then s.au.details.frameFault else 0) + 1)
            faultCause := some .abandoned } } }))

/-- R170, R172: a byte transfer that completes neither a frame nor a pending reset. With no reply going out, DOUT
carries 00h: a sync byte starts a frame and any other byte is ignored in HUNT; in FRAME the length, kind, tag and
payload bytes are taken in order. With a reply going out, its next byte goes out, and with its last byte the reply
is collected. The Link Port's idle values in the next state are the model's choice (log 37). -/
def Obligations.ByteTransfersParse : Prop :=
  ∀ (s : State) (din : Byte), s.lp.window = true →
    (s.lp.outgoing = false → s.lp.parser = .hunt →
      exec (.byteTransfer din) s = .next { s with lp :=
        if din = 0x6E then { s.lp with dout := 0, parser := .frame, taken := 1, extent := 0, frame := {} }
        else { s.lp with dout := 0 } })
    ∧ (s.lp.outgoing = false → s.lp.parser = .frame → s.lp.taken = 1 →
      exec (.byteTransfer din) s = .next { s with lp := { s.lp with
        dout := 0, taken := 2, extent := 5 + din.toNat, frame := { s.lp.frame with length := din } } })
    ∧ (s.lp.outgoing = false → s.lp.parser = .frame → s.lp.taken = 2 →
      exec (.byteTransfer din) s = .next { s with lp := { s.lp with
        dout := 0, taken := 3, frame := { s.lp.frame with kind := din } } })
    ∧ (s.lp.outgoing = false → s.lp.parser = .frame → s.lp.taken = 3 →
      exec (.byteTransfer din) s = .next { s with lp := { s.lp with
        dout := 0, taken := 4, frame := { s.lp.frame with tag := din } } })
    ∧ (s.lp.outgoing = false → s.lp.parser = .frame → 4 ≤ s.lp.taken → s.lp.taken + 1 ≠ s.lp.extent →
      exec (.byteTransfer din) s = .next { s with lp := { s.lp with
        dout := 0, taken := s.lp.taken + 1
        frame := { s.lp.frame with payload :=
          if s.lp.frame.payload.length < 248 then s.lp.frame.payload ++ [din] else s.lp.frame.payload } } })
    ∧ (∀ r, s.lp.outgoing = true → s.lp.held = some r → s.lp.parser = .hunt → din ≠ 0x6E → s.lp.sent + 1 < r.length →
      exec (.byteTransfer din) s = .next { s with lp := { s.lp with
        dout := byteAt r s.lp.sent, sent := s.lp.sent + 1 } })
    ∧ (∀ r, s.lp.outgoing = true → s.lp.held = some r → s.lp.parser = .hunt → din ≠ 0x6E →
      s.lp.sent + 1 = r.length → s.lp.pendingReset = false →
      exec (.replyCollected din) s = .next { s with lp := { s.lp with
          dout := byteAt r s.lp.sent, held := none, outgoing := false, sent := 0 } }
        ∧ exec (.byteTransfer din) s = exec (.replyCollected din) s)

/-- R174, R12, R164: at the completion of a frame the length, the check byte and the kind are checked in that order.
A frame that fails is answered with its outcome and an empty payload and reaches no block; FRAME_FAULT is raised
with cause LENGTH or CHECK and not for a kind that names none. A REASONS-TAKE form and a VOICE-STOP mode that no row
has are answered RANGE. The Link Port's idle values in the next state are the model's choice (log 37). -/
def Obligations.BadFramesAreAnswered : Prop :=
  ∀ (s : State) (check : Byte), Listening s → s.lp.window = true → s.lp.parser = .frame → 4 ≤ s.lp.taken →
    s.lp.taken + 1 = s.lp.extent →
    let f := s.lp.frame
    let faults := min 255 ((if Member.frameFault.isIn s.au.latch then s.au.details.frameFault else 0) + 1)
    let good := crc8 (f.length :: f.kind :: f.tag :: f.payload)
    (248 < f.length.toNat →
      exec (.frameCompletion check) s = .next (State.refresh (answered { s with
        lp := { s.lp with dout := 0 }
        au := { s.au with
          latch := s.au.latch ||| Member.frameFault.set
          details := { s.au.details with frameFault := faults, faultCause := some .length } } }
        f.kind ⟨f.tag, false⟩ .frameLength [])))
    ∧ (f.length.toNat ≤ 248 → check ≠ good →
      exec (.frameCompletion check) s = .next (State.refresh (answered { s with
        lp := { s.lp with dout := 0 }
        au := { s.au with
          latch := s.au.latch ||| Member.frameFault.set
          details := { s.au.details with frameFault := faults, faultCause := some .check } } }
        f.kind ⟨f.tag, false⟩ .frameCheck [])))
    ∧ (f.length.toNat ≤ 248 → check = good → neededLength f.kind f.payload = none →
      exec (.frameCompletion check) s = .next
        (answered { s with lp := { s.lp with dout := 0 } } f.kind ⟨f.tag, false⟩ .unknownKind []))
    ∧ (f.length.toNat ≤ 248 → check = good →
      (f.kind = Kind.reasonsTake ∧ 1 < (byteAt f.payload 0).toNat
        ∨ f.kind = Kind.voiceStop ∧ 1 < (byteAt f.payload 3).toNat) →
      exec (.frameCompletion check) s = .next
        (answered { s with lp := { s.lp with dout := 0 } } f.kind ⟨f.tag, false⟩ .range []))

/-- R172, R174 to R176, R190, R193: the bytes of a request frame clocked in from HUNT, and then its check byte, do what
the request's command does: the part reads from the wire exactly the request sent, with the excess of its payload. -/
def Obligations.FrameRunsItsRequest : Prop :=
  ∀ (c : Instr) (h : ReqHead) (k : Byte) (p tail : List Byte) (s : State),
    encodeRequest c = some (h, k, p) → c.wellFormed = true → h.extra = !tail.isEmpty →
    p.length + tail.length ≤ 248 →
    s.sb.power ≠ .keep → s.lp.pendingReset = false → s.lp.window = true → s.lp.parser = .hunt → s.lp.held = none →
    s.lp.outgoing = false →
    ∃ t, transfers s (frameHead k h.tag (p ++ tail)) = .next t
      ∧ exec (.frameCompletion (frameCheck k h.tag (p ++ tail))) t
          = exec c { s with lp := { s.lp with dout := 0 } }

/-- R175, R190: every request's payload is read back as that request, whatever bytes follow it, and its needed length
is the payload's; a payload cut short is read as if zeros had been sent. -/
def Obligations.RequestDecodesBack : Prop :=
  (∀ (c : Instr) (h : ReqHead) (k : Byte) (p tail : List Byte),
    c.wellFormed = true → encodeRequest c = some (h, k, p) →
    decodeRequest h k (p ++ tail) = .typed c ∧ neededLength k (p ++ tail) = some p.length)
  ∧ ∀ (h : ReqHead) (k : Byte) (p : List Byte) (n : Nat),
    decodeRequest h k p = decodeRequest h k (p ++ List.replicate n 0)

/-! ### Requests in general -/

/-- R174 (4): in WAKING every request but HELLO is answered NOT_READY, and nothing else changes. The Link Port's
idle values in the next state are the model's choice (log 37). -/
def Obligations.NotReadyInWaking : Prop :=
  ∀ (c : Instr) (h : ReqHead) (k : Byte) (p : List Byte) (s : State),
    encodeRequest c = some (h, k, p) → c ≠ .hello h → Settled s → s.sb.power = .waking →
    s.lp.pendingReset = false → s.lp.held = none →
    exec c s = .next (answered s k h .notReady [])

/-- R153, R155: a request that completes in STANDBY is served as in ACTIVE after the return: power state ACTIVE, the
amplifier ON if the hold flag is set, the next boundary 1/512 s on, the boundary phase 0. Only RESET-ACTIVE and
BUDGET-READ show the power state at their arrival: their replies end the wake as any other, with STANDBY in the byte of
the power state, 01h by log 15, and BUDGET-READ's other fields as they stand after the return. -/
def Obligations.RequestWakesStandby : Prop :=
  (∀ (c : Instr) (h : ReqHead) (k : Byte) (p : List Byte) (s : State),
    encodeRequest c = some (h, k, p) → c ≠ .resetActive h → c ≠ .budgetRead h → s.sb.power = .standby →
    exec c s = exec c { s with
      sb := { s.sb with power := .active }
      se := { s.se with
        amp := s.se.amp || s.se.hold, nextBoundary := s.now + 15625, block := [], blockStart := s.now }
      ru := { s.ru with phase := 0, tick := .none } })
  ∧ ∀ (h : ReqHead) (s : State), s.sb.power = .standby → s.lp.pendingReset = false →
    (∃ t, exec (.resetActive h) s = .next t ∧ t.sb.power = .active ∧ t.lp.pendingReset = true
      ∧ t.lp.held = some (replyFrame Kind.resetActive h.tag (Code.withExtra h.extra .ok) [1]))
    ∧ ∃ t, exec (.budgetRead h) s = .next t ∧ t.sb.power = .active ∧ t.se.amp = (s.se.amp || s.se.hold)
      ∧ t.se.nextBoundary = s.now + 15625 ∧ t.ru.phase = 0 ∧ SameKeep s t ∧ t.sc = s.sc ∧ SameStore s t
      ∧ t.lp.held = some (replyFrame Kind.budgetRead h.tag (Code.withExtra h.extra .ok)
        (leBytes 1 t.sb.allowance ++ [if t.sb.profileStatus = .defaulted then 1 else 0, 12] ++ leBytes 1 t.sb.u
          ++ leBytes 1 t.sb.w ++ leBytes 1 (t.sb.allowance - 12 - t.sb.u - t.sb.w)
          ++ leBytes 1 (min 255 ((t.sb.allowance - 12 - t.sb.u - t.sb.w) * 255 / 90)) ++ leBytes 1 t.sb.m
          ++ leBytes 1 t.ru.applied ++ leBytes 2 t.sb.audio
          ++ [t.sb.supply.byte, t.sb.cell.byte, if t.sb.settle then 1 else 0, 1]))

/-- R157, R176 (2): a request that completes while a reply is held loses that reply, with REPLY_LOST raised before
the request is served, and is otherwise served as if none had been held. The Link Port's idle values in the next
state are the model's choice (log 37). -/
def Obligations.UncollectedReplyIsLost : Prop :=
  ∀ (c : Instr) (h : ReqHead) (k : Byte) (p r : List Byte) (s : State),
    encodeRequest c = some (h, k, p) → s.sb.power ≠ .keep → s.lp.held = some r →
    exec c s = exec c { s with
      lp := { s.lp with held := none, outgoing := false, sent := 0 }
      au := { s.au with
        latch := s.au.latch ||| Member.replyLost.set
        details := { s.au.details with
          replyLost := min 255 ((if Member.replyLost.isIn s.au.latch then s.au.details.replyLost else 0) + 1)
          lostKind := some (byteAt r 2) } } }

/-- R179, R44, R169: RESET-ACTIVE replies and sets the pending reset. The reset is made when the reply's last byte
goes out, when a window closes with the reply partly out, or when another frame completes, good or bad, which is
then not served: the active domain takes its power-up values in WAKING, a fetch in flight is marked abandoned, and
the keep domain stands. The reply's byte for ACTIVE, 00h, is log 15; the byte on DOUT that stays is the model's
record (log 24). The Link Port's idle values in the next state are the model's choice (log 37). -/
def Obligations.ResetActiveIsMade : Prop :=
  (∀ (h : ReqHead) (s : State), Listening s →
    exec (.resetActive h) s = .next
      (answered { s with lp := { s.lp with pendingReset := true } } Kind.resetActive h .ok [0]))
  ∧ ∀ s : State, s.lp.pendingReset = true → s.sb.power ≠ .keep →
    (∀ r din, s.lp.window = true → s.lp.outgoing = true → s.lp.held = some r → s.lp.sent + 1 = r.length →
      exec (.replyCollected din) s = .next (freshPart s (byteAt r s.lp.sent)))
    ∧ (s.lp.window = true → s.lp.outgoing = true → exec .windowClose s = .next (freshPart s s.lp.dout))
    ∧ (∀ check, s.lp.window = true → s.lp.outgoing = false → s.lp.parser = .frame → 4 ≤ s.lp.taken →
      s.lp.taken + 1 = s.lp.extent → exec (.frameCompletion check) s = .next (freshPart s 0))
    ∧ ∀ c h k p, encodeRequest c = some (h, k, p) → exec c s = .next (freshPart s s.lp.dout)

/-- R177: a request answered with a refusal leaves everything as it was but for the reply it holds, whose payload is
empty. CLOCK_INVALID of CLOCK-READ and STALE of SLOT-READ are no refusals. The Link Port's idle values in the next
state are the model's choice (log 37). -/
def Obligations.RefusalChangesNothing : Prop :=
  ∀ (c : Instr) (h : ReqHead) (k : Byte) (p r : List Byte) (s t : State),
    encodeRequest c = some (h, k, p) → Listening s → exec c s = .next t → t.lp.held = some r →
    (byteAt r 4 ∈ ([0x20, 0x21, 0x22, 0x23, 0x24, 0x30, 0x32] : List Byte)
      ∨ byteAt r 4 = 0x31 ∧ k ≠ Kind.clockRead ∨ byteAt r 4 = 0x41 ∧ k ≠ Kind.slotRead) →
    ∃ code : Code, t = answered s k h code []

/-- R15, R70, R80, R102, R111, R136, R150, R163, R165, R178: the requests that only read are answered, and change
nothing but the reply held and the parser; and what HELLO, REASONS-TAKE SUMMARY, VOICE-QUERY, SLOT-LIST, CLOCK-READ,
DAYS-READ, ENTRY-LIST, RUMBLE-QUERY and BUDGET-READ reply, field by field. The widths that no rule gives are log 14,
the codes of power states log 15, the refusal of a SUMMARY whose group set names a group above 5 log 30, a fetch
address of 16,777,216 shown as its low three bytes log 32, and the 00h bytes of RUMBLE-QUERY for the revision of an
empty host slot and for the bytes received with no load log 36. The Link Port's idle values in the next state are
the model's choice (log 37). -/
def Obligations.QueriesChangeNothing : Prop :=
  (∀ (c : Instr) (h : ReqHead) (k : Byte) (p : List Byte) (s : State),
    encodeRequest c = some (h, k, p) → Listening s →
    k ∈ ([Kind.hello, Kind.watchRead, Kind.voiceQuery, Kind.slotRead, Kind.slotList, Kind.clockRead, Kind.daysRead,
      Kind.entryList, Kind.rumbleQuery, Kind.budgetRead] : List Byte) ∨ (∃ g, c = .reasonsTakeSummary h g) →
    ∃ code payload, exec c s = .next (answered s k h code payload))
  ∧ ∀ (h : ReqHead) (x : Byte) (s : State), Listening s →
    let flag := fun (b : Bool) => (if b then 1 else 0 : Byte)
    let p := s.sp.profile
    let known := fun (n : Nat) => if s.sb.profileStatus = .notRead then 0 else n
    let free := s.sb.allowance - 12 - s.sb.u - s.sb.w
    let day := civilOf s.cu.seconds
    let due := (s.dr.table.filter (·.due)).length
    let markerField : Option Marker → List Byte := fun m => match m with
      | none => [0, 0, 0, 0]
      | some m => (if m.report then 3 else 1) :: leBytes 3 m.index
    let v := s.voice x.toNat
    let slotFields : Nat → List Byte := fun i =>
      let n := i + 1
      let header := Memory.readAll s.keep (s.faceAddr n) 32
      let st := s.sc.slots.getD i .empty
      let shown := st ≠ .damaged ∨ headerValid header n (s.slotSize n) = true
      let hasDay := decide (shown ∧ (byteAt header 12).getLsbD 0 = true)
      let hasClock := decide (shown ∧ (byteAt header 12).getLsbD 1 = true)
      let isOpen := decide (s.sc.openSlot = some n)
      let operation : Byte := match s.sc.op with
        | some op => if op.slot = n then op.phase.byte else 0
        | none => 0
      [st.byte, operation, BitVec.ofNat 8 (hasDay.toNat + 2 * hasClock.toNat + 4 * isOpen.toNat)]
        ++ leBytes 2 (s.slotSize n)
        ++ leBytes 2 (if st = .empty then 0 else min (half header 8).toNat (s.slotSize n))
        ++ leBytes 2 (if isOpen then s.sc.highMark else 0) ++ quadBytes (quad header 4)
        ++ (if hasDay then halfBytes (half header 13) else [0, 0])
        ++ (if hasClock then quadBytes (quad header 15) else [0, 0, 0, 0])
    let entryFields : Entry → List Byte := fun e =>
      leBytes 1 e.id ++ [e.kind.byte, flag e.due, flag e.action.isSome]
        ++ (match e.kind with
          | .onDay d => leBytes 2 d ++ [0, 0]
          | .every q f => leBytes 2 q ++ leBytes 2 f
          | .onClock c => leBytes 4 c)
        ++ leBytes 2 e.tag
        ++ (match e.action with
          | some a => leBytes 1 a.pattern ++ leBytes 1 a.layer ++ leBytes 1 a.priority ++ leBytes 1 a.scale
          | none => [0, 0, 0, 0])
        ++ leBytes 2 e.accumulated ++ leBytes 2 e.latest
    let listed := (s.dr.table.drop x.toNat).take 8
    let layerFields : Layer → List Byte := fun l =>
      [l.state.byte] ++ leBytes 1 l.id ++ leBytes 1 l.priority ++ leBytes 1 l.scale ++ leBytes 1 l.step
        ++ leBytes 1 l.tick ++ [match l.passes with | .left n => BitVec.ofNat 8 n | .endless => 255]
        ++ leBytes 1 l.start ++ leBytes 1 l.value ++ leBytes 1 l.output
    let triggerFields : Trigger → List Byte := fun q => leBytes 1 q.voice ++ leBytes 1 q.marker ++ [q.generation]
    let cueFields : Cue → List Byte := fun c =>
      [c.state.byte] ++ triggerFields c.first ++ triggerFields (c.second.getD {}) ++ [flag c.second.isSome]
        ++ leBytes 1 c.pattern ++ leBytes 1 c.layer ++ leBytes 1 c.priority ++ leBytes 1 c.scale
    let inUse := fun (id : Nat) => s.ru.layers.any fun l => decide (l.state ≠ .idle ∧ l.id = id)
    let members := fun (g : Nat) (q : Member → Bool) => Member.all.any fun m => decide (m.group = g) && q m
    exec (.hello h) s = .next (answered s Kind.hello h .ok
      ([0x40, 0x03, 0x01, 1, 0, s.sb.profileStatus.byte]
        ++ leBytes 4 (if s.sb.profileStatus = .fromStore then p.gameCode else 0) ++ leBytes 2 (known p.storeUnits)
        ++ [if s.sb.formatKind = none then 0 else if s.sb.formatKind = some .full then 1 else 2,
          if s.sc.layoutState = .noLayout then 1 else 0, 8]
        ++ leBytes 1 (known s.slotCount) ++ [3, 4, 32, 16]))
    ∧ exec (.reasonsTakeSummary h x) s = .next (
      if x.getLsbD 6 = true ∨ x.getLsbD 7 = true then answered s Kind.reasonsTake h .range []
      else answered s Kind.reasonsTake h .ok
        (6 :: ((List.range 6).flatMap fun g =>
            [flag (members g fun m => m.isIn s.au.latch || m.isIn s.au.woke), flag (members g fun m => m.isIn s.au.level)])
          ++ [flag (decide ((s.au.latch &&& s.au.watch) ||| s.au.woke = 0))]))
    ∧ exec (.voiceQuery h x) s = .next (
      if 7 < x.toNat then answered s Kind.voiceQuery h .range []
      else answered s Kind.voiceQuery h .ok
        ([v.state.byte, v.generation] ++ leBytes 1 v.priority ++ leBytes 2 v.age
          ++ [if v.format = .pcm16 then 1 else 0] ++ leBytes 3 v.start ++ leBytes 3 v.length ++ leBytes 3 v.loopStart
          ++ leBytes 3 v.loopLength ++ leBytes 3 v.posInt ++ leBytes 2 v.posFrac ++ leBytes 3 v.step
          ++ signedBytes 2 v.gain ++ signedBytes 2 v.target ++ leBytes 2 v.ramp ++ markerField v.marker0
          ++ markerField v.marker1 ++ leBytes 1 v.ring.length ++ leBytes 1 v.owed ++ leBytes 3 v.fetchAddr
          ++ [flag v.request,
            flag (s.sp.fetch.any fun f => decide (f.requester = .voice x.toNat ∧ f.generation = v.generation))]
          ++ leBytes 1 v.priming))
    ∧ exec (.slotList h) s = .next (
      if s.sc.layoutState = .noLayout then answered s Kind.slotList h .noLayout []
      else answered s Kind.slotList h .ok (leBytes 1 s.slotCount ++ (List.range s.slotCount).flatMap slotFields))
    ∧ exec (.clockRead h) s = .next (answered s Kind.clockRead h (if s.cu.valid then .ok else .clockInvalid)
      (leBytes 4 s.cu.seconds ++ leBytes 2 day.year ++ leBytes 1 day.month ++ leBytes 1 day.day ++ leBytes 1 day.hour
        ++ leBytes 1 day.minute ++ leBytes 1 day.second ++ leBytes 1 day.weekday ++ leBytes 2 day.dayOfYear
        ++ [flag (!s.cu.valid)] ++ signedBytes 2 s.cu.trim ++ [flag (!s.cu.running)] ++ leBytes 1 s.cu.phase))
    ∧ exec (.daysRead h) s = .next (answered s Kind.daysRead h .ok
      (leBytes 2 s.dr.g ++ leBytes 2 s.dr.l
        ++ leBytes 2 ((s.cu.seconds + 86400 - (p.hour * 3600 + p.minute * 60)) / 86400) ++ leBytes 4 s.cu.seconds
        ++ [flag (!s.cu.valid)] ++ leBytes 2 s.dr.forfeited ++ leBytes 4 s.dr.rewind
        ++ leBytes 3 (p.hour * 3600 + p.minute * 60) ++ leBytes 2 p.catchUp ++ leBytes 2 p.setCredit
        ++ (match s.dr.deferred with
          | none => [0, 0, 0, 0]
          | some d => [1, BitVec.ofNat 8 (d.causes.rollover.toNat + 2 * d.causes.powerUp.toNat
              + 4 * d.causes.clockSet.toNat + 8 * d.causes.restart.toNat)] ++ leBytes 2 d.limit)
        ++ leBytes 1 s.dr.table.length ++ leBytes 1 due ++ leBytes 1 s.dr.fired.length))
    ∧ exec (.entryList h x) s = .next (
      if 31 < x.toNat then answered s Kind.entryList h .range []
      else answered s Kind.entryList h (if s.dr.table.length ≤ x.toNat then .fin else .ok)
        (leBytes 1 s.dr.table.length ++ leBytes 1 listed.length ++ listed.flatMap entryFields))
    ∧ exec (.rumbleQuery h) s = .next (answered s Kind.rumbleQuery h .ok
      (leBytes 1 s.ru.layers.length ++ s.ru.layers.flatMap layerFields
        ++ leBytes 1 s.ru.cues.length ++ s.ru.cues.flatMap cueFields
        ++ leBytes 1 s.ru.cache.length
        ++ (s.ru.cache.flatMap fun c => leBytes 1 c.id ++ leBytes 1 c.pattern.revision ++ [flag (inUse c.id)])
        ++ leBytes 1 s.ru.host.length
        ++ (s.ru.host.flatMap fun q => match q with
          | none => [0, 0]
          | some q => leBytes 1 q.steps.length ++ leBytes 1 q.revision)
        ++ leBytes 1 s.sp.loadList.length ++ s.sp.loadList.flatMap (leBytes 1)
        ++ leBytes 1 (match s.sp.load with | none => 0 | some l => l.buffer.length)
        ++ leBytes 1 s.ru.applied ++ leBytes 1 s.sb.m))
    ∧ exec (.budgetRead h) s = .next (answered s Kind.budgetRead h .ok
      (leBytes 1 s.sb.allowance ++ [flag (decide (s.sb.profileStatus = .defaulted)), 12] ++ leBytes 1 s.sb.u
        ++ leBytes 1 s.sb.w ++ leBytes 1 free ++ leBytes 1 (min 255 (free * 255 / 90)) ++ leBytes 1 s.sb.m
        ++ leBytes 1 s.ru.applied ++ leBytes 2 s.sb.audio
        ++ [s.sb.supply.byte, s.sb.cell.byte, flag s.sb.settle, 0]))

/-! ### The Attention Unit -/

/-- R163: WATCH-SET refuses a set that names no member; else it replaces the watch set, ATTN follows the notice set,
and the reply carries both sets. WATCH-READ replies with the watch set, the notice set and ATTN, in a byte of 00h
for asserted and 01h for released (log 15). The Link Port's idle values in the next state are the model's choice
(log 37). -/
def Obligations.WatchSetMovesAttn : Prop :=
  ∀ (h : ReqHead) (members : Triple) (s : State), Listening s →
    let w : MemberSet := members.setWidth 22
    let n : MemberSet := (s.au.latch &&& w) ||| s.au.woke
    (members.getLsbD 22 = true ∨ members.getLsbD 23 = true →
      exec (.watchSet h members) s = .next (answered s Kind.watchSet h .range []))
    ∧ (members.getLsbD 22 = false → members.getLsbD 23 = false →
      exec (.watchSet h members) s = .next
        (answered { s with au := { s.au with watch := w, attn := decide (n ≠ 0) } } Kind.watchSet h .ok
          (tripleBytes members ++ tripleBytes (n.setWidth 24))))
    ∧ exec (.watchRead h) s = .next (answered s Kind.watchRead h .ok
        (tripleBytes (s.au.watch.setWidth 24) ++ tripleBytes (((s.au.latch &&& s.au.watch) ||| s.au.woke).setWidth 24)
          ++ [if s.au.attn then 0 else 1]))

/-- R164: REASONS-TAKE in the GROUPS form refuses a group above 5; else its reply shows the members of the named
groups as they stand, and then their latches, the details of their events and their woke marks are cleared.
Conditions keep level and detail, the other groups keep everything, and ATTN follows the notice set. The Link Port's
idle values in the next state are the model's choice (log 37). -/
def Obligations.ReasonsAreTaken : Prop :=
  ∀ (h : ReqHead) (groups : Byte) (s : State), Listening s →
    (groups.getLsbD 6 = true ∨ groups.getLsbD 7 = true →
      exec (.reasonsTakeGroups h groups) s = .next (answered s Kind.reasonsTake h .range []))
    ∧ (groups.getLsbD 6 = false → groups.getLsbD 7 = false →
      ∃ t, exec (.reasonsTakeGroups h groups) s = .next t
        ∧ t = answered { s with au := t.au } Kind.reasonsTake h .ok
            (counted (namedGroups groups) fun g => counted (groupMembers g) s.au.memberBytes)
        ∧ t.au.level = s.au.level ∧ t.au.watch = s.au.watch
        ∧ t.au.attn = decide ((t.au.latch &&& t.au.watch) ||| t.au.woke ≠ 0)
        ∧ ∀ m : Member,
          (groups.getLsbD m.group = true → m.isIn t.au.latch = false ∧ m.isIn t.au.woke = false
            ∧ (m.isCondition = false → t.au.details.bytes m = [0, 0, 0, 0]))
          ∧ (groups.getLsbD m.group = false →
            m.isIn t.au.latch = m.isIn s.au.latch ∧ m.isIn t.au.woke = m.isIn s.au.woke)
          ∧ (groups.getLsbD m.group = false ∨ m.isCondition = true →
            t.au.details.bytes m = s.au.details.bytes m))

/-- R166: AWAIT refuses a set that names no member. It is satisfied at arrival by a member of its set that is
latched or true: the reply carries the ready set and every member of the set as it stood, and the set's latches,
event details and woke marks are cleared. Otherwise it is held, with no reply, until the arrival plus its limit, 0
being taken as 1. The Link Port's idle values in the next state are the model's choice (log 37). -/
def Obligations.AwaitAnswersOrHolds : Prop :=
  ∀ (h : ReqHead) (members : Triple) (limit : Half) (s : State), Listening s →
    let ms : MemberSet := members.setWidth 22
    let ready : MemberSet := ms &&& (s.au.latch ||| s.au.level)
    (members.getLsbD 22 = true ∨ members.getLsbD 23 = true →
      exec (.await h members limit) s = .next (answered s Kind.await h .range []))
    ∧ (members.getLsbD 22 = false → members.getLsbD 23 = false → ready ≠ 0 →
      ∃ t, exec (.await h members limit) s = .next t
        ∧ t = answered { s with au := t.au } Kind.await h .ok (s.awaitPayload ms ready 0)
        ∧ t.au.level = s.au.level ∧ t.au.watch = s.au.watch
        ∧ t.au.attn = decide ((t.au.latch &&& t.au.watch) ||| t.au.woke ≠ 0)
        ∧ ∀ m : Member,
          (m.isIn ms = true → m.isIn t.au.latch = false ∧ m.isIn t.au.woke = false
            ∧ (m.isCondition = false → t.au.details.bytes m = [0, 0, 0, 0]))
          ∧ (m.isIn ms = false → m.isIn t.au.latch = m.isIn s.au.latch ∧ m.isIn t.au.woke = m.isIn s.au.woke)
          ∧ (m.isIn ms = false ∨ m.isCondition = true → t.au.details.bytes m = s.au.details.bytes m))
    ∧ (members.getLsbD 22 = false → members.getLsbD 23 = false → ready = 0 →
      exec (.await h members limit) s = .next { s with lp := { s.lp with
        parser := .hunt, extent := 0, taken := 0, frame := {}
        await := some { members := ms, arrival := s.now, expiry := s.now + 8000 * max 1 limit.toNat, tag := h.tag
                        extra := h.extra } } })

/-- R167: the expiry of a held AWAIT forms the TIMEOUT reply, with an empty ready set, the whole milliseconds since
its arrival and the members as they stand, and consumes nothing. The Link Port's idle values in the next state are
the model's choice (log 37). -/
def Obligations.AwaitExpires : Prop :=
  ∀ (a : PendingAwait) (s : State), Settled s → Quiet s → s.lp.await = some a → s.now ≤ a.expiry →
    exec .awaitExpiry s = .next (State.refresh { movedTo s a.expiry with
      lp := { s.lp with
        await := none, outgoing := false, sent := 0
        held := some (replyFrame Kind.await a.tag .timeout
          (tripleBytes 0 ++ leBytes 2 ((a.expiry - a.arrival) / 8000)
            ++ (membersOf a.members).flatMap fun m =>
              [if m.isCondition then flagByte (m.isIn s.au.level) else flagByte (m.isIn s.au.latch),
                flagByte (m.isIn s.au.woke)] ++ s.au.details.bytes m)) } })

/-- R154, R159, R160, R167, R77: a crystal stop found while the clock is VALID raises CLOCK_INVALID. In ACTIVE a held
AWAIT that names it is answered OK with that one member ready, and its whole set is cleared. In STANDBY, with the rose
latch clear, it returns the part to ACTIVE and is marked woke, so ATTN is asserted; with the rose latch set already the
part stays in STANDBY. -/
def Obligations.NewRisingAnswersOrWakes : Prop :=
  ∀ s : State, Settled s → s.cu.running = true → s.cu.valid = true →
    (∀ a, s.sb.power = .active → s.lp.await = some a → Member.clockInvalid.isIn a.members = true →
      Member.clockInvalid.isIn s.au.latch = false →
      ∃ t, exec .crystalStopFound s = .next t
        ∧ t.lp.await = none ∧ Member.clockInvalid.isIn t.au.level = true
        ∧ t.au.latch &&& a.members = 0 ∧ t.au.woke &&& a.members = 0
        ∧ ∃ members, t.lp.held = some (replyFrame Kind.await a.tag (Code.withExtra a.extra .ok)
            (tripleBytes 0x000800 ++ leBytes 2 ((s.now - a.arrival) / 8000) ++ members)))
    ∧ (s.sb.power = .standby → s.lp.await = none → Member.clockInvalid.isIn s.au.latch = false →
      ∃ t, exec .crystalStopFound s = .next t
        ∧ t.sb.power = .active ∧ t.au.attn = true ∧ t.au.woke = s.au.woke ||| Member.clockInvalid.set
        ∧ t.au.latch = s.au.latch ||| Member.clockInvalid.set ∧ Member.clockInvalid.isIn t.au.level = true
        ∧ t.se.nextBoundary = s.now + 15625 ∧ t.ru.phase = 0 ∧ t.se.amp = (s.se.amp || s.se.hold))
    ∧ (s.sb.power = .standby → s.lp.await = none → Member.clockInvalid.isIn s.au.latch = true →
      ∃ t, exec .crystalStopFound s = .next t
        ∧ t.sb.power = .standby ∧ t.au.woke = s.au.woke ∧ t.au.latch = s.au.latch
        ∧ Member.clockInvalid.isIn t.au.level = true)

/-! ### The Sound Engine and the Store Port -/

/-- R5, R6, R7: an accepted VOICE-START takes the named voice, or for ANY the lowest IDLE one, or else the candidate
to steal: RELEASING first, then the oldest, then the lowest. The voice's record is loaded and its generation moves
on, the amplifier is ON, cues armed on a busy voice taken lapse with CUE_LAPSED, cause VOICE, and no VOICE_END is
raised. ANY with no candidate is FULL. The reply's generation takes one byte (log 14). The Link Port's idle values
in the next state are the model's choice (log 37). -/
def Obligations.VoiceStartTakesAVoice : Prop :=
  ∀ (h : ReqHead) (f : VoiceStartFields) (s : State), Listening s → s.se.voices.length = 8 →
    let b := if f.format = 1 then 2 else 1
    let loopEnd := f.loopStart.toNat + f.loopLength.toNat
    let markerOk := fun (m : Option Marker) => ∀ x ∈ m, x.index ≤ f.length.toNat ∧ (f.loopLength = 0 ∨ x.index ≤ loopEnd)
    let inRange := (f.voice.toNat ≤ 7 ∨ f.voice = 0xFF) ∧ f.priority.toNat ≤ 15 ∧ (f.format = 0 ∨ f.format = 1)
      ∧ f.ramp.toNat ≤ 32767 ∧ f.length ≠ 0 ∧ f.start.toNat + f.length.toNat * b ≤ s.sp.profile.storeUnits * 65536
      ∧ (f.loopLength = 0 ∨ 4 ≤ f.loopLength.toNat ∧ loopEnd ≤ f.length.toNat)
      ∧ markerOk (markerOf f.marker0) ∧ markerOk (markerOf f.marker1)
    let better := fun (n m : Nat) =>
      (s.voice n).state = .releasing ∧ (s.voice m).state ≠ .releasing
      ∨ ((s.voice n).state = .releasing ↔ (s.voice m).state = .releasing)
        ∧ ((s.voice m).age < (s.voice n).age ∨ (s.voice m).age = (s.voice n).age ∧ n ≤ m)
    let taken := fun (n : Nat) =>
      f.voice ≠ 0xFF ∧ n = f.voice.toNat
      ∨ f.voice = 0xFF ∧ (s.voice n).state = .idle ∧ (∀ m < n, (s.voice m).state ≠ .idle)
      ∨ f.voice = 0xFF ∧ (∀ m < 8, (s.voice m).state ≠ .idle) ∧ (s.voice n).priority ≤ f.priority.toNat
        ∧ ∀ m < 8, (s.voice m).priority ≤ f.priority.toNat → better n m
    (¬ inRange → exec (.voiceStart h f) s = .next (answered s Kind.voiceStart h .range []))
    ∧ (inRange → f.voice = 0xFF → (∀ m < 8, (s.voice m).state ≠ .idle ∧ f.priority.toNat < (s.voice m).priority) →
      exec (.voiceStart h f) s = .next (answered s Kind.voiceStart h .full []))
    ∧ ∀ n < 8, inRange → taken n →
      ∃ t, exec (.voiceStart h f) s = .next t
        ∧ SameUse (t.voice n) {
            state := .priming, generation := (s.voice n).generation + 1, priority := f.priority.toNat, age := 0
            format := if f.format = 1 then .pcm16 else .pcm8, start := f.start.toNat, length := f.length.toNat
            loopStart := if f.loopLength = 0 then 0 else f.loopStart.toNat, loopLength := f.loopLength.toNat
            posInt := 0, posFrac := 0
            step := if f.step = 0 then 1 else if 262144 < f.step.toNat then 262144 else f.step.toNat
            gain := f.startGain.toInt, target := f.targetGain.toInt, ramp := f.ramp.toNat
            marker0 := markerOf f.marker0, marker1 := markerOf f.marker1
            ring := [], owed := 0, fetchAddr := f.start.toNat, request := false, starved := false, priming := 0 }
        ∧ (∀ m < 8, m ≠ n → SameUse (t.voice m) (s.voice m))
        ∧ (∀ j < 4, t.cue j = lapsed s (fun v => decide ((s.voice n).state ≠ .idle ∧ v = n)) j)
        ∧ LapsesByVoice (fun v => decide ((s.voice n).state ≠ .idle ∧ v = n)) s t
        ∧ t.se.amp = true ∧ t.se.idleBlocks = 0 ∧ t.sb.u = 25 ∧ t.se.master = s.se.master ∧ t.se.hold = s.se.hold
        ∧ t.au.details.voiceEnd = s.au.details.voiceEnd
        ∧ Member.voiceEnd.isIn t.au.latch = Member.voiceEnd.isIn s.au.latch
        ∧ t.ru.layers = s.ru.layers ∧ t.sc = s.sc ∧ SameStore s t ∧ SameKeep s t
        ∧ t.lp = (answered s Kind.voiceStart h .ok [BitVec.ofNat 8 n, (s.voice n).generation + 1,
            if (s.voice n).state = .idle then 0 else 1]).lp

/-- R9, R10, R11: VOICE-ADJUST checks its fields, that the voice is busy, the expected generation, and the state the
selected items need, in that order. An accepted one replaces each selected item and nothing else of the voice. The
reply's generation takes one byte (log 14). The Link Port's idle values in the next state are the model's choice
(log 37). -/
def Obligations.VoiceAdjustReplacesSelected : Prop :=
  ∀ (h : ReqHead) (f : VoiceAdjustFields) (s : State), Listening s → s.se.voices.length = 8 →
    let n := f.voice.toNat
    let v := s.voice n
    let sel := fun (i : Nat) => f.changes.getLsbD i
    let markerOk := fun (m : Option Marker) =>
      ∀ x ∈ m, x.index ≤ v.length ∧ (v.loopLength = 0 ∨ x.index ≤ v.loopStart + v.loopLength)
    let state : VoiceState :=
      if sel 5 = true ∧ f.pause = 0 ∧ v.state = .playing then .paused
      else if sel 5 = true ∧ f.pause = 1 ∧ v.state = .paused then .playing
      else v.state
    if 7 < n ∨ (256 ≤ f.generation.toNat ∧ f.generation ≠ 0xFFFF) ∨ (sel 2 = true ∧ 32767 < f.ramp.toNat)
        ∨ (sel 5 = true ∧ f.pause ≠ 0 ∧ f.pause ≠ 1) then
      exec (.voiceAdjust h f) s = .next (answered s Kind.voiceAdjust h .range [])
    else if v.state = .idle then
      exec (.voiceAdjust h f) s = .next (answered s Kind.voiceAdjust h .state [])
    else if f.generation ≠ 0xFFFF ∧ f.generation.toNat ≠ v.generation.toNat then
      exec (.voiceAdjust h f) s = .next (answered s Kind.voiceAdjust h .stale [])
    else if (sel 1 = true ∧ v.state = .releasing)
        ∨ (sel 5 = true ∧ f.pause = 0 ∧ (v.state = .priming ∨ v.state = .releasing)) then
      exec (.voiceAdjust h f) s = .next (answered s Kind.voiceAdjust h .state [])
    else if (sel 3 = true ∧ ¬ markerOk (markerOf f.marker0)) ∨ (sel 4 = true ∧ ¬ markerOk (markerOf f.marker1)) then
      exec (.voiceAdjust h f) s = .next (answered s Kind.voiceAdjust h .range [])
    else
      ∃ t, exec (.voiceAdjust h f) s = .next t
        ∧ SameUse (t.voice n) { v with
            step := if sel 0 then (if f.step = 0 then 1 else if 262144 < f.step.toNat then 262144 else f.step.toNat)
              else v.step
            target := if sel 1 then f.targetGain.toInt else v.target
            ramp := if sel 2 then f.ramp.toNat else v.ramp
            marker0 := if sel 3 then markerOf f.marker0 else v.marker0
            marker1 := if sel 4 then markerOf f.marker1 else v.marker1
            state := state }
        ∧ (∀ m < 8, m ≠ n → SameUse (t.voice m) (s.voice m))
        ∧ SameEngine s t ∧ SameAttention s t ∧ SameRumble s t ∧ t.sc = s.sc ∧ SameStore s t ∧ SameKeep s t
        ∧ t.lp = (answered s Kind.voiceAdjust h .ok [f.voice, v.generation, state.byte]).lp

/-- R4, R12, R13, R14: an accepted VOICE-STOP acts on the voice named, or on every busy voice. IMMEDIATE ends each
use with no VOICE_END. RELEASE ends a PRIMING voice with VOICE_END and makes the others RELEASING toward gain 0 by
the request's ramp. Cues armed on a voice that ended lapse with CUE_LAPSED, cause VOICE. An expected generation of
256..FFFEh is refused for ALL too (log 31). The Link Port's idle values in the next state are the model's choice
(log 37). -/
def Obligations.VoiceStopEndsOrReleases : Prop :=
  ∀ (h : ReqHead) (voice : Byte) (generation ramp : Half) (s : State), Listening s → s.se.voices.length = 8 →
    let v := s.voice voice.toNat
    let acted := fun (n : Nat) =>
      if voice = 0xFF then decide ((s.voice n).state ≠ .idle) else decide (n = voice.toNat)
    let primed := fun (n : Nat) => acted n && decide ((s.voice n).state = .priming)
    ∀ release : Bool,
      let c : Instr := if release then .voiceStopRelease h voice generation ramp
        else .voiceStopImmediate h voice generation ramp
      if (7 < voice.toNat ∧ voice ≠ 0xFF) ∨ (256 ≤ generation.toNat ∧ generation ≠ 0xFFFF) ∨ 32767 < ramp.toNat then
        exec c s = .next (answered s Kind.voiceStop h .range [])
      else if voice ≠ 0xFF ∧ v.state = .idle then
        exec c s = .next (answered s Kind.voiceStop h .state [])
      else if voice ≠ 0xFF ∧ generation ≠ 0xFFFF ∧ generation.toNat ≠ v.generation.toNat then
        exec c s = .next (answered s Kind.voiceStop h .stale [])
      else
        ∃ t, exec c s = .next t
          ∧ (∀ n < 8, SameUse (t.voice n)
              (if acted n = false then s.voice n
                else if release = false ∨ (s.voice n).state = .priming then endedUse (s.voice n)
                else { s.voice n with target := 0, ramp := ramp.toNat, state := .releasing }))
          ∧ (∀ j < 4, t.cue j = lapsed s (fun n => decide (n < 8) && if release then primed n else acted n) j)
          ∧ LapsesByVoice (fun n => decide (n < 8) && if release then primed n else acted n) s t
          ∧ (if release = true ∧ (List.range 8).any primed = true then
              Member.voiceEnd.isIn t.au.latch = true
                ∧ ∀ n < 8, t.au.details.voiceEnd.getLsbD n
                    = (primed n || (Member.voiceEnd.isIn s.au.latch && s.au.details.voiceEnd.getLsbD n))
            else Member.voiceEnd.isIn t.au.latch = Member.voiceEnd.isIn s.au.latch
              ∧ t.au.details.voiceEnd = s.au.details.voiceEnd)
          ∧ SameEngine s t ∧ t.ru.layers = s.ru.layers ∧ t.sc = s.sc ∧ SameStore s t ∧ SameKeep s t
          ∧ ∃ set : Byte, (∀ n < 8, set.getLsbD n = acted n)
            ∧ t.lp = (answered s Kind.voiceStop h .ok [set]).lp

/-- R16, R17: MIX-SET refuses a gain above 32,767 and a hold field that is no flag. An accepted one sets the master
gain and the hold flag, turns the amplifier ON with the hold, and turns it OFF when the hold is cleared at 512 idle
blocks. The Link Port's idle values in the next state are the model's choice (log 37). -/
def Obligations.MixSetSetsTheEngine : Prop :=
  ∀ (h : ReqHead) (gain : Half) (hold : Byte) (s : State), Listening s →
    let amp := if hold = 1 then true else if s.se.idleBlocks = 512 then false else s.se.amp
    if 32767 < gain.toNat ∨ (hold ≠ 0 ∧ hold ≠ 1) then
      exec (.mixSet h gain hold) s = .next (answered s Kind.mixSet h .range [])
    else
      exec (.mixSet h gain hold) s = .next (State.refresh
        (answered { s with se := { s.se with master := gain.toNat, hold := decide (hold = 1), amp := amp } }
          Kind.mixSet h .ok
          (halfBytes gain ++ leBytes 2 (min gain.toNat s.sb.audio) ++ [hold, if amp then 1 else 0])))

/-- R3, R8, R17, R19 to R29, R125: a mix block boundary. After the boundary updates (priming, gain slew, release end)
the 64 output samples are the saturated sums of the voices' terms at the effective master gain, each voice that sounds
advancing by its step after each; the close clears the starved flags, ends the one-shots played out, settles the bytes
owed, raises the ages of the busy voices and keeps the idle count. MARKER, VOICE_STARVED, CLIP and VOICE_END are raised
with what the block found. A voice renders from its own record alone: a PAUSED one keeps its position and gain, and with
the effective master gain at 0 every code is 2048. -/
def Obligations.MixBlockRenders : Prop :=
  ∀ s : State, s.sb.power = .active → Quiet s → s.se.voices.length = 8 →
    let before := s.se.voices.map atBoundary
    let last := voicesAt before 64
    let out := fun (k : Nat) => mixedAt before s.se.effMaster k
    let held := fun (x : Int) => max (-32768) (min 32767 x)
    ∃ t, exec .mixBlockBoundary s = .next t
      ∧ t.now = s.now + (s.se.nextBoundary - s.now) ∧ t.se.nextBoundary = s.se.nextBoundary + 15625
      ∧ t.se.blockStart = t.now ∧ t.se.block.length = 64 ∧ (∀ c ∈ t.se.block, c ≤ 4095)
      ∧ (s.se.effMaster = 0 → t.se.block = List.replicate 64 2048)
      ∧ t.se.block = (List.range 64).map (fun k => (held (out k) / 16 + 2048).toNat)
      ∧ t.ru.phase = (s.ru.phase + 1) % 4
      ∧ (∀ n < 8, SameUse (t.voice n) (atClose s.sp.fetch n (last.getD n {})))
      ∧ (∀ n < 8,
        let v := s.voice n
        let w := t.voice n
        w.generation = v.generation ∧ w.starved = false ∧ w.target = v.target ∧ w.ramp = v.ramp
          ∧ w.gain = (if v.state = .idle ∨ v.state = .paused then v.gain
              else if v.ramp = 0 ∨ (v.target - v.gain).natAbs ≤ v.ramp then v.target
              else if v.gain < v.target then v.gain + v.ramp else v.gain - v.ramp)
          ∧ (v.state = .paused → v.owed = 0 → SameUse w { v with starved := false, age := min 65535 (v.age + 1) })
          ∧ (v.state = .idle → SameUse w { v with starved := false }))
      ∧ (if ∃ v ∈ t.se.voices, v.state ≠ .idle then t.se.idleBlocks = 0 ∧ t.se.amp = s.se.amp
        else t.se.idleBlocks = min 512 (s.se.idleBlocks + 1)
          ∧ t.se.amp = (s.se.amp && (s.se.hold || decide (t.se.idleBlocks < 512))))
      ∧ (s.lp.await = none →
        RaisesSet .marker (·.marker) 16 (fun i => (List.range 64).any fun k =>
            (crossesMarkers ((voicesAt before k).getD (i / 2) {})).any fun x => x.1 == i % 2 && x.2.report) s t
          ∧ RaisesSet .voiceStarved (·.voiceStarved) 8 (fun n => (last.getD n {}).starved) s t
          ∧ RaisesSet .voiceEnd (·.voiceEnd) 8
            (fun n => decide ((s.voice n).state ≠ .idle ∧ (t.voice n).state = .idle)) s t
          ∧ (if (List.range 64).any (fun k => held (out k) != out k) then
              Member.clip.isIn t.au.latch = true ∧ t.au.details.clip
                = min 255 ((if Member.clip.isIn s.au.latch then s.au.details.clip else 0) + 1)
            else Member.clip.isIn t.au.latch = Member.clip.isIn s.au.latch ∧ t.au.details.clip = s.au.details.clip))
      ∧ t.sc = s.sc ∧ t.dr = s.dr ∧ t.keep = s.keep ∧ t.face = s.face ∧ t.sb.supply = s.sb.supply
      ∧ t.se.master = s.se.master ∧ t.se.hold = s.se.hold ∧ t.au.watch = s.au.watch ∧ t.au.level = s.report.au.level

/-- R8, R17: a PRIMING voice below its threshold whose count reaches 32 becomes PLAYING at that boundary, and at its
close either still plays or, a sound played out within the block, has ended with VOICE_END. A close that brings the idle
count to 512 with the hold flag clear turns the amplifier OFF, so U is 0 and the DAC code 2048. With the hold flag set
there is no such close. That PRIMING_LIMIT and AMPLIFIER_IDLE_OFF are the whole boundary that brings this about is log
9, and that they are no event elsewhere log 6, both the model's choices. -/
def Obligations.BoundaryLimits : Prop :=
  (∀ (n : Nat) (s : State), n < 8 → s.sb.power = .active → s.lp.await = none → (s.voice n).state = .priming →
    (s.voice n).priming = 31 →
    (s.voice n).ring.length
      < (if (s.voice n).loopLength ≠ 0 then 64
          else min 64 ((s.voice n).length * (if (s.voice n).format = .pcm16 then 2 else 1))) →
    exec (.primingLimit n) s = exec .mixBlockBoundary s
      ∧ ∃ t, exec (.primingLimit n) s = .next t
        ∧ ((t.voice n).state = .playing ∧ (t.voice n).priming = 32
          ∨ (t.voice n).state = .idle ∧ Member.voiceEnd.isIn t.au.latch = true
            ∧ t.au.details.voiceEnd.getLsbD n = true))
  ∧ (∀ s : State, s.sb.power = .active → s.se.amp = true → s.se.hold = false → s.se.idleBlocks = 511 →
    (∀ v ∈ s.se.voices, v.state = .idle) →
    exec .amplifierIdleOff s = exec .mixBlockBoundary s
      ∧ ∃ t, exec .amplifierIdleOff s = .next t ∧ t.se.amp = false ∧ t.se.idleBlocks = 512 ∧ t.se.dac = 2048
        ∧ t.sb.u = 0)
  ∧ ∀ s : State, s.se.hold = true → exec .amplifierIdleOff s = .next s

/-- R31, R32, R36, R37, R41, R44, R45: the bytes of a fetch go to its requester. A matched voice drops its owed bytes,
appends the rest and moves its fetch address in play order; an unmatched or abandoned voice fetch is delivered to
none; the pattern loader and the power-up reader append what is not yet the last of their read. The last fetch of the
profile image validates it (R183): an image that fails leaves the default profile. It then takes the format decision
(R184): layout state, format kind and a format begun, or the directory stage (R187), whose last fetch takes the 64
entries. Three values are the model's choice: the slot states at the start of the scrub, none, and the generation of a
power-up fetch, 0 (log 5), and the directory address of the default profile, 0 (log 4). -/
def Obligations.FetchDelivers : Prop :=
  ∀ (f : Fetch) (data : List Byte) (mv : Nat) (s : State), Settled s → Quiet s → s.sp.fetch = some f →
    data.length = f.size →
    ∃ t, exec (.fetchCompletion data mv) s = .next t
      ∧ t.now = s.now + (f.due - s.now)
      ∧ (∀ n < 8, f.requester = .voice n → s.se.voices.length = 8 →
        let v := s.voice n
        let w := if v.format = .pcm16 then 2 else 1
        let stop := v.start + (v.loopStart + v.loopLength) * w
        let a := v.fetchAddr + f.size
        SameStore s t ∧ SameEngine s t ∧ SameRumble s t ∧ SameAttention s t ∧ t.sc = s.sc ∧ t.dr = s.dr
          ∧ t.keep = s.keep ∧ t.face = s.face ∧ t.lp = s.lp
          ∧ (∀ m < 8, m ≠ n → SameUse (t.voice m) (s.voice m))
          ∧ SameUse (t.voice n)
            (if f.abandoned = false ∧ v.generation = f.generation ∧ v.state ≠ .idle then
              { v with
                owed := v.owed - min v.owed f.size
                ring := v.ring ++ data.drop (min v.owed f.size)
                fetchAddr := if v.loopLength ≠ 0 ∧ stop ≤ a then
                    v.start + v.loopStart * w + (a - stop) % (v.loopLength * w)
                  else a }
            else v))
      ∧ (∀ l, f.requester = .loader → f.abandoned = false → s.sp.load = some l → l.buffer.length + f.size < l.size →
        t.sp.load = some { l with buffer := l.buffer ++ data } ∧ t.sp.loadList = s.sp.loadList
          ∧ t.ru.layers = s.ru.layers ∧ t.ru.cache = s.ru.cache ∧ SameVoices s t ∧ SameKeep (movedTo s f.due) t)
      ∧ (f.requester = .powerUp → f.abandoned = false → s.sb.power = .waking → s.sb.stage = 4 →
        s.sp.reader.length + f.size < 64 →
        t.sp.reader = s.sp.reader ++ data ∧ t.sb.stage = 4 ∧ t.sp.profile = s.sp.profile ∧ SameKeep (movedTo s f.due) t)
      ∧ (f.requester = .powerUp → f.abandoned = false → s.sb.power = .waking → s.sb.stage = 4 →
        s.sp.reader.length + f.size = 64 →
        let image := s.sp.reader ++ data
        let slots := (byteAt image 3).toNat
        let sizes := (List.range 8).map fun i => (half image (8 + 2 * i)).toNat
        let layout := sizes.take slots
        let c := (half image 26).toNat
        let k := (half image 28).toNat
        let a := (byteAt image 30).toNat
        let patterns := (byteAt image 31).toNat
        let directory := (triple image 32).toNat
        let units := (half image 35).toNat
        let bad := (∀ i < 16, byteAt image i = 0) ∨ (∀ i < 16, byteAt image i = 0xFF)
          ∨ byteAt image 0 ≠ 0x50 ∨ byteAt image 1 ≠ 0x4A ∨ byteAt image 2 ≠ 1
          ∨ half image 62 ≠ crc16 (image.take 62)
          ∨ units < 1 ∨ 256 < units ∨ slots < 1 ∨ 8 < slots
          ∨ (∃ z ∈ layout, z % 256 ≠ 0 ∨ z < 256 ∨ 32768 < z) ∨ 63488 < (layout.map (· + 32)).sum
          ∨ 23 < (byteAt image 24).toNat ∨ 59 < (byteAt image 25).toNat ∨ c < 1 ∨ 1000 < c ∨ c < k
          ∨ a < 40 ∨ 150 < a ∨ a % 5 ≠ 0 ∨ 64 < patterns ∨ 0 < patterns ∧ units * 65536 < directory + 256
        let profile : Profile := if bad then
            { gameCode := 0, slotCount := 1, sizes := [8192], hour := 0, minute := 0, catchUp := 30, setCredit := 0
              allowance := 60, patternCount := 0, directory := 0, storeUnits := 16 }
          else
            { gameCode := (quad image 4).toNat, slotCount := slots, sizes := sizes, hour := (byteAt image 24).toNat
              minute := (byteAt image 25).toNat, catchUp := c, setCredit := k, allowance := a, patternCount := patterns
              directory := directory, storeUnits := units }
        let differs := (if bad then [8192] else layout) ≠ recordedLayout s.keep
        let decision : Option FormatKind := if s.sb.intact = false then some .full
          else if bad then none
          else if profile.gameCode ≠ recordedCode s.keep then some .full
          else if differs then some .slots
          else none
        let noLayout := s.sb.intact = true ∧ bad ∧ differs
        t.sp.profile = profile ∧ t.sp.reader = [] ∧ t.sb.profileStatus = (if bad then .defaulted else .fromStore)
          ∧ t.sb.allowance = profile.allowance ∧ t.sb.decided = true ∧ t.sb.formatKind = decision
          ∧ t.sc.layoutState = (if noLayout then .noLayout else .usable)
          ∧ t.sb.format = decision.map (fun d => { kind := d, made := 0, ran := 0 })
          ∧ t.keep = s.keep ∧ t.face = s.face
          ∧ (if decision ≠ none then t.sb.power = .waking ∧ t.sb.stage = 5 ∧ t.dr = s.dr
            else if ¬ bad ∧ 0 < patterns then
              t.sb.power = .waking ∧ t.sb.stage = 6 ∧ t.dr = s.dr ∧ t.sp.fetch = some {
                requester := .powerUp, generation := 0, address := directory, size := 32, abandoned := false
                due := t.now + 48 }
            else t.sp.directory = List.replicate 64 { address := 0, steps := 0 } ∧ t.sc.slots = []
              ∧ (if noLayout then t.sb.power = .active
                else t.sb.power = .waking ∧ t.sb.stage = 7 ∧ t.sb.scrubSlot = 1 ∧ t.dr = s.dr)))
      ∧ (f.requester = .powerUp → f.abandoned = false → s.sb.power = .waking → s.sb.stage = 6 →
        s.sc.layoutState = .usable → s.sp.reader.length + f.size = 256 →
        let image := s.sp.reader ++ data
        t.sp.directory = (List.range 64).map (fun i => {
            address := (triple image (4 * i)).toNat, steps := (byteAt image (4 * i + 3)).toNat })
          ∧ t.sp.reader = [] ∧ t.sp.profile = s.sp.profile ∧ t.sb.power = .waking ∧ t.sb.stage = 7
          ∧ t.sb.scrubSlot = 1 ∧ t.sc.slots = [] ∧ SameKeep (movedTo s f.due) t)

/-- R40, R42, R119, R120: the fetch that completes the record of the current load ends the load. A record whose step
count is the directory's and whose durations are not 0 is placed at the front of the cache, in a full one for the entry
not in use that is latest in the recency order, and the layers LOADING on it run from its step 0. Any other record is
not cached, those layers become IDLE and PATTERN_MISSING names the id. The next id listed becomes the current load; one
whose directory entry fails its checks ends at once with PATTERN_MISSING, and the list goes on behind it. -/
def Obligations.LoadEnds : Prop :=
  ∀ (f : Fetch) (l : Load) (id : Nat) (queue : List Nat) (data : List Byte) (mv : Nat) (s : State), Settled s →
    s.sb.power = .active → Quiet s → s.lp.await = none → s.sp.fetch = some f → f.requester = .loader →
    f.abandoned = false → data.length = f.size → s.sp.load = some l → s.sp.loadList = id :: queue → id ∉ queue →
    queue.Nodup → s.ru.layers.length = 3 → l.size = l.buffer.length + f.size →
    let record := l.buffer ++ data
    let k := (l.size - 4) / 3
    let steps := (List.range k).map fun i => PatternStep.mk (byteAt record (4 + 3 * i)).toNat
      (byteAt record (5 + 3 * i)).toNat ((byteAt record (6 + 3 * i)).getLsbD 0)
    let p : Pattern := {
      repeats := (byteAt record 1).toNat, returnStep := (byteAt record 2).toNat, revision := (byteAt record 3).toNat
      steps := steps }
    let good := (byteAt record 0).toNat = k ∧ ∀ x ∈ steps, x.duration ≠ 0
    let entry := fun (x : Nat) => s.sp.directory.getD x {}
    let stands := fun (x : Nat) => decide (x < s.sp.profile.patternCount ∧ 1 ≤ (entry x).steps ∧ (entry x).steps ≤ 32
      ∧ (entry x).address + 4 + 3 * (entry x).steps ≤ s.sp.profile.storeUnits * 65536)
    let left := queue.dropWhile fun x => !stands x
    let failed := queue.takeWhile fun x => !stands x
    let inUse := fun (x : Nat) => s.ru.layers.any fun l => decide (l.state ≠ .idle ∧ l.id = x)
    let placed := fun (cache : List Cached) => { id := id, pattern := p } :: cache
    ∃ t, exec (.fetchCompletion data mv) s = .next t
      ∧ t.sp.loadList = left
      ∧ t.sp.load = left.head?.map (fun x => {
          address := (entry x).address, size := 4 + 3 * (entry x).steps, buffer := [] })
      ∧ t.ru.cues = s.ru.cues ∧ t.ru.host = s.ru.host ∧ SameVoices s t
      ∧ t.au.details.patternMissing = (if failed ≠ [] then failed.getLast? else if good then s.au.details.patternMissing
          else some id)
      ∧ (Member.patternMissing.isIn t.au.latch = true
        ↔ failed ≠ [] ∨ ¬ good ∨ Member.patternMissing.isIn s.au.latch = true)
      ∧ (∀ n < 3, t.layer n =
          if (s.layer n).state = .loading ∧ ((s.layer n).id ∈ failed ∨ (s.layer n).id = id ∧ ¬ good) then
            { s.layer n with state := .idle, value := 0, output := 0 }
          else if (s.layer n).state = .loading ∧ (s.layer n).id = id then
            { s.layer n with
              state := .running, step := 0, tick := 0, start := 0, value := 0, output := 0, pattern := p
              passes := if p.repeats = 255 then .endless else .left p.repeats }
          else s.layer n)
      ∧ (¬ good → t.ru.cache = s.ru.cache)
      ∧ (good → s.ru.cache.length < 8 → t.ru.cache = placed s.ru.cache)
      ∧ (good → 8 ≤ s.ru.cache.length → ∀ i < s.ru.cache.length,
        (∀ x ∈ s.ru.cache.drop (i + 1), inUse x.id = true) → inUse (s.ru.cache.getD i ⟨0, p⟩).id = false →
        t.ru.cache = placed (s.ru.cache.take i ++ s.ru.cache.drop (i + 1)))

/-! ### The Save Controller -/

/-- R50, R53, R54, R55: SLOT-OPEN makes its checks in order; an accepted one makes the slot write-open with high
mark 0 and, for a seeded open of a face with bytes to copy, starts a seeding of the read extent, with W at 10 mA.
That the seeding's record holds 0 as commit length and expected CRC is the model's choice (log 5). The Link Port's
idle values in the next state are the model's choice (log 37). -/
def Obligations.SlotOpenOpens : Prop :=
  ∀ (h : ReqHead) (slot seed : Byte) (s : State), Listening s →
    let n := slot.toNat
    let stored := (half (Memory.readAll s.keep (s.faceAddr n) 32) 8).toNat
    let extent := if seed = 0 ∨ s.sc.slots.getD (n - 1) .empty = .empty then 0 else min stored (s.slotSize n)
    let op : Option KeepOp := if extent = 0 then none
      else some {
        kind := .seed, phase := .seeding, slot := n, extent := extent, done := 0, length := 0, expected := 0
        began := s.now }
    exec (.slotOpen h slot seed) s = .next (
      if seed ≠ 0 ∧ seed ≠ 1 then answered s Kind.slotOpen h .range []
      else if s.sc.layoutState = .noLayout then answered s Kind.slotOpen h .noLayout []
      else if n = 0 ∨ s.slotCount < n then answered s Kind.slotOpen h .range []
      else if s.sc.openSlot ≠ none ∨ s.sc.op ≠ none then answered s Kind.slotOpen h .busy []
      else if s.sb.supply = .fence then answered s Kind.slotOpen h .power []
      else State.refresh (answered { s with sc := { s.sc with openSlot := some n, highMark := 0, op := op } }
        Kind.slotOpen h (if seed = 1 then .accepted else .ok)
        ([slot, if s.face.getLsbD (n - 1) then 0 else 1] ++ leBytes 2 extent)))

/-- R55, R48, R49: a seeding whose bytes copied so far equal the face's completes with every byte of its extent so
copied to the same shadow offset, the high mark at the extent, no operation and W 0; no other byte of keep memory and no
face bit changes. On the way there, a step on an empty queue lets an eighth of a microsecond pass (log 10): with nothing
under way the clock alone moves, a seeding copies a byte and a verify reads one at each half microsecond, and a format
makes its next write at each (log 25), but for one that waits under FENCE. -/
def Obligations.SeedingCompletes : Prop :=
  (∀ (op : KeepOp) (s : State), Settled s → s.sb.power.awake = true → s.sb.format = none → Memory.wf s.keep →
    s.sc.op = some op → OpOk s op → op.phase = .seeding → op.began ≤ s.now →
    op.done = min op.extent ((s.now - op.began) / 4) → s.now ≤ op.began + 4 * op.extent →
    let face := s.faceAddr op.slot + 32
    let shadow := s.shadowAddr op.slot + 32
    (∀ i < op.done, Memory.read s.keep (shadow + i) = Memory.read s.keep (face + i)) →
    ∃ t, exec .seedingCompletion s = .next t
      ∧ t = State.refresh { movedTo s (op.began + 4 * op.extent) with
          keep := t.keep, sc := { s.sc with op := none, highMark := op.extent } }
      ∧ t.sb.w = 0
      ∧ (∀ i < op.extent, Memory.read t.keep (shadow + i) = Memory.read s.keep (face + i))
      ∧ ∀ a, (a < shadow + op.done ∨ shadow + op.extent ≤ a) → Memory.read t.keep a = Memory.read s.keep a)
  ∧ ∀ s : State, s.pending = [] → Memory.wf s.keep →
    ∃ t, step s = .next t
      ∧ t.now = s.now + 1 ∧ t.lp = s.lp ∧ t.sp = s.sp ∧ t.se.voices = s.se.voices ∧ t.ru.layers = s.ru.layers
      ∧ t.pending = [] ∧ t.sc.openSlot = s.sc.openSlot ∧ t.sc.slots = s.sc.slots
      ∧ (Quiet s → t = State.refresh (movedTo s (s.now + 1)))
      ∧ (∀ op, s.sc.op = some op → s.sb.format = none → OpOk s op → op.began ≤ s.now →
        let tick := decide ((s.now + 1 - op.began) % 4 = 0 ∧ op.done < op.extent ∧ op.phase ≠ .settling)
        t.sc.op = some { op with done := if tick then op.done + 1 else op.done } ∧ t.face = s.face ∧ t.dr = s.dr
          ∧ t.cu = s.cu.count s.now 1
          ∧ ∀ a, Memory.read t.keep a =
            if tick = true ∧ op.phase = .seeding ∧ a = s.shadowAddr op.slot + 32 + op.done then
              Memory.read s.keep (s.faceAddr op.slot + 32 + op.done)
            else Memory.read s.keep a)
      ∧ ∀ f, s.sb.format = some f → s.sc.op = none →
        let tick := decide ((f.ran + 1) % 4 = 0 ∧ s.sb.supply ≠ .fence)
        t.sb.format = some (if s.sb.supply = .fence then f
            else { f with made := if tick then f.made + 1 else f.made, ran := f.ran + 1 })
          ∧ (tick = false → t.keep = s.keep ∧ t.face = s.face ∧ t.dr = s.dr ∧ t.cu = s.cu.count s.now 1)
          ∧ (tick = true → f.kind = .full → f.made < 16 →
            t.face = s.face ∧ t.dr = s.dr ∧ t.cu = s.cu.count s.now 1
              ∧ ∀ a, Memory.read t.keep a = if a = f.made then 0 else Memory.read s.keep a)

/-- R56: SLOT-WRITE makes its checks in order; an accepted one writes its bytes at its offset of the shadow data,
raises the high mark to their end and changes no other byte. The Link Port's idle values in the next state are the
model's choice (log 37). -/
def Obligations.SlotWriteWrites : Prop :=
  ∀ (h : ReqHead) (slot : Byte) (offset : Half) (count : Byte) (data : List Byte) (s : State), Listening s →
    Memory.wf s.keep →
    let n := slot.toNat
    let first := s.shadowAddr n + 32 + offset.toNat
    let mark := max s.sc.highMark (offset.toNat + count.toNat)
    let c : Instr := .slotWrite h slot offset count data
    if count = 0 ∨ 240 < count.toNat then exec c s = .next (answered s Kind.slotWrite h .range [])
    else if s.sc.layoutState = .noLayout then exec c s = .next (answered s Kind.slotWrite h .noLayout [])
    else if n = 0 ∨ s.slotCount < n then exec c s = .next (answered s Kind.slotWrite h .range [])
    else if s.sc.openSlot ≠ some n then exec c s = .next (answered s Kind.slotWrite h .state [])
    else if s.sc.op ≠ none then exec c s = .next (answered s Kind.slotWrite h .busy [])
    else if s.slotSize n < offset.toNat + count.toNat then exec c s = .next (answered s Kind.slotWrite h .range [])
    else if s.sb.supply = .fence then exec c s = .next (answered s Kind.slotWrite h .power [])
    else
      ∃ t, exec c s = .next t
        ∧ t = answered { s with keep := t.keep, sc := { s.sc with highMark := mark } } Kind.slotWrite h .ok
            (slot :: leBytes 2 mark)
        ∧ ∀ a, Memory.read t.keep a =
          if first ≤ a ∧ a < first + count.toNat then byteAt data (a - first) else Memory.read s.keep a

/-- R57, R58: SLOT-COMMIT makes its checks in order; an accepted one starts the verify of its length, with W at 10
mA. A commit of no bytes ends its verify in the same event: against FFFFh it settles, and against any other CRC it
fails with SAVE_FAILED and cause MISMATCH. The Link Port's idle values in the next state are the model's choice (log
37). -/
def Obligations.SlotCommitStartsTheVerify : Prop :=
  ∀ (h : ReqHead) (slot : Byte) (length crc : Half) (s : State), Listening s → Memory.wf s.keep →
    let n := slot.toNat
    let c : Instr := .slotCommit h slot length crc
    let op : KeepOp := {
      kind := .commit, phase := .verifying, slot := n, extent := length.toNat, done := 0, length := length.toNat
      expected := crc, began := s.now }
    if s.sc.layoutState = .noLayout then exec c s = .next (answered s Kind.slotCommit h .noLayout [])
    else if n = 0 ∨ s.slotCount < n then exec c s = .next (answered s Kind.slotCommit h .range [])
    else if s.sc.openSlot ≠ some n then exec c s = .next (answered s Kind.slotCommit h .state [])
    else if s.sc.op ≠ none then exec c s = .next (answered s Kind.slotCommit h .busy [])
    else if s.slotSize n < length.toNat then exec c s = .next (answered s Kind.slotCommit h .range [])
    else if s.sb.supply = .fence then exec c s = .next (answered s Kind.slotCommit h .power [])
    else if length ≠ 0 then
      exec c s = .next (State.refresh
        (answered { s with sc := { s.sc with op := some op } } Kind.slotCommit h .accepted [slot]))
    else if crc = 0xFFFF then
      ∃ t, exec c s = .next t
        ∧ t = State.refresh (answered { s with
            keep := t.keep, sc := { s.sc with op := some { op with phase := .settling } } }
            Kind.slotCommit h .accepted [slot])
        ∧ t.sb.settle = true ∧ t.sb.m = 0
        ∧ ∀ a, Memory.read t.keep a =
          if s.shadowAddr n ≤ a ∧ a < s.shadowAddr n + 32 then byteAt (s.commitHeader op).bytes (a - s.shadowAddr n)
          else Memory.read s.keep a
    else
      exec c s = .next (State.refresh (answered { s with au := { s.au with
        latch := s.au.latch ||| Member.saveFailed.set
        details := { s.au.details with
          saveFailed := (if Member.saveFailed.isIn s.au.latch then s.au.details.saveFailed else 0) ||| slotBit n
          saveCause := some .mismatch } } } Kind.slotCommit h .accepted [slot]))

/-- R58, R59, R67, R154, R167: the end of a verify compares the CRC-16 of the shadow data with the one named. On a
match the shadow header is written LIVE with the next generation, the length, the CRC, the day stamp and, on a VALID
clock, the clock stamp, and SETTLING begins with M at 0. On a mismatch no byte is written, the slot stays open, and
SAVE_FAILED is raised with cause MISMATCH. That raising, when it newly latches, returns a part in STANDBY to ACTIVE
with SAVE_FAILED marked woke, and in ACTIVE ends a held AWAIT that names it. -/
def Obligations.VerifyEnds : Prop :=
  (∀ (op : KeepOp) (s : State), Settled s → s.sb.power = .active → s.lp.await = none → s.sb.format = none →
    Memory.wf s.keep → s.sc.op = some op → OpOk s op → op.phase = .verifying →
    let shadow := s.shadowAddr op.slot
    let face := Memory.readAll s.keep (s.faceAddr op.slot) 32
    let g := (if headerValid face op.slot (s.slotSize op.slot) then (quad face 4).toNat else 0) + 1
    let header : HeaderFields := {
      slot := op.slot, live := true, generation := if g = 0xFFFFFFFF then 0 else g, length := op.length
      crc := op.expected, day := some s.dr.g, clock := if s.cu.valid then some s.cu.seconds else none }
    let moved := movedTo s (op.began + 4 * op.extent)
    if crc16 (Memory.readAll s.keep (shadow + 32) op.length) = op.expected then
      ∃ t, exec .verifyEnd s = .next t
        ∧ t = State.refresh { moved with
            keep := t.keep
            sc := { s.sc with op := some { op with phase := .settling, done := op.extent, began := moved.now } } }
        ∧ t.sb.settle = true ∧ t.sb.w = 0 ∧ t.sb.m = 0
        ∧ ∀ a, Memory.read t.keep a =
          if shadow ≤ a ∧ a < shadow + 32 then byteAt header.bytes (a - shadow) else Memory.read s.keep a
    else
      exec .verifyEnd s = .next (State.refresh { moved with
        sc := { s.sc with op := none }
        au := { s.au with
          latch := s.au.latch ||| Member.saveFailed.set
          details := { s.au.details with
            saveFailed := (if Member.saveFailed.isIn s.au.latch then s.au.details.saveFailed else 0) ||| slotBit op.slot
            saveCause := some .mismatch } } }))
  ∧ ∀ (op : KeepOp) (s : State), Settled s → s.sb.format = none → s.sc.op = some op → OpOk s op →
    op.phase = .verifying → crc16 (Memory.readAll s.keep (s.shadowAddr op.slot + 32) op.length) ≠ op.expected →
    Member.saveFailed.isIn s.au.latch = false →
    (s.sb.power = .standby → s.lp.await = none → WokenBy .saveFailed .verifyEnd s)
    ∧ ∀ a, s.sb.power = .active → s.lp.await = some a → Member.saveFailed.isIn a.members = true →
      AnsweredBy .saveFailed .verifyEnd a s

/-- R61, R67, R154, R167: the flip inverts the slot's face bit and no other, makes the slot LIVE for a commit and
EMPTY for an erase, takes it out of the SLOT_DAMAGED set, clears the write-open record for a commit, ends the
operation and raises SAVE_DONE. No byte of keep memory changes, in ACTIVE and in STANDBY. A SAVE_DONE that newly
latches returns a part in STANDBY to ACTIVE and is marked woke, and in ACTIVE ends a held AWAIT that names it. -/
def Obligations.FlipMakesTheSave : Prop :=
  ∀ (op : KeepOp) (s : State), Settled s → s.sb.power.awake = true → s.sb.format = none → s.sc.op = some op →
    1 ≤ op.slot → op.slot ≤ s.sc.slots.length → s.sc.slots.length ≤ 8 → op.phase = .settling →
    (∃ t, exec .flip s = .next t
      ∧ t.face = s.face ^^^ slotBit op.slot
      ∧ (∀ n < 8, t.face.getLsbD n = (s.face.getLsbD n != decide (n + 1 = op.slot)))
      ∧ (∀ n < 8, t.sc.slots.getD n .empty =
          if n + 1 = op.slot then (if op.kind = .erase then .empty else .live) else s.sc.slots.getD n .empty)
      ∧ t.sc.op = none ∧ t.sb.settle = false ∧ t.sc.layoutState = s.sc.layoutState
      ∧ (op.kind = .commit → t.sc.openSlot = none ∧ t.sc.highMark = 0)
      ∧ (op.kind = .erase → t.sc.openSlot = s.sc.openSlot ∧ t.sc.highMark = s.sc.highMark)
      ∧ t.au.details.slotDamaged.getLsbD (op.slot - 1) = false
      ∧ (s.lp.await = none → t.lp = s.lp ∧ Member.saveDone.isIn t.au.latch = true
        ∧ t.au.details.saveDone =
          (if Member.saveDone.isIn s.au.latch then s.au.details.saveDone else 0) ||| slotBit op.slot)
      ∧ t.now = s.now + (op.began + 32000 - s.now) ∧ t.keep = s.keep ∧ t.dr = s.dr ∧ SameVoices s t ∧ SameStore s t
      ∧ t.ru.layers = s.ru.layers ∧ t.ru.cues = s.ru.cues
      ∧ (s.sb.power = .active → SameRumble s t ∧ SameEngine s t ∧ SameSupply s t))
    ∧ (Member.saveDone.isIn s.au.latch = false →
      (s.sb.power = .standby → s.lp.await = none → WokenBy .saveDone .flip s)
      ∧ ∀ a, s.sb.power = .active → s.lp.await = some a → Member.saveDone.isIn a.members = true →
        AnsweredBy .saveDone .flip a s)

/-- R62, R63: SLOT-ERASE makes its checks in order; an accepted one writes an EMPTY header with the next generation
to the shadow half and begins SETTLING. SLOT-ABORT makes its checks in order; an accepted one cancels an operation
on the open slot, clears the write-open record, leaves an erase of another slot running and raises nothing. That the
erase's record holds 0 as extent, bytes done, length and CRC is the model's choice (log 5). The Link Port's idle
values in the next state are the model's choice (log 37). -/
def Obligations.SlotEraseAndAbort : Prop :=
  ∀ (h : ReqHead) (slot : Byte) (s : State), Listening s → Memory.wf s.keep →
    let n := slot.toNat
    let face := Memory.readAll s.keep (s.faceAddr n) 32
    let g := (if headerValid face n (s.slotSize n) then (quad face 4).toNat else 0) + 1
    let header : HeaderFields := {
      slot := n, live := false, generation := if g = 0xFFFFFFFF then 0 else g, length := 0, crc := 0xFFFF, day := none
      clock := none }
    let op : KeepOp := {
      kind := .erase, phase := .settling, slot := n, extent := 0, done := 0, length := 0, expected := 0
      began := s.now }
    (if s.sc.layoutState = .noLayout then
        exec (.slotErase h slot) s = .next (answered s Kind.slotErase h .noLayout [])
      else if n = 0 ∨ s.slotCount < n then exec (.slotErase h slot) s = .next (answered s Kind.slotErase h .range [])
      else if s.sc.op ≠ none ∨ s.sc.openSlot = some n then
        exec (.slotErase h slot) s = .next (answered s Kind.slotErase h .busy [])
      else if s.sb.supply = .fence then exec (.slotErase h slot) s = .next (answered s Kind.slotErase h .power [])
      else
        ∃ t, exec (.slotErase h slot) s = .next t
          ∧ t = State.refresh (answered { s with keep := t.keep, sc := { s.sc with op := some op } }
              Kind.slotErase h .accepted [slot])
          ∧ t.sb.settle = true ∧ t.sb.w = 0 ∧ t.sb.m = 0
          ∧ ∀ a, Memory.read t.keep a =
            if s.shadowAddr n ≤ a ∧ a < s.shadowAddr n + 32 then byteAt header.bytes (a - s.shadowAddr n)
            else Memory.read s.keep a)
    ∧ exec (.slotAbort h slot) s = .next (
      if s.sc.layoutState = .noLayout then answered s Kind.slotAbort h .noLayout []
      else if n = 0 ∨ s.slotCount < n then answered s Kind.slotAbort h .range []
      else if s.sc.openSlot ≠ some n then answered s Kind.slotAbort h .state []
      else State.refresh (answered { s with sc := { s.sc with
          openSlot := none, highMark := 0, op := s.sc.op.filter fun o => decide (o.slot ≠ n) } }
        Kind.slotAbort h .ok []))

/-- R50, R68, R69: SLOT-READ refuses a count out of range, NO_LAYOUT and a slot that is none, and else answers
EMPTY, STALE, END, DAMAGED or OK, by the first that applies, from the face half, with the generation, the read
extent and, for DAMAGED and OK, the bytes asked for within it. The Link Port's idle values in the next state are the
model's choice (log 37). -/
def Obligations.SlotReadReadsTheFace : Prop :=
  ∀ (h : ReqHead) (slot : Byte) (offset : Half) (count : Byte) (expected : Quad) (s : State), Listening s →
    let n := slot.toNat
    let face := Memory.readAll s.keep (s.faceAddr n) 32
    let st := s.sc.slots.getD (n - 1) .empty
    let length := if st = .empty then 0 else min (half face 8).toNat (s.slotSize n)
    let fields := slot :: leBytes 4 (quad face 4).toNat ++ leBytes 2 length
    let data := Memory.readAll s.keep (s.faceAddr n + 32 + offset.toNat) (min count.toNat (length - offset.toNat))
    exec (.slotRead h slot offset count expected) s = .next (
      if count = 0 ∨ 240 < count.toNat then answered s Kind.slotRead h .range []
      else if s.sc.layoutState = .noLayout then answered s Kind.slotRead h .noLayout []
      else if n = 0 ∨ s.slotCount < n then answered s Kind.slotRead h .range []
      else if st = .empty then answered s Kind.slotRead h .empty fields
      else if expected ≠ 0xFFFFFFFF ∧ expected ≠ quad face 4 then answered s Kind.slotRead h .stale fields
      else if length ≤ offset.toNat then answered s Kind.slotRead h .fin fields
      else answered s Kind.slotRead h (if st = .damaged then .damaged else .ok) (fields ++ data))

/-! ### The Clock Unit -/

/-- R74, R75, R76, R77, R78, R88: the end of a second on a VALID clock raises S by 1 up to its maximum, moves the trim
phase on, and begins the next second: the trim second, at phase 0, shortened or lengthened by the trim. On an INVALID
clock no second ends, and so on a clock that a full format makes INVALID before the second falls due. A crystal stop
makes a VALID clock INVALID with its divider 0 and S and the phase kept; an edge that returns changes the crystal
status alone. That the rows are no event on a clock that is INVALID then, at a crystal already stopped and at one
already running, and so leave the state as it is, is log 6, and the moment a second falls due, at the nominal crystal
rate, log 11: both the model's choices. -/
def Obligations.ClockEvents : Prop :=
  (∀ (mv : Nat) (s : State), (s.elapseTo s.secondDue).cu.valid = false → exec (.secondEnd mv) s = .next s)
  ∧ ∀ (mv : Nat) (s : State), s.sb.format = none →
    (s.cu.valid = true →
      ∃ t, exec (.secondEnd mv) s = .next t
        ∧ t.cu = { s.cu with
            seconds := if s.cu.seconds < 3155759999 then s.cu.seconds + 1 else 3155759999
            phase := (s.cu.phase + 1) % 64
            divider := if (s.cu.phase + 1) % 64 = 0 then s.cu.trim.toNat else 0
            hold := if (s.cu.phase + 1) % 64 = 0 then (-s.cu.trim).toNat else 0 }
        ∧ t.face = s.face ∧ t.dr.rewind = s.dr.rewind)
    ∧ (s.cu.valid = false → exec (.secondEnd mv) s = .next s)
    ∧ (s.cu.running = true →
      ∃ t, exec .crystalStopFound s = .next t ∧ t.keep = s.keep ∧ t.face = s.face ∧ t.dr = s.dr
        ∧ t.cu = (if s.cu.valid then { s.cu with running := false, valid := false, divider := 0, hold := 0 }
            else { s.cu with running := false }))
    ∧ (s.cu.running = false → exec .crystalStopFound s = .next s)
    ∧ (s.cu.running = false → Settled s →
      exec .crystalEdgeReturn s = .next { s with cu := { s.cu with running := true } })
    ∧ (s.cu.running = true → exec .crystalEdgeReturn s = .next s)

/-- R81 to R84, R92 to R96: CLOCK-SET makes its checks in order. An accepted one sets S and makes the clock VALID,
begins a whole second, adds a decrease of S to the rewind total, and hands a reckoning: from VALID credited under
the set-credit limit K, from INVALID a RESTART that credits nothing, and under FENCE deferred and merged. Days
credited raise DAY_TURN, and the reckoning's firing pass fires the entries whose day or target it has reached, with
their actions. The Link Port's idle values in the next state are the model's choice (log 37). -/
def Obligations.ClockSetSetsAndReckons : Prop :=
  ∀ (h : ReqHead) (year : Half) (month day hour minute second : Byte) (s : State), Listening s →
    let c : Instr := .clockSet h year month day hour minute second
    let new := secondsOf year.toNat month.toNat day.toNat hour.toNat minute.toNat second.toNat
    let raw := (new + 86400 - (s.sp.profile.hour * 3600 + s.sp.profile.minute * 60)) / 86400
    let advance := raw - s.dr.l
    let credited := min advance s.sp.profile.setCredit
    if year.toNat < 2000 ∨ 2099 < year.toNat ∨ month = 0 ∨ 12 < month.toNat ∨ day = 0
        ∨ monthDays (leapYear year.toNat) month.toNat < day.toNat
        ∨ 23 < hour.toNat ∨ 59 < minute.toNat ∨ 59 < second.toNat then
      exec c s = .next (answered s Kind.clockSet h .range [])
    else if s.cu.running = false then exec c s = .next (answered s Kind.clockSet h .state [])
    else
      ∃ t, exec c s = .next t
        ∧ t.cu = { s.cu with
            seconds := new, valid := true
            divider := if s.cu.phase = 0 then s.cu.trim.toNat else 0
            hold := if s.cu.phase = 0 then (-s.cu.trim).toNat else 0 }
        ∧ t.dr.rewind = (if new < s.cu.seconds then min 4294967295 (s.dr.rewind + (s.cu.seconds - new)) else s.dr.rewind)
        ∧ (new < s.cu.seconds → Member.clockRewound.isIn t.au.latch = true)
        ∧ Member.clockInvalid.isIn t.au.level = false
        ∧ t.lp = (answered s Kind.clockSet h .ok (leBytes 4 new ++ leBytes 1 ((new / 86400 + 6) % 7)
            ++ leBytes 4 (s.cu.seconds - new) ++ [if s.cu.valid then 0 else 1])).lp
        ∧ t.keep = s.keep ∧ t.face = s.face ∧ t.sc = s.sc ∧ SameVoices s t
        ∧ (if s.sb.supply = .fence then
            t.dr.g = s.dr.g ∧ t.dr.l = s.dr.l ∧ t.dr.forfeited = s.dr.forfeited ∧ t.dr.table = s.dr.table
              ∧ t.dr.fired = s.dr.fired ∧ t.ru.layers = s.ru.layers
              ∧ ∃ d, t.dr.deferred = some d
                ∧ d.causes = (let c := match s.dr.deferred with | some e => e.causes | none => {}
                    if s.cu.valid then { c with clockSet := true } else { c with restart := true })
                ∧ d.limit = max (match s.dr.deferred with | some e => e.limit | none => 0)
                    (if s.cu.valid then s.sp.profile.setCredit else 0)
          else
            t.dr.deferred = s.dr.deferred ∧ t.dr.l = max s.dr.l raw
              ∧ t.dr.g = (if s.cu.valid = true ∧ s.dr.l < raw then min (s.dr.g + credited) 65535 else s.dr.g)
              ∧ t.dr.forfeited = (if s.cu.valid = true ∧ s.dr.l < raw then
                  min (s.dr.forfeited + advance - credited) 65535 else s.dr.forfeited)
              ∧ t.sb.cell = s.sb.cell ∧ (s.cu.valid = true → 0 < credited → TurnsDays credited s t)
              ∧ (DaysOk s → FiringPass s.dr.g t.dr.g new s t ∧ PassActions s.dr.g t.dr.g new s t))

/-- R83, R84, R85, R93 to R96: CLOCK-NUDGE makes its checks in order; an accepted one moves S by its amount within
the clock range, keeps the fraction of the second, records a decrease and hands a CLOCK_SET reckoning, credited
under K, with its firing pass and actions, and under FENCE deferred and merged. CLOCK-TRIM is always accepted and
stores its value clamped to -64..63. The Link Port's idle values in the next state are the model's choice (log 37). -/
def Obligations.ClockNudgeAndTrim : Prop :=
  ∀ (h : ReqHead) (value : Half) (s : State), Listening s →
    let n := value.toInt
    let new := (max 0 (min 3155759999 ((s.cu.seconds : Int) + n))).toNat
    let raw := (new + 86400 - (s.sp.profile.hour * 3600 + s.sp.profile.minute * 60)) / 86400
    let advance := raw - s.dr.l
    let credited := min advance s.sp.profile.setCredit
    (if n < -3600 ∨ 3600 < n then
        exec (.clockNudge h value) s = .next (answered s Kind.clockNudge h .range [])
      else if s.cu.valid = false then
        exec (.clockNudge h value) s = .next (answered s Kind.clockNudge h .clockInvalid [])
      else
        ∃ t, exec (.clockNudge h value) s = .next t
          ∧ t.cu = { s.cu with seconds := new }
          ∧ t.dr.rewind
              = (if new < s.cu.seconds then min 4294967295 (s.dr.rewind + (s.cu.seconds - new)) else s.dr.rewind)
          ∧ (new < s.cu.seconds → Member.clockRewound.isIn t.au.latch = true)
          ∧ t.lp = (answered s Kind.clockNudge h .ok (leBytes 4 new ++ signedBytes 2 ((new : Int) - s.cu.seconds)
              ++ leBytes 2 (s.cu.seconds - new))).lp
          ∧ t.keep = s.keep ∧ t.face = s.face ∧ t.sc = s.sc ∧ SameVoices s t
          ∧ (s.sb.supply ≠ .fence →
            t.dr.l = max s.dr.l raw
              ∧ t.dr.g = (if s.dr.l < raw then min (s.dr.g + credited) 65535 else s.dr.g)
              ∧ t.dr.forfeited
                  = (if s.dr.l < raw then min (s.dr.forfeited + advance - credited) 65535 else s.dr.forfeited)
              ∧ t.dr.deferred = s.dr.deferred ∧ t.sb.cell = s.sb.cell ∧ (0 < credited → TurnsDays credited s t)
              ∧ (DaysOk s → FiringPass s.dr.g t.dr.g new s t ∧ PassActions s.dr.g t.dr.g new s t))
          ∧ (s.sb.supply = .fence →
            t.dr.g = s.dr.g ∧ t.dr.l = s.dr.l ∧ t.dr.forfeited = s.dr.forfeited ∧ t.dr.table = s.dr.table
              ∧ t.dr.fired = s.dr.fired ∧ t.ru.layers = s.ru.layers ∧ t.sb.cell = s.sb.cell
              ∧ t.dr.deferred = some {
                  causes := match s.dr.deferred with
                    | some d => { d.causes with clockSet := true }
                    | none => { clockSet := true }
                  limit := max (match s.dr.deferred with | some d => d.limit | none => 0) s.sp.profile.setCredit }))
    ∧ exec (.clockTrim h value) s = .next (answered { s with cu := { s.cu with trim := max (-64) (min 63 n) } }
        Kind.clockTrim h .ok (signedBytes 2 (max (-64) (min 63 n)) ++ leBytes 1 s.cu.phase))

/-- R79, R74, R81: every seconds count of the clock range has the civil form of R79, from the day count, the second
of the day and the four-year cycle; the conversion back and the days in a month are the rule's; and the form is one
CLOCK-SET accepts and gives the same count back. -/
def Obligations.CivilFormGoesBack : Prop :=
  let first := fun (leap : Bool) (month : Nat) =>
    (if leap then ([0, 31, 60, 91, 121, 152, 182, 213, 244, 274, 305, 335] : List Nat)
      else [0, 31, 59, 90, 120, 151, 181, 212, 243, 273, 304, 334]).getD (month - 1) 0
  (∀ n : Nat, n ≤ 3155759999 →
    let c := civilOf n
    let days := n / 86400
    let secs := n % 86400
    let q := days % 1461
    let base := 2000 + 4 * (days / 1461)
    let leap := decide (q < 366)
    c.hour = secs / 3600 ∧ c.minute = secs % 3600 / 60 ∧ c.second = secs % 60
      ∧ c.year = (if leap then base else base + 1 + (q - 366) / 365)
      ∧ c.dayOfYear = (if leap then q else (q - 366) % 365)
      ∧ first leap c.month ≤ c.dayOfYear ∧ (∀ m, c.month < m → m ≤ 12 → c.dayOfYear < first leap m)
      ∧ c.day = c.dayOfYear - first leap c.month + 1 ∧ c.weekday = (days + 6) % 7
      ∧ 2000 ≤ c.year ∧ c.year ≤ 2099 ∧ 1 ≤ c.month ∧ c.month ≤ 12 ∧ 1 ≤ c.day
      ∧ c.day ≤ monthDays (leapYear c.year) c.month ∧ c.hour ≤ 23 ∧ c.minute ≤ 59 ∧ c.second ≤ 59
      ∧ secondsOf c.year c.month c.day c.hour c.minute c.second = n)
  ∧ (∀ year month day hour minute second : Nat, 2000 ≤ year → 1 ≤ month → month ≤ 12 → 1 ≤ day →
    let k := (year - 2000) % 4
    let years := 1461 * ((year - 2000) / 4) + (if k = 0 then 0 else 366 + 365 * (k - 1))
    secondsOf year month day hour minute second
      = (years + first (decide (k = 0)) month + day - 1) * 86400 + hour * 3600 + minute * 60 + second)
  ∧ ∀ (year month : Nat), 2000 ≤ year → 1 ≤ month → month ≤ 12 →
    monthDays (leapYear year) month = (if month = 2 then (if (year - 2000) % 4 = 0 then 29 else 28)
      else if month = 4 ∨ month = 6 ∨ month = 9 ∨ month = 11 then 30 else 31)

/-! ### The Day Reckoner -/

/-- R91 to R96, R145: the second that finds the raw day above L reckons it: the advance is credited up to the catch-up
limit C, the rest is forfeited, L becomes the raw day, DAY_TURN gains the days credited and the cell is measured. A
second that finds no new day reckons nothing. Under FENCE the reckoning is deferred and merged. -/
def Obligations.RolloverReckons : Prop :=
  ∀ (mv : Nat) (s : State), Quiet s → s.cu.valid = true → s.cu.seconds < 3155759999 → s.sb.power.awake = true →
    let raw := (s.cu.seconds + 1 + 86400 - (s.sp.profile.hour * 3600 + s.sp.profile.minute * 60)) / 86400
    let advance := raw - s.dr.l
    let credited := min advance s.sp.profile.catchUp
    ∃ t, exec (.secondEnd mv) s = .next t
      ∧ t.dr.rewind = s.dr.rewind ∧ t.keep = s.keep ∧ t.face = s.face ∧ t.sc = s.sc
      ∧ (s.sb.supply = .fence ∨ raw ≤ s.dr.l →
        t.dr.g = s.dr.g ∧ t.dr.l = s.dr.l ∧ t.dr.forfeited = s.dr.forfeited ∧ t.sb.cell = s.sb.cell)
      ∧ (s.sb.supply = .fence → s.dr.l < raw →
        t.dr.table = s.dr.table ∧ t.dr.fired = s.dr.fired
          ∧ t.dr.deferred = some {
              causes := match s.dr.deferred with
                | some d => { d.causes with rollover := true }
                | none => { rollover := true }
              limit := max (match s.dr.deferred with | some d => d.limit | none => 0) s.sp.profile.catchUp })
      ∧ (s.sb.supply ≠ .fence → s.dr.l < raw →
        t.dr.l = raw ∧ t.dr.g = min (s.dr.g + credited) 65535
          ∧ t.dr.forfeited = min (s.dr.forfeited + advance - credited) 65535 ∧ t.dr.deferred = s.dr.deferred
          ∧ t.sb.cell = (if s.sb.cell = .good then (if mv < 2600 then .low else .good)
              else if 2700 ≤ mv then .good else .low)
          ∧ (0 < credited → s.lp.await = none → Member.dayTurn.isIn t.au.latch = true
            ∧ t.au.details.dayTurn
              = min 65535 ((if Member.dayTurn.isIn s.au.latch then s.au.details.dayTurn else 0) + credited)))

/-- R103 to R106: what the one entry of a day table does at a second that is not fenced. An ON_DAY entry fires in a
reckoning that reaches its day and an EVERY entry in one that reaches a day of its phase, with the days since as late
value; an ON_CLOCK entry fires when S reaches its target. With room the record is appended, and a one-time entry leaves
the table; with a full list the entry becomes DUE and the list stays. An entry that does not fire stays as it is. In a
table of several entries those that fire append their records in ascending id while there is room and the later ones
become DUE; an EVERY entry that is DUE already gathers its occurrences and latest day (R103). In ACTIVE the one firing
with late value 0 that has an action hands it over as the layer start that a RUMBLE-PLAY of its fields would make, and
its record's action-run flag shows whether that was taken (R107, R135); elsewhere, and late, no action runs. -/
def Obligations.DayEntriesFire : Prop :=
  (∀ (e : Entry) (mv : Nat) (s : State), Quiet s → s.cu.valid = true → s.cu.seconds < 3155759999 →
    s.sb.power.awake = true → s.sb.supply ≠ .fence → s.dr.table = [e] → e.due = false → e.action = none →
    s.dr.fired.length ≤ 16 →
    let now := s.cu.seconds + 1
    let raw := (now + 86400 - (s.sp.profile.hour * 3600 + s.sp.profile.minute * 60)) / 86400
    let g := if s.dr.l < raw then min (s.dr.g + min (raw - s.dr.l) s.sp.profile.catchUp) 65535 else s.dr.g
    ∃ t, exec (.secondEnd mv) s = .next t ∧
      match e.kind with
      | .onDay d =>
        if s.dr.g < d ∧ d ≤ g then
          if s.dr.fired.length < 16 then
            t.dr.table = [] ∧ t.dr.fired = s.dr.fired ++ [{
              id := e.id, tag := e.tag, kind := .onDay, g := g, occurrences := 1, late := g - d, ran := false }]
          else t.dr.table = [{ e with due := true, accumulated := 1 }] ∧ t.dr.fired = s.dr.fired
        else t.dr.table = [e] ∧ t.dr.fired = s.dr.fired
      | .onClock c =>
        if c ≤ now then
          if s.dr.fired.length < 16 then
            t.dr.table = [] ∧ t.dr.fired = s.dr.fired ++ [{
              id := e.id, tag := e.tag, kind := .onClock, g := g, occurrences := 1
              late := min 65535 ((now - c) / 86400), ran := false }]
          else t.dr.table = [{ e with due := true, accumulated := 1 }] ∧ t.dr.fired = s.dr.fired
        else t.dr.table = [e] ∧ t.dr.fired = s.dr.fired
      | .every p f =>
        let days := (List.range (g + 1)).filter fun d => decide (s.dr.g < d) && (d % p == f)
        let latest := days.getLastD 0
        1 ≤ p → f < p → g ≤ 65535 →
        if days = [] then t.dr.table = [e] ∧ t.dr.fired = s.dr.fired
        else if s.dr.fired.length < 16 then
          t.dr.table = [e] ∧ t.dr.fired = s.dr.fired ++ [{
            id := e.id, tag := e.tag, kind := .every, g := g, occurrences := days.length, late := g - latest
            ran := false }]
        else t.dr.table = [{ e with due := true, accumulated := days.length, latest := latest }]
          ∧ t.dr.fired = s.dr.fired)
  ∧ ∀ (mv : Nat) (s : State), Quiet s → s.cu.valid = true → s.cu.seconds < 3155759999 → s.sb.power.awake = true →
    s.sb.supply ≠ .fence → s.lp.pendingReset = false → DaysOk s →
    let now := s.cu.seconds + 1
    let raw := (now + 86400 - (s.sp.profile.hour * 3600 + s.sp.profile.minute * 60)) / 86400
    let g := if s.dr.l < raw then min (s.dr.g + min (raw - s.dr.l) s.sp.profile.catchUp) 65535 else s.dr.g
    ∃ t, exec (.secondEnd mv) s = .next t ∧ FiringPass s.dr.g g now s t ∧ PassActions s.dr.g g now s t

/-- R98 to R101: ENTRY-ADD and ENTRY-DROP make their checks in order. An accepted ENTRY-ADD leaves the table
ascending with the new PENDING entry and every entry of another id; an accepted ENTRY-DROP leaves every entry of
another id. The first day of ENTRY-ADD's reply takes three bytes (log 14). The Link Port's idle values in the next
state are the model's choice (log 37). -/
def Obligations.DayTableEdits : Prop :=
  ∀ (h : ReqHead) (f : EntryFields) (id : Byte) (s : State), Listening s → DaysOk s →
    let lo := (f.target.extractLsb' 0 16).toNat
    let hi := (f.target.extractLsb' 16 16).toNat
    let kind : EntryKind := if f.kind = 0 then .onDay lo else if f.kind = 1 then .every lo hi else .onClock f.target.toNat
    let entry : Entry := {
      id := f.id.toNat, kind := kind, tag := f.tag.toNat, due := false, accumulated := 0, latest := 0
      action := if f.actionPresent = 1 then
          some ⟨f.pattern.toNat, f.layer.toNat, f.priority.toNat, f.scale.toNat⟩
        else none }
    let firstDay := if f.kind = 0 then lo
      else if f.kind = 1 then s.dr.g + 1 + (((hi : Int) - (s.dr.g + 1)) % lo).toNat else 0
    (if 254 < f.id.toNat ∨ 2 < f.kind.toNat ∨ (f.kind = 1 ∧ (lo = 0 ∨ 365 < lo ∨ lo ≤ hi))
        ∨ (f.actionPresent ≠ 0 ∧ f.actionPresent ≠ 1)
        ∨ (f.actionPresent = 1 ∧ (71 < f.pattern.toNat ∨ 2 < f.layer.toNat ∨ 15 < f.priority.toNat)) then
        exec (.entryAdd h f) s = .next (answered s Kind.entryAdd h .range [])
      else if f.kind = 2 ∧ s.cu.valid = false then
        exec (.entryAdd h f) s = .next (answered s Kind.entryAdd h .clockInvalid [])
      else if (f.kind = 0 ∧ lo ≤ s.dr.g)
          ∨ (f.kind = 2 ∧ (f.target.toNat ≤ s.cu.seconds ∨ 3155759999 < f.target.toNat)) then
        exec (.entryAdd h f) s = .next (answered s Kind.entryAdd h .range [])
      else if s.dr.table.length = 32 ∧ ∀ e ∈ s.dr.table, e.id ≠ f.id.toNat then
        exec (.entryAdd h f) s = .next (answered s Kind.entryAdd h .full [])
      else if s.sb.supply = .fence then exec (.entryAdd h f) s = .next (answered s Kind.entryAdd h .power [])
      else
        ∃ t, exec (.entryAdd h f) s = .next t
          ∧ t = answered { s with dr := { s.dr with table := t.dr.table } } Kind.entryAdd h .ok
              ([f.id, if s.dr.table.any fun e => e.id == f.id.toNat then 1 else 0]
                ++ leBytes 1 t.dr.table.length ++ leBytes 3 firstDay)
          ∧ t.dr.table.Pairwise (fun a b => a.id < b.id) ∧ entry ∈ t.dr.table
          ∧ (∀ e ∈ t.dr.table, e = entry ∨ e ∈ s.dr.table) ∧ ∀ e ∈ s.dr.table, e.id ≠ f.id.toNat → e ∈ t.dr.table)
    ∧ exec (.entryDrop h id) s = .next (
      if 254 < id.toNat then answered s Kind.entryDrop h .range []
      else
        match s.dr.table.filter fun e => e.id == id.toNat with
        | [] => answered s Kind.entryDrop h .notFound []
        | e :: _ =>
          if s.sb.supply = .fence then answered s Kind.entryDrop h .power []
          else
            let table := s.dr.table.filter fun x => x.id != id.toNat
            answered { s with dr := { s.dr with table := table } } Kind.entryDrop h .ok
              ([id, e.kind.byte, if e.due then 1 else 0] ++ leBytes 1 table.length))

/-- R105, R108, R109: FIRED-TAKE refuses a count of 0 or above 16 and, under FENCE, every count. An accepted one
takes the oldest records, keeps the others in order at the front, and fills the list from the DUE entries in
ascending id, as many as there is room for: each record has its entry's id, tag and kind, G, the accumulated
occurrences and the late value of R109. An EVERY entry listed returns to PENDING with nothing accumulated, and the
others listed leave the table. The Link Port's idle values in the next state are the model's choice (log 37). -/
def Obligations.FiredTakeRefills : Prop :=
  ∀ (h : ReqHead) (count : Byte) (s : State), Listening s → DaysOk s →
    let left := s.dr.fired.drop count.toNat
    let due := (s.dr.table.filter (·.due)).length
    let listed := min due (16 - left.length)
    let chosen := (s.dr.table.filter (·.due)).take (16 - left.length)
    let late := fun (e : Entry) => match e.kind with
      | .onDay d => min 65535 (s.dr.g - d)
      | .every _ _ => min 65535 (s.dr.g - e.latest)
      | .onClock c => min 65535 ((s.cu.seconds - c) / 86400)
    let kind : Entry → FiredKind := fun e => match e.kind with
      | .onDay _ => .onDay
      | .every _ _ => .every
      | .onClock _ => .onClock
    let kept : Entry → Option Entry := fun e =>
      if chosen.any (fun x => x.id == e.id) then
        match e.kind with
        | .every _ _ => some { e with due := false, accumulated := 0, latest := 0 }
        | _ => none
      else some e
    if count = 0 ∨ 16 < count.toNat then exec (.firedTake h count) s = .next (answered s Kind.firedTake h .range [])
    else if s.sb.supply = .fence then exec (.firedTake h count) s = .next (answered s Kind.firedTake h .power [])
    else
      ∃ t, exec (.firedTake h count) s = .next t
        ∧ t.dr.fired = left ++ (chosen.map fun e => {
            id := e.id, tag := e.tag, kind := kind e, g := s.dr.g, occurrences := e.accumulated, late := late e
            ran := false })
        ∧ t.dr.table = s.dr.table.filterMap kept
        ∧ t.dr.fired.take left.length = left ∧ t.dr.fired.length = left.length + listed
        ∧ (t.dr.table.filter (·.due)).length = due - listed
        ∧ (due = 0 → t.dr.table = s.dr.table)
        ∧ (∀ e ∈ s.dr.table, e.due = false → e ∈ t.dr.table)
        ∧ (∀ r ∈ t.dr.fired.drop left.length, r.g = s.dr.g ∧ r.ran = false
          ∧ ∃ e ∈ s.dr.table, e.due = true ∧ r.id = e.id ∧ r.tag = e.tag ∧ r.occurrences = e.accumulated)
        ∧ t.dr.g = s.dr.g ∧ t.dr.l = s.dr.l ∧ t.dr.forfeited = s.dr.forfeited ∧ t.dr.rewind = s.dr.rewind
        ∧ t.cu = s.cu ∧ t.keep = s.keep ∧ t.face = s.face ∧ t.ru = s.ru ∧ t.se = s.se ∧ t.sp = s.sp ∧ t.sc = s.sc
        ∧ t.lp = (answered s Kind.firedTake h .ok
            (counted (s.dr.fired.take count.toNat) Fired.bytes ++ leBytes 1 t.dr.fired.length
              ++ leBytes 1 (due - listed))).lp

/-! ### The Rumble Unit -/

/-- R114, R115, R116: PATTERN-DEFINE makes its checks in order; an accepted one stores the record carried in the
slot, or empties the slot for a step count of 0. The Link Port's idle values in the next state are the model's
choice (log 37). -/
def Obligations.PatternDefineStores : Prop :=
  ∀ (h : ReqHead) (f : PatternFields) (s : State), Listening s → f.steps.length = f.stepCount.toNat →
    let id := f.slot.toNat
    let p : Pattern := {
      repeats := f.repeats.toNat, returnStep := f.returnStep.toNat, revision := f.revision.toNat
      steps := f.steps.map fun x => ⟨x.target.toNat, x.duration.toNat, x.flags.getLsbD 0⟩ }
    exec (.patternDefine h f) s = .next (
      if id < 64 ∨ 71 < id then answered s Kind.patternDefine h .range []
      else if 32 < f.stepCount.toNat then answered s Kind.patternDefine h .range []
      else if ∃ x ∈ f.steps, x.duration = 0 then answered s Kind.patternDefine h .range []
      else if ∃ l ∈ s.ru.layers, l.state = .running ∧ l.id = id then answered s Kind.patternDefine h .busy []
      else answered { s with ru := { s.ru with
          host := s.ru.host.set (id - 64) (if f.stepCount = 0 then none else some p) } }
        Kind.patternDefine h .ok [f.slot, f.stepCount])

/-- R117, R118, R122, R123: RUMBLE-PLAY makes its checks in order. An accepted one starts its layer: RUNNING from
step 0 on a record at hand, which moves to the front of the cache, or LOADING with the id on the load list, a load
beginning at once if none is under way and its directory entry stands. An entry that fails its checks ends that load
at once: the layer is IDLE again, PATTERN_MISSING names the id, and the reply still says LOADING, the state the
start gave it (log 16). The passes left of a layer that waits are 0 (log 33). The other layers, the cues and the
host slots stay. The Link Port's idle values in the next state are the model's choice (log 37). -/
def Obligations.RumblePlayStartsALayer : Prop :=
  ∀ (h : ReqHead) (layer pattern priority scale : Byte) (s : State), Listening s → s.ru.layers.length = 3 →
    let n := layer.toNat
    let id := pattern.toNat
    let c : Instr := .rumblePlay h layer pattern priority scale
    let hosted := s.ru.host.getD (id - 64) none
    let cached := s.ru.cache.filter fun x => x.id == id
    let replaced : Byte := if (s.layer n).state = .idle then 0 else 1
    let started : Layer := { s.layer n with
      id := id, priority := priority.toNat, scale := scale.toNat, step := 0, tick := 0, start := 0, value := 0
      output := 0 }
    if 2 < n ∨ 71 < id ∨ 15 < priority.toNat then exec c s = .next (answered s Kind.rumblePlay h .range [])
    else if 64 ≤ id ∧ hosted = none then exec c s = .next (answered s Kind.rumblePlay h .notFound [])
    else if (s.layer n).state ≠ .idle ∧ priority.toNat < (s.layer n).priority then
      exec c s = .next (answered s Kind.rumblePlay h .busy [])
    else
      ∃ t, exec c s = .next t
        ∧ t.ru.cues = s.ru.cues ∧ t.ru.host = s.ru.host ∧ t.sc = s.sc ∧ SameVoices s t ∧ SameKeep s t
        ∧ (∀ p : Pattern, (if 64 ≤ id then hosted = some p else ∃ x ∈ cached.head?, x.pattern = p) →
          t.layer n = { started with
              state := .running, pattern := p, passes := if p.repeats = 255 then .endless else .left p.repeats }
            ∧ (∀ m < 3, m ≠ n → t.layer m = s.layer m)
            ∧ (id < 64 → t.ru.cache.map (·.id) = id :: (s.ru.cache.filter fun x => x.id != id).map (·.id))
            ∧ (64 ≤ id → t.ru.cache = s.ru.cache)
            ∧ t.lp = (answered s Kind.rumblePlay h .ok [layer, 1, replaced]).lp)
        ∧ (id < 64 → cached = [] →
          t.ru.cache = s.ru.cache ∧ t.lp = (answered s Kind.rumblePlay h .ok [layer, 0, replaced]).lp
            ∧ (s.sp.load.isSome = true →
              t.layer n = { started with state := .loading, passes := .left 0 }
                ∧ (∀ m < 3, m ≠ n → t.layer m = s.layer m) ∧ id ∈ t.sp.loadList ∧ t.sp.load = s.sp.load)
            ∧ (s.sp.load = none → s.sp.loadList = [] →
              let e := s.sp.directory.getD id {}
              id < s.sp.profile.patternCount → 1 ≤ e.steps → e.steps ≤ 32 →
              e.address + 4 + 3 * e.steps ≤ s.sp.profile.storeUnits * 65536 →
              t.layer n = { started with state := .loading, passes := .left 0 }
                ∧ (∀ m < 3, m ≠ n → t.layer m = s.layer m) ∧ t.sp.loadList = [id]
                ∧ t.sp.load = some { address := e.address, size := 4 + 3 * e.steps, buffer := [] })
            ∧ (s.sp.load = none → s.sp.loadList = [] →
              let e := s.sp.directory.getD id {}
              s.sp.profile.patternCount ≤ id ∨ e.steps = 0 ∨ 32 < e.steps
                ∨ s.sp.profile.storeUnits * 65536 < e.address + 4 + 3 * e.steps →
              t.layer n = { started with state := .idle, passes := .left 0 }
                ∧ (∀ m < 3, m ≠ n → (s.layer m).state ≠ .loading → t.layer m = s.layer m)
                ∧ t.sp.loadList = [] ∧ t.sp.load = none ∧ Member.patternMissing.isIn t.au.latch = true
                ∧ t.au.details.patternMissing = some id))

/-- R39, R124, R128: RUMBLE-STOP refuses a layer number that is none. An accepted one makes each busy layer it names
IDLE, keeping pattern id, priority and scale, raises nothing, and takes off the load list each queued id that no
LOADING layer waits on any more. The Link Port's idle values in the next state are the model's choice (log 37). -/
def Obligations.RumbleStopStops : Prop :=
  ∀ (h : ReqHead) (layer : Byte) (s : State), Listening s → s.ru.layers.length = 3 →
    let named := fun (n : Nat) => layer = 0xFF ∨ layer.toNat = n
    if 2 < layer.toNat ∧ layer ≠ 0xFF then
      exec (.rumbleStop h layer) s = .next (answered s Kind.rumbleStop h .range [])
    else
      ∃ t, exec (.rumbleStop h layer) s = .next t
        ∧ (∀ n < 3, t.layer n =
          if named n ∧ (s.layer n).state ≠ .idle then { s.layer n with state := .idle, value := 0, output := 0 }
          else s.layer n)
        ∧ (∀ id, id ∈ t.sp.loadList ↔ id ∈ s.sp.loadList
          ∧ ((s.sp.load.isSome = true ∧ s.sp.loadList.head? = some id) ∨ waited t id = true))
          ∧ t.sp.load = s.sp.load
        ∧ t.ru.cues = s.ru.cues ∧ t.ru.cache = s.ru.cache ∧ t.ru.host = s.ru.host ∧ SameAttention s t ∧ t.sc = s.sc
        ∧ SameVoices s t ∧ SameEngine s t ∧ SameKeep s t
        ∧ t.ru.applied = min (((List.range 3).map fun n =>
            if (t.layer n).state = .running then (t.layer n).output else 0).foldl max 0) t.sb.m
        ∧ ∃ set : Byte, (∀ n < 8, set.getLsbD n
            = decide (n < 3 ∧ named n ∧ (s.layer n).state ≠ .idle))
          ∧ t.lp = (answered s Kind.rumbleStop h .ok [set]).lp

/-- R125, R126, R127, R128: at a rumble tick each RUNNING layer takes a tick of its step, moves to its next step or pass
when its step is complete, or ends with PATTERN_ENDED, its start value the finished step's and its tick in step 0, and
no other layer changes. LAYER_STEP_END as the whole tick at which the layer named completes its step is log 9, and the
mark of a boundary's tick (due, early, none) log 28, both the model's choices. -/
def Obligations.RumbleTickAdvancesLayers : Prop :=
  ∀ s : State, Settled s → s.sb.power = .active → s.lp.await = none → Quiet s → s.ru.layers.length = 3 →
    (s.ru.tick = .due ∨ s.ru.phase = 0 ∧ s.ru.tick = .none) →
    let ticked := fun (l : Layer) (a step k : Nat) =>
      let x := l.pattern.steps.getD step ⟨0, 0, false⟩
      let v := if x.ramp then ((a : Int) + ((x.target : Int) - a) * k / x.duration).toNat else x.target
      { l with start := a, step := step, tick := k, value := v, output := v * l.scale / 255 }
    let again := fun (l : Layer) => if l.pattern.returnStep < l.pattern.steps.length then l.pattern.returnStep else 0
    let complete := fun (l : Layer) =>
      l.state = .running ∧ l.tick = (l.pattern.steps.getD l.step ⟨0, 0, false⟩).duration
    let last := fun (l : Layer) => l.pattern.steps.length ≤ l.step + 1
    let ended := fun (l : Layer) => complete l ∧ last l ∧ l.passes = .left 0
    ∃ t, exec .rumbleTick s = .next t
      ∧ (∀ n < 3,
        let l := s.layer n
        (l.state ≠ .running → t.layer n = l)
        ∧ (l.state = .running → ¬ complete l → t.layer n = ticked l l.start l.step (l.tick + 1))
        ∧ (complete l → ¬ last l → t.layer n = ticked l l.value (l.step + 1) 1)
        ∧ (ended l → t.layer n = { l with state := .idle, start := l.value, tick := 0, value := 0, output := 0 })
        ∧ (∀ r, complete l → last l → l.passes = .left (r + 1) →
          t.layer n = { ticked l l.value (again l) 1 with passes := .left r })
        ∧ (complete l → last l → l.passes = .endless → t.layer n = ticked l l.value (again l) 1))
      ∧ (∀ n < 3, ended (s.layer n) →
        Member.patternEnded.isIn t.au.latch = true ∧ t.au.details.patternEnded.getLsbD n = true)
      ∧ t.ru.applied = min (((List.range 3).map fun n =>
          if (t.layer n).state = .running then (t.layer n).output else 0).foldl max 0) t.sb.m
      ∧ t.ru.phase = s.ru.phase ∧ t.ru.tick = (if s.ru.tick = .due then .none else .early)
      ∧ t.ru.cues = s.ru.cues ∧ t.ru.cache = s.ru.cache ∧ t.ru.host = s.ru.host ∧ SameVoices s t ∧ SameStore s t
      ∧ t.sc = s.sc ∧ t.dr = s.dr ∧ t.keep = s.keep ∧ t.face = s.face
      ∧ ∀ n < 3, complete (s.layer n) → exec (.layerStepEnd n) s = .next t

/-- R28, R129 to R134: CUE-ARM makes its checks in order; an accepted one makes the cue WAIT_FIRST with the
generation of each trigger's voice captured. CUE-DISARM refuses a cue number that is none; an accepted one makes the
cues it names UNARMED and keeps their other fields. CUE-ARM's reply carries the captured generations as a counted
list (log 14). At the close of a mix block the crossing report is taken: a cue waits for its first trigger and, if
it has one, then for its second at a later crossing, and fires, becoming UNARMED; a cue that has not fired and waits
on a voice that ended lapses with CUE_LAPSED, cause VOICE. The one cue that fires makes the layer start that a
RUMBLE-PLAY of its fields would make, and raises CUE_FIRED, or CUE_LAPSED with cause BLOCKED where that is refused.
The Link Port's idle values in the next state are the model's choice (log 37). -/
def Obligations.CuesArmAndDisarm : Prop :=
  (∀ (h : ReqHead) (f : CueFields) (cue : Byte) (s : State), Listening s → s.ru.cues.length = 4 →
    let trigger := fun (voice marker : Byte) =>
      Trigger.mk voice.toNat marker.toNat (s.voice voice.toNat).generation
    let bad := fun (voice marker : Byte) => 7 < voice.toNat ∨ 1 < marker.toNat
    let second : Option Trigger := if f.secondPresent = 1 then some (trigger f.secondVoice f.secondMarker) else none
    let generations := (s.voice f.firstVoice.toNat).generation :: second.toList.map (·.generation)
    exec (.cueArm h f) s = .next (
      if 3 < f.cue.toNat ∨ bad f.firstVoice f.firstMarker ∨ (f.secondPresent ≠ 0 ∧ f.secondPresent ≠ 1)
          ∨ (f.secondPresent = 1 ∧ bad f.secondVoice f.secondMarker)
          ∨ 71 < f.pattern.toNat ∨ 2 < f.layer.toNat ∨ 15 < f.priority.toNat then
        answered s Kind.cueArm h .range []
      else if (s.voice f.firstVoice.toNat).state = .idle
          ∨ (f.secondPresent = 1 ∧ (s.voice f.secondVoice.toNat).state = .idle) then
        answered s Kind.cueArm h .state []
      else answered { s with ru := { s.ru with cues := s.ru.cues.set f.cue.toNat {
            state := .waitFirst, first := trigger f.firstVoice f.firstMarker, second := second
            pattern := f.pattern.toNat, layer := f.layer.toNat, priority := f.priority.toNat, scale := f.scale.toNat } } }
        Kind.cueArm h .ok (f.cue :: BitVec.ofNat 8 generations.length :: generations
          ++ [if (s.cue f.cue.toNat).state = .unarmed then 0 else 1]))
    ∧ (if 3 < cue.toNat ∧ cue ≠ 0xFF then exec (.cueDisarm h cue) s = .next (answered s Kind.cueDisarm h .range [])
      else
        ∃ t, exec (.cueDisarm h cue) s = .next t
          ∧ (∃ set : Byte, (∀ n < 8, set.getLsbD n
              = decide (n < 4 ∧ (cue = 0xFF ∨ cue.toNat = n) ∧ (s.cue n).state ≠ .unarmed))
            ∧ t = answered { s with ru := { s.ru with cues := t.ru.cues } } Kind.cueDisarm h .ok [set])
          ∧ t.ru.cues.length = 4
          ∧ ∀ n < 4, t.cue n
            = if cue = 0xFF ∨ cue.toNat = n then { s.cue n with state := .unarmed } else s.cue n))
  ∧ ∀ s : State, s.sb.power = .active → Quiet s → s.lp.await = none → s.lp.pendingReset = false →
    s.se.voices.length = 8 → s.ru.cues.length = 4 → s.ru.layers.length = 3 →
    let report := blockReport (s.se.voices.map atBoundary)
    let hits := fun (q : Trigger) (x : Crossing) =>
      decide (x.voice = q.voice ∧ x.marker = q.marker ∧ x.generation = q.generation)
    let later := fun (q : Trigger) => (report.dropWhile fun x => !hits q x).drop 1
    let begins := fun (c : Cue) => decide (c.state = .waitFirst) && report.any (hits c.first)
    let fires : Cue → Bool := fun c => match c.second with
      | none => begins c
      | some q => begins c && (later c.first).any (hits q) || decide (c.state = .waitSecond) && report.any (hits q)
    ∃ t : State, exec .mixBlockBoundary s = .next t ∧
      let ended := fun (n : Nat) => decide (n < 8 ∧ (s.voice n).state ≠ .idle ∧ (t.voice n).state = .idle)
      let lapses := fun (j : Nat) => !fires (s.cue j) && (lapsed s ended j != s.cue j)
      let someLapse := (List.range 4).any lapses
      (∀ j < 4, t.cue j =
          if fires (s.cue j) ∨ lapses j then { s.cue j with state := .unarmed }
          else if begins (s.cue j) then { s.cue j with state := .waitSecond }
          else s.cue j)
      ∧ ((∀ j < 4, fires (s.cue j) = false) →
        t.ru.layers = s.ru.layers ∧ t.sp.loadList = s.sp.loadList
          ∧ RaisesSet .cueFired (·.cueFired) 4 (fun _ => false) s t
          ∧ RaisesSet .cueLapsed (·.cueLapsed) 4 lapses s t
          ∧ (someLapse → t.au.details.lapseCause = some .voice))
      ∧ ∀ j < 4, fires (s.cue j) = true → (∀ i < 4, i ≠ j → fires (s.cue i) = false) →
        let c := s.cue j
        c.pattern ≤ 71 → c.layer ≤ 2 → c.priority ≤ 15 → c.scale ≤ 255 →
        ∃ u, exec (.rumblePlay ⟨0, false⟩ (BitVec.ofNat 8 c.layer) (BitVec.ofNat 8 c.pattern)
            (BitVec.ofNat 8 c.priority) (BitVec.ofNat 8 c.scale)) s = .next u
          ∧ t.ru.layers = u.ru.layers ∧ t.ru.cache = u.ru.cache ∧ t.sp.loadList = u.sp.loadList
          ∧ (if byteAt (u.lp.held.getD []) 4 = 0 then
              RaisesSet .cueFired (·.cueFired) 4 (fun i => i == j) s t
                ∧ RaisesSet .cueLapsed (·.cueLapsed) 4 lapses s t
                ∧ (someLapse → t.au.details.lapseCause = some .voice)
            else
              RaisesSet .cueFired (·.cueFired) 4 (fun _ => false) s t
                ∧ RaisesSet .cueLapsed (·.cueLapsed) 4 (fun i => lapses i || i == j) s t
                ∧ t.au.details.lapseCause = some (if someLapse then .voice else .blocked))

/-! ### The Supply Monitor and Budget, and WAKING -/

/-- R18, R43, R137, R151, R152: STANDBY-ENTER ends every voice and layer and disarms every cue without an event,
turns the amplifier OFF with the hold flag kept, abandons the fetch in flight and empties the load list; its reply
shows the operation in flight, whether a reckoning is deferred, and the supply class, after a power-state byte of
00h for STANDBY, the one value it can carry (log 15). With no operation in flight the slot byte is 00h (log 36). The
Link Port's idle values in the next state are the model's choice (log 37). -/
def Obligations.StandbyIsEntered : Prop :=
  ∀ (h : ReqHead) (s : State), Listening s →
    let operation : List Byte := match s.sc.op with
      | none => [0, 0]
      | some op => [op.phase.byte, BitVec.ofNat 8 op.slot]
    let endLayer := fun (l : Layer) => if l.state = .idle then l else { l with state := .idle, value := 0, output := 0 }
    let disarmed := fun (c : Cue) => { c with state := .unarmed }
    exec (.standbyEnter h) s = .next (State.refresh (answered { s with
      se := { s.se with
        voices := s.se.voices.map fun v => if v.state = .idle then v else endedUse v
        amp := false, idleBlocks := 0 }
      sp := { s.sp with fetch := abandonFetch s.sp.fetch, loadList := [], load := none }
      ru := { s.ru with layers := s.ru.layers.map endLayer, cues := s.ru.cues.map disarmed }
      sb := { s.sb with power := .standby } }
      Kind.standbyEnter h .ok
        ([0] ++ operation ++ [if s.dr.deferred = none then 0 else 1, s.sb.supply.byte])))

/-- R65, R96, R141, R143, R149, R181: the supply class after the supply comes to a voltage of at least 2.50 V. The
audio ceiling follows it and the two supply conditions show it. A rise to FENCE abandons a keep operation with
SAVE_FAILED, cause POWER, and with it the write-open record unless it is an erase. Leaving FENCE runs the deferred
reckoning with S as it stands: L becomes the raw day if that is above it, and unless a cause is RESTART or the clock
is INVALID the advance is credited under the record's limit, the rest forfeited and DAY_TURN raised; its firing pass
fires the entries reached; a ROLLOVER among the causes measures the cell. Leaving FENCE ends the supply wait of
WAKING. No byte of keep memory and no face bit changes. -/
def Obligations.SupplyClassMoves : Prop :=
  ∀ (mv cellMv : Nat) (s : State), s.sb.power ≠ .keep → 2500 ≤ mv →
    let c := s.sb.supply
    let d : SupplyClass :=
      if c = .normal then (if mv < 2800 then .fence else if mv < 3000 then .warn else .normal)
      else if c = .warn then (if 3100 ≤ mv then .normal else if mv < 2800 then .fence else .warn)
      else if 3100 ≤ mv then .normal else if 2900 ≤ mv then .warn else .fence
    ∃ t, exec (.supplyClassChange mv cellMv) s = .next t
      ∧ t.sb.supply = d ∧ t.sb.supplyMv = mv ∧ t.sb.cellMv = cellMv
      ∧ t.sb.audio = (if d = .normal then 32767 else if d = .warn then 16384 else 0)
      ∧ t.se.effMaster = min s.se.master t.sb.audio ∧ (d = .fence → t.sb.m = 0)
      ∧ (s.sb.power = .active ∨ s.sb.power = .standby →
        Member.supplyWarn.isIn t.au.level = decide (d ≠ .normal)
          ∧ Member.supplyFence.isIn t.au.level = decide (d = .fence))
      ∧ (c = .fence ∨ d ≠ .fence → t.sc = s.sc)
      ∧ (c ≠ .fence → d = .fence → t.sc.op = none
        ∧ (∀ op ∈ s.sc.op, op.kind ≠ .erase → t.sc.openSlot = none ∧ t.sc.highMark = 0)
        ∧ ((∀ op ∈ s.sc.op, op.kind = .erase) → t.sc.openSlot = s.sc.openSlot ∧ t.sc.highMark = s.sc.highMark)
        ∧ (∀ op ∈ s.sc.op, s.lp.await = none → Member.saveFailed.isIn t.au.latch = true
          ∧ t.au.details.saveCause = some .power
          ∧ t.au.details.saveFailed
            = (if Member.saveFailed.isIn s.au.latch then s.au.details.saveFailed else 0) ||| slotBit op.slot))
      ∧ (c ≠ .fence ∨ d = .fence → t.dr = s.dr)
      ∧ (c = .fence → d ≠ .fence → s.dr.deferred = none → t.dr = s.dr ∧ t.sb.cell = s.sb.cell)
      ∧ (∀ q, DaysOk s → c = .fence → d ≠ .fence → s.dr.deferred = some q →
        let raw := (s.cu.seconds + 86400 - (s.sp.profile.hour * 3600 + s.sp.profile.minute * 60)) / 86400
        let advance := raw - s.dr.l
        let credited := if q.causes.restart = true ∨ s.cu.valid = false then 0 else min advance q.limit
        t.dr.l = max s.dr.l raw ∧ t.dr.rewind = s.dr.rewind
          ∧ t.dr.g = (if 0 < credited then min (s.dr.g + credited) 65535 else s.dr.g)
          ∧ (q.causes.restart = true ∨ s.cu.valid = false ∨ raw ≤ s.dr.l → t.dr.forfeited = s.dr.forfeited)
          ∧ (q.causes.restart = false → s.cu.valid = true → s.dr.l < raw →
            t.dr.forfeited = min (s.dr.forfeited + advance - credited) 65535)
          ∧ FiringPass s.dr.g t.dr.g s.cu.seconds s t
          ∧ (s.lp.pendingReset = false → PassActions s.dr.g t.dr.g s.cu.seconds s t)
          ∧ t.sb.cell = (if q.causes.rollover = false then s.sb.cell
              else if s.sb.cell = .good then (if cellMv < 2600 then .low else .good)
              else if 2700 ≤ cellMv then .good else .low)
          ∧ (0 < credited → s.lp.await = none → TurnsDays credited s t))
      ∧ (c = .fence → d ≠ .fence → t.dr.deferred = none
        ∧ (s.sb.power = .waking → s.sb.stage = 1 → t.sb.stage = 2))
      ∧ t.keep = s.keep ∧ t.face = s.face ∧ t.cu = s.cu ∧ t.now = s.now

/-- R140, R142, R144: the loss of console power loses the active domain and the deferred reckoning, and leaves the
keep domain as it stood. Its return enters WAKING with the active domain at its power-up values and the supply class
found by the rising thresholds. That a part in KEEP shows power-up values is log 29, and that a SUPPLY_CLASS_CHANGE
below 2.50 V is the loss, with its cell voltage kept, log 26, both the model's choices. So is it that the keep
domain stands whatever the cell voltage (log 35). -/
def Obligations.PowerIsLostAndReturns : Prop :=
  ∀ (mv cellMv : Nat) (s : State),
    (mv < 2500 → s.sb.power ≠ .keep →
      exec (.consolePowerLost mv) s = .next (State.refresh { s with
        lp := {}, au := {}, se := {}, sp := {}, sc := {}, ru := {}
        sb := { power := .keep, supplyMv := mv, cellMv := s.sb.cellMv }, dr := { s.dr with deferred := none } })
      ∧ exec (.supplyClassChange mv cellMv) s = .next (State.refresh { s with
        lp := {}, au := {}, se := {}, sp := {}, sc := {}, ru := {}
        sb := { power := .keep, supplyMv := mv, cellMv := cellMv }, dr := { s.dr with deferred := none } }))
    ∧ (2500 ≤ mv → s.sb.power = .keep →
      exec (.consolePowerReturn mv) s
        = .next (freshPart { s with sb := { s.sb with supplyMv := mv }, sp := {} } 0))

/-- R71, R87, R92 to R96, R162, R181, R182, R187: stages 2, 3 and 7 of WAKING. The signature check finds the keep
INTACT or LOST; the crystal check ends at an edge, or after one monitor window with a VALID clock made INVALID, and
the profile read begins; the scrub decides each slot's state in turn, and after the last slot the cell is measured,
the POWER_UP reckoning credits the advance under the limit C, or restarts on an INVALID clock, or is deferred under
FENCE, with the entries it reaches fired but no action run, the seven conditions are taken, and the part becomes
ACTIVE. The window of 31,250 eighths of a microsecond is the nominal rate of log 11. The generation 0 of the first
fetch is the model's choice too (log 5). -/
def Obligations.WakingStagesEnd : Prop :=
  ∀ (edge : Bool) (mv : Nat) (s : State), Settled s → Quiet s → s.sb.power = .waking →
    (s.sb.stage = 2 →
      let moved := movedTo s (s.sb.stageStart + 64)
      exec .keepSignatureCheck s = .next (State.refresh { moved with sb := { s.sb with
        intact := decide (Memory.readAll s.keep 0 16 = signature), stage := 3, stageStart := moved.now } }))
    ∧ (s.sb.stage = 3 →
      let moved := if edge then s else movedTo s (s.sb.stageStart + 31250)
      ∃ t, exec (.crystalCheckEnd edge) s = .next t
        ∧ t.sb.stage = 4 ∧ t.sb.stageStart = moved.now ∧ t.now = moved.now ∧ SameKeep { moved with cu := t.cu } t
        ∧ t.cu = (if edge then { s.cu with running := true }
            else if s.cu.valid then { moved.cu with running := false, valid := false, divider := 0, hold := 0 }
            else { moved.cu with running := false })
        ∧ (s.sp.fetch = none → s.sp.reader = [] → t.sp.fetch = some {
            requester := .powerUp, generation := 0, address := 0, size := 32, abandoned := false
            due := t.now + 48 }))
    ∧ (s.sb.stage = 7 →
      let n := s.sb.scrubSlot
      let header := Memory.readAll s.keep (s.faceAddr n) 32
      let st : SlotState := if headerValid header n (s.slotSize n) = false then .damaged
        else if byteAt header 3 = 0 then .empty
        else if crc16 (Memory.readAll s.keep (s.faceAddr n + 32) (half header 8).toNat) = half header 10 then .live
        else .damaged
      ∃ t, exec (.scrubSlotEnd mv) s = .next t
        ∧ t.sc = { s.sc with slots := s.sc.slots ++ [st] } ∧ t.keep = s.keep ∧ t.face = s.face
        ∧ (n < s.slotCount → t.sb.power = .waking ∧ t.sb.stage = 7 ∧ t.sb.scrubSlot = n + 1 ∧ t.dr = s.dr)
        ∧ (s.slotCount ≤ n → t.sb.power = .active ∧ t.sb.stage = 11 ∧ t.se.nextBoundary = t.now + 15625
          ∧ t.ru.phase = 0
          ∧ t.sb.cell = (if s.sb.cell = .good then (if mv < 2600 then .low else .good)
              else if 2700 ≤ mv then .good else .low)
          ∧ (let conditions : List (Member × Bool) := [
              (.slotDamaged, (t.sc.slots.take 8).any fun x => decide (x = .damaged)),
              (.firedWaiting, !t.dr.fired.isEmpty), (.clockInvalid, !s.cu.valid),
              (.supplyWarn, decide (s.sb.supply ≠ .normal)), (.supplyFence, decide (s.sb.supply = .fence)),
              (.cellLow, decide (t.sb.cell = .low)), (.profileDefault, decide (s.sb.profileStatus = .defaulted))]
            ∀ x ∈ conditions, x.1.isIn t.au.level = x.2
              ∧ (s.lp.await = none → x.2 = true → x.1.isIn s.au.level = false → x.1.isIn t.au.latch = true))
          ∧ (let raw := (s.cu.seconds + 86400 - (s.sp.profile.hour * 3600 + s.sp.profile.minute * 60)) / 86400
            let credited := min (raw - s.dr.l) s.sp.profile.catchUp
            t.dr.rewind = s.dr.rewind ∧ t.ru.layers = s.ru.layers
              ∧ (s.sb.supply = .fence →
                t.dr = { s.dr with deferred := some {
                  causes := match s.dr.deferred with
                    | some q => { q.causes with powerUp := true }
                    | none => { powerUp := true }
                  limit := max (match s.dr.deferred with | some q => q.limit | none => 0) s.sp.profile.catchUp } })
              ∧ (s.sb.supply ≠ .fence → t.dr.l = max s.dr.l raw ∧ t.dr.deferred = s.dr.deferred)
              ∧ (s.sb.supply ≠ .fence → s.cu.valid = false ∨ raw ≤ s.dr.l →
                t.dr.g = s.dr.g ∧ t.dr.forfeited = s.dr.forfeited)
              ∧ (s.sb.supply ≠ .fence → s.cu.valid = true → s.dr.l < raw →
                t.dr.g = min (s.dr.g + credited) 65535
                  ∧ t.dr.forfeited = min (s.dr.forfeited + (raw - s.dr.l) - credited) 65535
                  ∧ (0 < credited → s.lp.await = none → Member.dayTurn.isIn t.au.latch = true
                    ∧ t.au.details.dayTurn = min 65535
                      ((if Member.dayTurn.isIn s.au.latch then s.au.details.dayTurn else 0) + credited)))
              ∧ (s.dr.table = [] → t.dr.table = [] ∧ t.dr.fired = s.dr.fired)
              ∧ (s.sb.supply ≠ .fence → DaysOk s → FiringPass s.dr.g t.dr.g s.cu.seconds s t)
              ∧ (∀ r ∈ t.dr.fired.drop s.dr.fired.length, r.ran = false))))

/-- R47, R48, R88, R185, R186, R192, R195: a format that has run from its first write ends 1 ms after it began. Every
half header is EMPTY, every face bit A, the identity recorded is the profile's, no data byte of a half has changed, and
KEEP_FORMATTED tells the kind. A full format also leaves the signature, the clock INVALID at 0 and the Day Reckoner's
records empty; a slot format leaves clock, day records and signature alone. -/
def Obligations.FormatsEnd : Prop :=
  ∀ (kind : FormatKind) (s : State), s.sb.power = .waking → s.sb.stage = 5 → s.sb.supply ≠ .fence → s.sc.op = none →
    s.sc.layoutState = .usable → s.lp.await = none → Memory.wf s.keep →
    s.sb.format = some { kind := kind, made := 0, ran := 0 } →
    let c : Instr := match kind with
      | .full => .fullFormatEnd
      | .slots => .slotFormatEnd
    ∃ t, exec c s = .next t
      ∧ t.now = s.now + 8000 ∧ t.sb.format = none ∧ t.face = 0 ∧ t.sb.power = .waking
      ∧ recordedCode t.keep = s.sp.profile.gameCode % 4294967296 ∧ recordedLayout t.keep = s.layout
      ∧ (∀ n b, 1 ≤ n → n ≤ s.slotCount →
        Memory.readAll t.keep (halfAddr s.layout n b) 32 = (formatHeader n).bytes
          ∧ ∀ i < s.slotSize n, Memory.read t.keep (halfData s.layout n b + i)
            = Memory.read s.keep (halfData s.layout n b + i))
      ∧ Member.keepFormatted.isIn t.au.latch = true
      ∧ match kind with
        | .full => Memory.readAll t.keep 0 16 = signature ∧ t.au.details.keepFormatted = some .full
          ∧ t.cu = { seconds := 0, valid := false, divider := 0, hold := 0, phase := 0, trim := 0
                     running := s.cu.running }
          ∧ t.dr = { g := 0, l := 0, forfeited := 0, rewind := 0, table := [], fired := []
                     deferred := s.dr.deferred }
        | .slots => Memory.readAll t.keep 0 16 = Memory.readAll s.keep 0 16 ∧ t.dr = s.dr
          ∧ t.cu = s.cu.count s.now 8000
          ∧ t.au.details.keepFormatted
            = if Member.keepFormatted.isIn s.au.latch = true ∧ s.au.details.keepFormatted = some .full then some .full
              else some .slots

/-! ### Invariants -/

/-- The canonical form of keep memory is kept by every step. -/
def Obligations.MemoryStaysCanonical : Prop :=
  ∀ s t : State, Memory.wf s.keep → step s = .next t → Memory.wf t.keep

/-- R33, R34, R148, R159, R184: between events every condition is reported, every fetch request is evaluated, no grant
that could be made is owed, every recomputed value stands, and a format is under way in stage 5 of WAKING alone. Every
step keeps this. -/
def Obligations.EveryStepSettles : Prop := ∀ s t : State, Calm s → step s = .next t → Calm t

/-- R2, R26, R33, R52, R128, R139, R146, R147, R149, R161: what a settled state shows: the shares, the ceilings, the
effective master gain, the applied strength, the DAC code of a silent amplifier, ATTN and the fetch-request flags. -/
def Obligations.SettledStateShows : Prop :=
  ∀ s : State, Settled s →
    let available := (s.sb.allowance : Int) - 12 - s.sb.u - s.sb.w
    let base := min 255 ((max 0 available).toNat * 255 / 90)
    s.sb.u = (if s.se.amp then 25 else 0)
    ∧ s.sb.w = (if ∃ op ∈ s.sc.op, op.phase = .seeding ∨ op.phase = .verifying then 10 else 0)
    ∧ (s.sb.settle = true ↔ ∃ op ∈ s.sc.op, op.phase = .settling)
    ∧ s.sb.audio = (if s.sb.supply = .normal then 32767 else if s.sb.supply = .warn then 16384 else 0)
    ∧ s.sb.m = (if s.sb.power ≠ .active then 0
        else if s.sb.supply = .fence then 0
        else if s.sb.settle = true then 0
        else if s.sb.supply = .warn then base / 2
        else base)
    ∧ s.se.effMaster = min s.se.master s.sb.audio
    ∧ (s.se.amp = false → s.se.dac = 2048)
    ∧ s.ru.applied ≤ s.sb.m
    ∧ (∀ l ∈ s.ru.layers, l.state = .running → min l.output s.sb.m ≤ s.ru.applied)
    ∧ ((∀ l ∈ s.ru.layers, l.state ≠ .running) → s.ru.applied = 0)
    ∧ (s.au.attn = true ↔ (s.sb.power = .active ∨ s.sb.power = .standby)
        ∧ ∃ m : Member, m.isIn s.au.woke = true ∨ m.isIn s.au.latch = true ∧ m.isIn s.au.watch = true)
    ∧ ∀ n < s.se.voices.length,
      let v := s.voice n
      let w := if v.format = .pcm16 then 2 else 1
      let stop := v.start + (if v.loopLength ≠ 0 then v.loopStart + v.loopLength else v.length) * w
      let wanted := min 32 (stop - v.fetchAddr)
      v.request = true ↔ s.sb.power = .active ∧ v.state ≠ .idle
        ∧ ¬ (∃ f ∈ s.sp.fetch, f.requester = .voice n ∧ f.generation = v.generation)
        ∧ 0 < wanted ∧ wanted ≤ 128 - v.ring.length

/-- R51: at most one slot is write-open and at most one operation is in flight, a seeding or commit on the open slot and
an erase on another; outside ACTIVE and STANDBY there is neither. Every step keeps this. -/
def Obligations.SaveRecordsStaySound : Prop :=
  ∀ s t : State, SaveOk s → step s = .next t → SaveOk t

/-- R74, R84, R89, R94, R98, R105, R106: S stays in the clock range, and the day counts, L within 36,525, in theirs,
the table stays strictly ascending with at most 32 entries and every period and phase in range, the fired list holds
at most 16 records, and an entry is DUE only while it holds 16. Every step keeps this, and G, L and the rewind total
never decrease but in a full format. -/
def Obligations.DayRecordsStaySound : Prop :=
  ∀ s t : State, DaysOk s → step s = .next t → DaysOk t
    ∧ ((∀ f ∈ s.sb.format, f.kind ≠ .full) → s.dr.g ≤ t.dr.g ∧ s.dr.l ≤ t.dr.l ∧ s.dr.rewind ≤ t.dr.rewind)

/-- R35: every voice's ring fill with the bytes of its fetch in flight stays within 128. Every step keeps this. -/
def Obligations.RingsStayBounded : Prop :=
  ∀ s t : State, RingOk s → step s = .next t → RingOk t

/-- R39, R117, R119: the load list holds no duplicate and at most 4 ids, a current load exactly while it is not empty,
and the id of every LOADING layer; a queued id is waited on; the cache holds at most 8 entries of different ids, none
of them listed. Every step keeps this. -/
def Obligations.LoaderStaysSound : Prop :=
  ∀ s t : State, LoaderOk s → step s = .next t → LoaderOk t

/-- R48, R49: the face word changes only at a flip, which inverts the bit of the slot operated on, or at a format, which
makes it all A; and outside a format no step changes a byte of the face half of a slot. -/
def Obligations.FacesAreProtected : Prop :=
  ∀ s t : State, Calm s → SaveOk s → Memory.wf s.keep → step s = .next t →
    (t.face ≠ s.face →
      (s.pending.head? = some .flip ∧ ∃ op ∈ s.sc.op, op.phase = .settling ∧ t.face = s.face ^^^ slotBit op.slot)
      ∨ (s.sb.format ≠ none ∧ t.face = 0))
    ∧ (s.sb.format = none → ∀ n a, 1 ≤ n → n ≤ s.slotCount → inFace s n a →
      Memory.read t.keep a = Memory.read s.keep a)

/-- R140, R142, R180: right after reset the part is as an entry to WAKING leaves it, and every invariant holds. That the
supply pin stands at 2.50 V and the keep domain is blank is the model's choice (logs 1 to 3). -/
def Obligations.ResetIsSound : Prop :=
  State.reset = freshPart State.reset 0 ∧ State.reset.sb.power = .waking ∧ State.reset.sb.stage = 1
    ∧ Memory.wf State.reset.keep ∧ Calm State.reset ∧ SaveOk State.reset ∧ DaysOk State.reset ∧ RingOk State.reset
    ∧ LoaderOk State.reset
end

