-- ==== Sys2Proof/Laws/Memory.lean ====
section
/-! SUPPORT. The laws of keep memory: every write keeps the canonical form, a byte written reads as written, and every
other byte reads as before. -/

namespace Sys2Proof.Machine

/-- A byte is blank wherever every listed address lies above. -/
theorem Memory.read_of_lt (m : List Host.Cell) (a : Nat) (h : ∀ c ∈ m, a < c.1) : Memory.read m a = Memory.blank := by
  induction m with
  | nil => rfl
  | cons c m ih =>
    obtain ⟨k, b⟩ := c
    have hk : a < k := h (k, b) (by simp)
    simp only [Memory.read, if_neg (by omega : ¬ k = a)]
    exact ih fun c hc => h c (by simp [hc])

/-- An entry after `insert` is the new one or one that was there. -/
theorem Memory.mem_insert (m : List Host.Cell) (a : Nat) (v : Byte) (c : Host.Cell) (h : c ∈ Memory.insert m a v) :
    (c = (a, v) ∧ v ≠ Memory.blank) ∨ c ∈ m := by
  induction m with
  | nil =>
    simp only [Memory.insert] at h
    split at h
    · simp at h
    · rename_i hv; exact .inl ⟨by simpa using h, hv⟩
  | cons d m ih =>
    obtain ⟨k, b⟩ := d
    simp only [Memory.insert] at h
    split at h
    · rcases List.mem_cons.1 h with h | h
      · exact .inr (by simp [h])
      · rcases ih h with h | h
        · exact .inl h
        · exact .inr (by simp [h])
    · split at h
      · split at h
        · exact .inr (by simp [h])
        · rename_i hv
          rcases List.mem_cons.1 h with h | h
          · exact .inl ⟨h, hv⟩
          · exact .inr (by simp [h])
      · split at h
        · exact .inr h
        · rename_i hv
          rcases List.mem_cons.1 h with h | h
          · exact .inl ⟨h, hv⟩
          · exact .inr h

/-- `insert` keeps addresses strictly rising. -/
theorem Memory.insert_sorted (m : List Host.Cell) (a : Nat) (v : Byte)
    (h : m.Pairwise (fun x y => x.1 < y.1)) : (Memory.insert m a v).Pairwise (fun x y => x.1 < y.1) := by
  induction m with
  | nil => simp only [Memory.insert]; split <;> simp
  | cons d m ih =>
    obtain ⟨k, b⟩ := d
    obtain ⟨h1, h2⟩ := List.pairwise_cons.1 h
    simp only [Memory.insert]
    split
    · rename_i hk
      refine List.pairwise_cons.2 ⟨fun c hc => ?_, ih h2⟩
      rcases Memory.mem_insert m a v c hc with ⟨hc, -⟩ | hc
      · subst hc; exact hk
      · exact h1 c hc
    · split
      · rename_i hk; subst hk
        split
        · exact h2
        · exact List.pairwise_cons.2 ⟨h1, h2⟩
      · split
        · exact h
        · refine List.pairwise_cons.2 ⟨fun c hc => ?_, h⟩
          rcases List.mem_cons.1 hc with hc | hc
          · subst hc; simp only; omega
          · have := h1 c hc; simp only at this ⊢; omega

/-- What a byte reads as after `insert`. -/
theorem Memory.read_insert (m : List Host.Cell) (a : Nat) (v : Byte) (x : Nat)
    (h : m.Pairwise (fun x y => x.1 < y.1)) :
    Memory.read (Memory.insert m a v) x = if x = a then v else Memory.read m x := by
  induction m with
  | nil =>
    simp only [Memory.insert]
    by_cases hv : v = Memory.blank
    · simp [hv, Memory.read]
    · simp only [if_neg hv, Memory.read, eq_comm]
  | cons d m ih =>
    obtain ⟨k, b⟩ := d
    obtain ⟨h1, h2⟩ := List.pairwise_cons.1 h
    have hlt : ∀ y, y ≤ k → Memory.read m y = Memory.blank := fun y hy =>
      Memory.read_of_lt m y fun c hc => lt_of_le_of_lt hy (h1 c hc)
    simp only [Memory.insert]
    by_cases hk : k < a
    · simp only [if_pos hk, Memory.read, ih h2]
      by_cases hx : k = x
      · simp only [if_pos hx]; rw [if_neg (by omega)]
      · simp only [if_neg hx]
    · simp only [if_neg hk]
      by_cases hka : k = a
      · simp only [if_pos hka]
        by_cases hv : v = Memory.blank
        · simp only [if_pos hv, Memory.read]
          by_cases hx : x = a
          · rw [if_pos hx, hlt x (by omega), hv]
          · rw [if_neg hx, if_neg (by omega)]
        · simp only [if_neg hv, Memory.read]
          by_cases hx : x = a
          · rw [if_pos hx, if_pos hx.symm]
          · rw [if_neg hx, if_neg (by omega), if_neg (by omega)]
      · simp only [if_neg hka]
        by_cases hv : v = Memory.blank
        · simp only [if_pos hv, Memory.read]
          by_cases hx : x = a
          · rw [if_pos hx, if_neg (by omega), hlt x (by omega), hv]
          · rw [if_neg hx]
        · simp only [if_neg hv, Memory.read]
          by_cases hx : x = a
          · rw [if_pos hx, if_pos hx.symm]
          · rw [if_neg hx, if_neg (fun e => hx e.symm)]

/-- A write keeps the canonical form. -/
theorem Memory.write_wf (m : List Host.Cell) (a : Nat) (v : Byte) (h : Memory.wf m) : Memory.wf (Memory.write m a v) := by
  unfold Memory.write
  split
  · rename_i ha
    refine ⟨Memory.insert_sorted m a v h.1, fun c hc => ?_⟩
    rcases Memory.mem_insert m a v c hc with ⟨hc, hv⟩ | hc
    · subst hc; exact ⟨ha, hv⟩
    · exact h.2 c hc
  · exact h

/-- Several writes keep the canonical form. -/
theorem Memory.writeAll_wf (m : List Host.Cell) (a : Nat) (bs : List Byte) (h : Memory.wf m) :
    Memory.wf (Memory.writeAll m a bs) := by
  induction bs generalizing m a with
  | nil => exact h
  | cons b bs ih => exact ih _ _ (Memory.write_wf m a b h)

/-- A write to the state's keep memory keeps the canonical form. -/
theorem State.keepWrite_wf (s : State) (a : Nat) (bs : List Byte) (h : Memory.wf s.keep) :
    Memory.wf (s.keepWrite a bs).keep := Memory.writeAll_wf s.keep a bs h

/-- A header write keeps the canonical form. -/
theorem State.writeShadowHeader_wf (s : State) (n : Nat) (f : HeaderFields) (h : Memory.wf s.keep) :
    Memory.wf (s.writeShadowHeader n f).keep := Memory.writeAll_wf s.keep _ _ h

/-- Every write of a format keeps the canonical form. -/
theorem State.formatWrite_wf (s : State) (w : KeepWrite) (h : Memory.wf s.keep) : Memory.wf (s.formatWrite w).keep := by
  cases w with
  | byte a b => exact Memory.write_wf s.keep a b h
  | faces => exact h
  | clock => exact h
  | days => exact h

/-- The memory at reset has the canonical form. -/
theorem State.reset_keep_wf : Memory.wf State.reset.keep := by decide

/-- What a byte reads as after a write inside keep memory. -/
theorem Memory.read_write (m : List Host.Cell) (a : Nat) (v : Byte) (x : Nat) (h : Memory.wf m)
    (ha : a < Config.keepSize) : Memory.read (Memory.write m a v) x = if x = a then v else Memory.read m x := by
  unfold Memory.write
  rw [if_pos ha]
  exact Memory.read_insert m a v x h.1

/-- A write leaves every other byte alone, wherever it goes. -/
theorem Memory.read_write_ne (m : List Host.Cell) (a : Nat) (v : Byte) (x : Nat) (h : Memory.wf m) (hx : x ≠ a) :
    Memory.read (Memory.write m a v) x = Memory.read m x := by
  unfold Memory.write
  split
  · rw [Memory.read_insert m a v x h.1, if_neg hx]
  · rfl

/-- Writes at rising addresses leave every byte outside them alone. -/
theorem Memory.read_writeAll_ne (m : List Host.Cell) (a : Nat) (bs : List Byte) (x : Nat) (h : Memory.wf m)
    (hx : x < a ∨ a + bs.length ≤ x) : Memory.read (Memory.writeAll m a bs) x = Memory.read m x := by
  induction bs generalizing m a with
  | nil => rfl
  | cons b bs ih =>
    simp only [List.length_cons] at hx
    unfold Memory.writeAll
    rw [ih _ _ (Memory.write_wf m a b h) (by omega), Memory.read_write_ne m a b x h (by omega)]

/-- Writes at rising addresses inside keep memory leave each byte as written. -/
theorem Memory.read_writeAll (m : List Host.Cell) (a : Nat) (bs : List Byte) (i : Nat) (h : Memory.wf m)
    (hi : i < bs.length) (ha : a + bs.length ≤ Config.keepSize) :
    Memory.read (Memory.writeAll m a bs) (a + i) = byteAt bs i := by
  induction bs generalizing m a i with
  | nil => simp at hi
  | cons b bs ih =>
    simp only [List.length_cons] at hi ha
    unfold Memory.writeAll
    cases i with
    | zero =>
      rw [Memory.read_writeAll_ne _ _ _ _ (Memory.write_wf m a b h) (by omega),
        Memory.read_write m a b _ h (by omega)]
      simp [byteAt]
    | succ i =>
      have := ih (Memory.write m a b) (a + 1) i (Memory.write_wf m a b h) (by omega) (by omega)
      rw [show a + (i + 1) = a + 1 + i by omega, this]
      simp [byteAt]

/-- A read of several bytes, byte by byte. -/
theorem Memory.readAll_byte (m : List Host.Cell) (a n i : Nat) (hi : i < n) :
    byteAt (Memory.readAll m a n) i = Memory.read m (a + i) := by
  simp [byteAt, Memory.readAll, hi]

end Sys2Proof.Machine
end

