-- ==== Sys2Proof/Laws/Ops.lean ====
section
/-! SUPPORT. What each shared operation can do, said once: the report of conditions, the recomputed values, the store's
service, the passing of time, the close of an event, and a request. -/

namespace Sys2Proof.Machine

open Sys2Proof.Safety

variable (s : State)

/-! ### The report of conditions -/

/-- A report changes the Attention Unit alone. -/
theorem State.report_eq : s.report = { s with au := s.report.au } := by
  unfold State.report; split <;> rfl

@[simp] theorem State.report_lp : s.report.lp = s.lp := by unfold State.report; split <;> rfl
@[simp] theorem State.report_se : s.report.se = s.se := by unfold State.report; split <;> rfl
@[simp] theorem State.report_sp : s.report.sp = s.sp := by unfold State.report; split <;> rfl
@[simp] theorem State.report_sc : s.report.sc = s.sc := by unfold State.report; split <;> rfl
@[simp] theorem State.report_cu : s.report.cu = s.cu := by unfold State.report; split <;> rfl
@[simp] theorem State.report_dr : s.report.dr = s.dr := by unfold State.report; split <;> rfl
@[simp] theorem State.report_ru : s.report.ru = s.ru := by unfold State.report; split <;> rfl
@[simp] theorem State.report_sb : s.report.sb = s.sb := by unfold State.report; split <;> rfl
@[simp] theorem State.report_keep : s.report.keep = s.keep := by unfold State.report; split <;> rfl
@[simp] theorem State.report_face : s.report.face = s.face := by unfold State.report; split <;> rfl
@[simp] theorem State.report_now : s.report.now = s.now := by unfold State.report; split <;> rfl
@[simp] theorem State.report_pending : s.report.pending = s.pending := by unfold State.report; split <;> rfl

/-- The Link Port takes no part in a report. -/
theorem State.report_withLp (l : LinkPort) : ({ s with lp := l }).report = { s.report with lp := l } := by
  unfold State.report; simp only []; split <;> rfl

/-! ### The recomputed values -/

@[simp] theorem State.refresh_lp : s.refresh.lp = s.lp := rfl
@[simp] theorem State.refresh_sp : s.refresh.sp = s.sp := rfl
@[simp] theorem State.refresh_sc : s.refresh.sc = s.sc := rfl
@[simp] theorem State.refresh_cu : s.refresh.cu = s.cu := rfl
@[simp] theorem State.refresh_dr : s.refresh.dr = s.dr := rfl
@[simp] theorem State.refresh_keep : s.refresh.keep = s.keep := rfl
@[simp] theorem State.refresh_face : s.refresh.face = s.face := rfl
@[simp] theorem State.refresh_now : s.refresh.now = s.now := rfl
@[simp] theorem State.refresh_pending : s.refresh.pending = s.pending := rfl
@[simp] theorem State.refresh_voices : s.refresh.se.voices = s.se.voices := rfl
@[simp] theorem State.refresh_layers : s.refresh.ru.layers = s.ru.layers := rfl
@[simp] theorem State.refresh_power : s.refresh.sb.power = s.sb.power := rfl
@[simp] theorem State.refresh_supply : s.refresh.sb.supply = s.sb.supply := rfl
@[simp] theorem State.refresh_latch : s.refresh.au.latch = s.au.latch := rfl

/-- Recomputing twice is recomputing once. -/
@[simp] theorem State.refresh_refresh : s.refresh.refresh = s.refresh := rfl

/-- The Link Port takes no part in the recomputed values. -/
theorem State.refresh_withLp (l : LinkPort) : ({ s with lp := l }).refresh = { s.refresh with lp := l } := rfl

/-! ### The store's service -/

/-- A grant changes at most the fetch in flight and the last voice granted. -/
theorem State.grant_eq : s.grant = { s with sp := { s.sp with fetch := s.grant.sp.fetch, lastVoice := s.grant.sp.lastVoice } } := by
  unfold State.grant State.grantVoice
  repeat' split
  all_goals rfl

/-- A grant is made only while no fetch is in flight (R30). -/
theorem State.grant_of_busy (f : Fetch) (h : s.sp.fetch = some f) : s.grant = s := by
  unfold State.grant; rw [h]

/-- The store's service changes at most the request flags, the fetch in flight and the last voice granted. -/
theorem State.serviceStore_eq :
    s.serviceStore = { s with
      se := { s.se with voices := s.serviceStore.se.voices }
      sp := { s.sp with fetch := s.serviceStore.sp.fetch, lastVoice := s.serviceStore.sp.lastVoice } } := by
  unfold State.serviceStore
  rw [State.grant_eq]
  rfl

@[simp] theorem State.serviceStore_lp : s.serviceStore.lp = s.lp := by rw [State.serviceStore_eq]
@[simp] theorem State.serviceStore_au : s.serviceStore.au = s.au := by rw [State.serviceStore_eq]
@[simp] theorem State.serviceStore_sc : s.serviceStore.sc = s.sc := by rw [State.serviceStore_eq]
@[simp] theorem State.serviceStore_cu : s.serviceStore.cu = s.cu := by rw [State.serviceStore_eq]
@[simp] theorem State.serviceStore_dr : s.serviceStore.dr = s.dr := by rw [State.serviceStore_eq]
@[simp] theorem State.serviceStore_ru : s.serviceStore.ru = s.ru := by rw [State.serviceStore_eq]
@[simp] theorem State.serviceStore_sb : s.serviceStore.sb = s.sb := by rw [State.serviceStore_eq]
@[simp] theorem State.serviceStore_keep : s.serviceStore.keep = s.keep := by rw [State.serviceStore_eq]
@[simp] theorem State.serviceStore_face : s.serviceStore.face = s.face := by rw [State.serviceStore_eq]
@[simp] theorem State.serviceStore_now : s.serviceStore.now = s.now := by rw [State.serviceStore_eq]
@[simp] theorem State.serviceStore_pending : s.serviceStore.pending = s.pending := by rw [State.serviceStore_eq]

/-- The Link Port takes no part in a grant. -/
theorem State.grant_withLp (l : LinkPort) : ({ s with lp := l }).grant = { s.grant with lp := l } := by
  have e1 : ∀ b, State.pickVoice { s with lp := l } b = s.pickVoice b := fun _ => rfl
  have e2 : State.loaderFetch { s with lp := l } = s.loaderFetch := rfl
  have e3 : State.readerFetch { s with lp := l } = s.readerFetch := rfl
  unfold State.grant
  simp only [e1, e2, e3]
  cases s.sp.fetch with
  | some f => rfl
  | none =>
    cases s.sb.power with
    | active =>
      cases s.pickVoice true with
      | some n => rfl
      | none =>
        cases s.loaderFetch with
        | some f => rfl
        | none => cases s.pickVoice false <;> rfl
    | waking => cases s.readerFetch <;> rfl
    | keep => rfl
    | standby => rfl

/-- The Link Port takes no part in the store's service. -/
theorem State.serviceStore_withLp (l : LinkPort) :
    ({ s with lp := l }).serviceStore = { s.serviceStore with lp := l } := by
  have e : State.markRequests { s with lp := l } = { s.markRequests with lp := l } := rfl
  unfold State.serviceStore
  rw [e, State.grant_withLp]
  rfl

/-! ### The passing of time -/

/-- The writes of a format leave everything but the keep domain alone. -/
theorem State.formatWrite_eq (w : KeepWrite) :
    s.formatWrite w = { s with
      keep := (s.formatWrite w).keep, face := (s.formatWrite w).face, cu := (s.formatWrite w).cu
      dr := { (s.formatWrite w).dr with deferred := s.dr.deferred } } := by
  cases w <;> rfl

/-- Several writes of a format leave everything but the keep domain alone. -/
theorem State.formatWrites_eq (ws : List KeepWrite) :
    ws.foldl State.formatWrite s = { s with
      keep := (ws.foldl State.formatWrite s).keep, face := (ws.foldl State.formatWrite s).face
      cu := (ws.foldl State.formatWrite s).cu
      dr := { (ws.foldl State.formatWrite s).dr with deferred := s.dr.deferred } } := by
  induction ws generalizing s with
  | nil => rfl
  | cons w ws ih =>
    rw [List.foldl_cons, ih (s.formatWrite w), State.formatWrite_eq s w]

/-- The closing writes of a format leave everything but the keep domain alone. -/
theorem State.closeFormat_eq (k : FormatKind) :
    s.closeFormat k = { s with
      keep := (s.closeFormat k).keep, face := (s.closeFormat k).face, cu := (s.closeFormat k).cu
      dr := { (s.closeFormat k).dr with deferred := s.dr.deferred } } :=
  State.formatWrites_eq s (closingWrites k s.sp.profile)

/-- A second that falls due on a clock INVALID by then ends nothing (R75, R78). -/
theorem State.endSecond_invalid (mv : Nat) (h : (s.elapseTo s.secondDue).cu.valid = false) :
    s.endSecond mv = s := by
  simp [State.endSecond, h]

/-- With no operation and no format under way, time moves the clock alone. -/
theorem State.elapse_quiet (dt : Nat) (ho : s.sc.op = none) (hf : s.sb.format = none) :
    s.elapse dt = { s with cu := s.cu.count s.now dt, now := s.now + dt } := by
  simp [State.elapse, State.workOn, State.formatOn, ho, hf]

/-- No time to pass changes nothing while no operation and no format is under way but the clock's count of nothing. -/
theorem State.elapse_now (dt : Nat) : (s.elapse dt).now = s.now + dt := rfl

/-! ### The close of an event -/

/-- An event in which no member newly latches or rises wakes nothing and ends no AWAIT. -/
theorem State.attend_quiet (s0 : State) (h : s.report.au.latch &&& ~~~ s0.au.latch = 0) :
    State.attend s0 s = s.report := by
  simp [State.attend, State.wakeBy, State.endAwait, h]
  split <;> rfl

/-- The close of an event that latches nothing, on a state whose conditions are reported. -/
theorem State.conclude_quiet (s0 : State) (hr : s.report = s) (h : s.au.latch &&& ~~~ s0.au.latch = 0) :
    State.conclude s0 s = s.serviceStore.refresh := by
  unfold State.conclude
  rw [State.attend_quiet s s0 (by rw [hr]; exact h), hr]

/-! ### Requests -/

/-- The Link Port as a completed frame leaves it before its reply is held (R172, R176). -/
def LinkPort.idleParser (l : LinkPort) : LinkPort :=
  { l with parser := .hunt, extent := 0, taken := 0, frame := {}, await := none }

/-- Between events, with no reply held, the arrival of a frame changes the Link Port alone. -/
theorem State.arrive_settled (hs : Settled s) (hp : s.sb.power ≠ .standby) (hh : s.lp.held = none) :
    s.arrive = { s with lp := s.lp.idleParser } := by
  obtain ⟨h1, -, h3⟩ := hs
  unfold State.arrive
  simp only [if_neg hp, hh]
  rw [State.report_withLp, h1, State.refresh_withLp, h3]
  simp [LinkPort.idleParser, hh]

/-- Outside KEEP, with no reset pending, a request is the answer of its service after the arrival (R176). -/
theorem request_served (h : ReqHead) (k : Byte) (svc : Service) (hk : s.sb.power ≠ .keep)
    (hr : s.lp.pendingReset = false) :
    request h k svc s = .next (State.answer k h.tag h.extra (readied k svc s.sb.power s.arrive)).concludeRequest := by
  simp [request, State.complete, hk, hr]

/-- A request to a part that is listening is the answer of its service on the state with the parser made idle. -/
theorem request_listening (h : ReqHead) (k : Byte) (svc : Service) (hl : Listening s) :
    request h k svc s = .next
      (State.answer k h.tag h.extra (svc .active { s with lp := s.lp.idleParser })).concludeRequest := by
  obtain ⟨hs, hp, hr, hh⟩ := hl
  rw [request_served s h k svc (by simp [hp]) hr, State.arrive_settled s hs (by simp [hp]) hh]
  simp [readied, hp]

/-- A settled state whose Link Port alone has changed needs nothing at the close of a request. -/
theorem State.concludeRequest_withLp (hs : Settled s) (l : LinkPort) :
    ({ s with lp := l }).concludeRequest = { s with lp := l } := by
  obtain ⟨h1, h2, h3⟩ := hs
  unfold State.concludeRequest
  rw [State.report_withLp, h1, State.serviceStore_withLp, h2, State.refresh_withLp, h3]

/-- A request that its block answers without changing its state leaves the held reply and the idle parser. -/
theorem request_unchanged (h : ReqHead) (k : Byte) (svc : Service) (hl : Listening s) (c : Code) (p : List Byte)
    (ha : svc .active { s with lp := s.lp.idleParser } = ({ s with lp := s.lp.idleParser }, some ⟨c, p⟩)) :
    request h k svc s = .next (answered s k h c p) := by
  rw [request_listening s h k svc hl, ha]
  exact congrArg Host.Outcome.next (State.concludeRequest_withLp s hl.1 _)

/-- No command stops the part. -/
theorem exec_is_next (i : Instr) : ∃ t, exec i s = .next t := by
  cases i <;> exact ⟨_, rfl⟩

end Sys2Proof.Machine
end

