-- ==== Sys2Proof/Laws/State.lean ====
section
/-! SUPPORT. What each named update of the state leaves in each of its fields. -/

namespace Sys2Proof.Machine

set_option Elab.async false

variable (s : State)

@[simp] theorem State.setVoice_lp (n : Nat) (v : Voice) : (s.setVoice n v).lp = s.lp := rfl
@[simp] theorem State.setVoice_au (n : Nat) (v : Voice) : (s.setVoice n v).au = s.au := rfl
@[simp] theorem State.setVoice_se (n : Nat) (v : Voice) : (s.setVoice n v).se = { s.se with voices := s.se.voices.set n v } := rfl
@[simp] theorem State.setVoice_sp (n : Nat) (v : Voice) : (s.setVoice n v).sp = s.sp := rfl
@[simp] theorem State.setVoice_sc (n : Nat) (v : Voice) : (s.setVoice n v).sc = s.sc := rfl
@[simp] theorem State.setVoice_cu (n : Nat) (v : Voice) : (s.setVoice n v).cu = s.cu := rfl
@[simp] theorem State.setVoice_dr (n : Nat) (v : Voice) : (s.setVoice n v).dr = s.dr := rfl
@[simp] theorem State.setVoice_ru (n : Nat) (v : Voice) : (s.setVoice n v).ru = s.ru := rfl
@[simp] theorem State.setVoice_sb (n : Nat) (v : Voice) : (s.setVoice n v).sb = s.sb := rfl
@[simp] theorem State.setVoice_keep (n : Nat) (v : Voice) : (s.setVoice n v).keep = s.keep := rfl
@[simp] theorem State.setVoice_face (n : Nat) (v : Voice) : (s.setVoice n v).face = s.face := rfl
@[simp] theorem State.setVoice_now (n : Nat) (v : Voice) : (s.setVoice n v).now = s.now := rfl
@[simp] theorem State.setVoice_pending (n : Nat) (v : Voice) : (s.setVoice n v).pending = s.pending := rfl

@[simp] theorem State.mapVoices_lp (f : Nat → Voice → Voice) : (s.mapVoices f).lp = s.lp := rfl
@[simp] theorem State.mapVoices_au (f : Nat → Voice → Voice) : (s.mapVoices f).au = s.au := rfl
@[simp] theorem State.mapVoices_se (f : Nat → Voice → Voice) : (s.mapVoices f).se = { s.se with voices := s.se.voices.mapIdx f } := rfl
@[simp] theorem State.mapVoices_sp (f : Nat → Voice → Voice) : (s.mapVoices f).sp = s.sp := rfl
@[simp] theorem State.mapVoices_sc (f : Nat → Voice → Voice) : (s.mapVoices f).sc = s.sc := rfl
@[simp] theorem State.mapVoices_cu (f : Nat → Voice → Voice) : (s.mapVoices f).cu = s.cu := rfl
@[simp] theorem State.mapVoices_dr (f : Nat → Voice → Voice) : (s.mapVoices f).dr = s.dr := rfl
@[simp] theorem State.mapVoices_ru (f : Nat → Voice → Voice) : (s.mapVoices f).ru = s.ru := rfl
@[simp] theorem State.mapVoices_sb (f : Nat → Voice → Voice) : (s.mapVoices f).sb = s.sb := rfl
@[simp] theorem State.mapVoices_keep (f : Nat → Voice → Voice) : (s.mapVoices f).keep = s.keep := rfl
@[simp] theorem State.mapVoices_face (f : Nat → Voice → Voice) : (s.mapVoices f).face = s.face := rfl
@[simp] theorem State.mapVoices_now (f : Nat → Voice → Voice) : (s.mapVoices f).now = s.now := rfl
@[simp] theorem State.mapVoices_pending (f : Nat → Voice → Voice) : (s.mapVoices f).pending = s.pending := rfl

@[simp] theorem State.setLayer_lp (n : Nat) (l : Layer) : (s.setLayer n l).lp = s.lp := rfl
@[simp] theorem State.setLayer_au (n : Nat) (l : Layer) : (s.setLayer n l).au = s.au := rfl
@[simp] theorem State.setLayer_se (n : Nat) (l : Layer) : (s.setLayer n l).se = s.se := rfl
@[simp] theorem State.setLayer_sp (n : Nat) (l : Layer) : (s.setLayer n l).sp = s.sp := rfl
@[simp] theorem State.setLayer_sc (n : Nat) (l : Layer) : (s.setLayer n l).sc = s.sc := rfl
@[simp] theorem State.setLayer_cu (n : Nat) (l : Layer) : (s.setLayer n l).cu = s.cu := rfl
@[simp] theorem State.setLayer_dr (n : Nat) (l : Layer) : (s.setLayer n l).dr = s.dr := rfl
@[simp] theorem State.setLayer_ru (n : Nat) (l : Layer) : (s.setLayer n l).ru = { s.ru with layers := s.ru.layers.set n l } := rfl
@[simp] theorem State.setLayer_sb (n : Nat) (l : Layer) : (s.setLayer n l).sb = s.sb := rfl
@[simp] theorem State.setLayer_keep (n : Nat) (l : Layer) : (s.setLayer n l).keep = s.keep := rfl
@[simp] theorem State.setLayer_face (n : Nat) (l : Layer) : (s.setLayer n l).face = s.face := rfl
@[simp] theorem State.setLayer_now (n : Nat) (l : Layer) : (s.setLayer n l).now = s.now := rfl
@[simp] theorem State.setLayer_pending (n : Nat) (l : Layer) : (s.setLayer n l).pending = s.pending := rfl

@[simp] theorem State.mapLayers_lp (f : Nat → Layer → Layer) : (s.mapLayers f).lp = s.lp := rfl
@[simp] theorem State.mapLayers_au (f : Nat → Layer → Layer) : (s.mapLayers f).au = s.au := rfl
@[simp] theorem State.mapLayers_se (f : Nat → Layer → Layer) : (s.mapLayers f).se = s.se := rfl
@[simp] theorem State.mapLayers_sp (f : Nat → Layer → Layer) : (s.mapLayers f).sp = s.sp := rfl
@[simp] theorem State.mapLayers_sc (f : Nat → Layer → Layer) : (s.mapLayers f).sc = s.sc := rfl
@[simp] theorem State.mapLayers_cu (f : Nat → Layer → Layer) : (s.mapLayers f).cu = s.cu := rfl
@[simp] theorem State.mapLayers_dr (f : Nat → Layer → Layer) : (s.mapLayers f).dr = s.dr := rfl
@[simp] theorem State.mapLayers_ru (f : Nat → Layer → Layer) : (s.mapLayers f).ru = { s.ru with layers := s.ru.layers.mapIdx f } := rfl
@[simp] theorem State.mapLayers_sb (f : Nat → Layer → Layer) : (s.mapLayers f).sb = s.sb := rfl
@[simp] theorem State.mapLayers_keep (f : Nat → Layer → Layer) : (s.mapLayers f).keep = s.keep := rfl
@[simp] theorem State.mapLayers_face (f : Nat → Layer → Layer) : (s.mapLayers f).face = s.face := rfl
@[simp] theorem State.mapLayers_now (f : Nat → Layer → Layer) : (s.mapLayers f).now = s.now := rfl
@[simp] theorem State.mapLayers_pending (f : Nat → Layer → Layer) : (s.mapLayers f).pending = s.pending := rfl

@[simp] theorem State.setCue_lp (n : Nat) (c : Cue) : (s.setCue n c).lp = s.lp := rfl
@[simp] theorem State.setCue_au (n : Nat) (c : Cue) : (s.setCue n c).au = s.au := rfl
@[simp] theorem State.setCue_se (n : Nat) (c : Cue) : (s.setCue n c).se = s.se := rfl
@[simp] theorem State.setCue_sp (n : Nat) (c : Cue) : (s.setCue n c).sp = s.sp := rfl
@[simp] theorem State.setCue_sc (n : Nat) (c : Cue) : (s.setCue n c).sc = s.sc := rfl
@[simp] theorem State.setCue_cu (n : Nat) (c : Cue) : (s.setCue n c).cu = s.cu := rfl
@[simp] theorem State.setCue_dr (n : Nat) (c : Cue) : (s.setCue n c).dr = s.dr := rfl
@[simp] theorem State.setCue_ru (n : Nat) (c : Cue) : (s.setCue n c).ru = { s.ru with cues := s.ru.cues.set n c } := rfl
@[simp] theorem State.setCue_sb (n : Nat) (c : Cue) : (s.setCue n c).sb = s.sb := rfl
@[simp] theorem State.setCue_keep (n : Nat) (c : Cue) : (s.setCue n c).keep = s.keep := rfl
@[simp] theorem State.setCue_face (n : Nat) (c : Cue) : (s.setCue n c).face = s.face := rfl
@[simp] theorem State.setCue_now (n : Nat) (c : Cue) : (s.setCue n c).now = s.now := rfl
@[simp] theorem State.setCue_pending (n : Nat) (c : Cue) : (s.setCue n c).pending = s.pending := rfl

@[simp] theorem State.mapCues_lp (f : Nat → Cue → Cue) : (s.mapCues f).lp = s.lp := rfl
@[simp] theorem State.mapCues_au (f : Nat → Cue → Cue) : (s.mapCues f).au = s.au := rfl
@[simp] theorem State.mapCues_se (f : Nat → Cue → Cue) : (s.mapCues f).se = s.se := rfl
@[simp] theorem State.mapCues_sp (f : Nat → Cue → Cue) : (s.mapCues f).sp = s.sp := rfl
@[simp] theorem State.mapCues_sc (f : Nat → Cue → Cue) : (s.mapCues f).sc = s.sc := rfl
@[simp] theorem State.mapCues_cu (f : Nat → Cue → Cue) : (s.mapCues f).cu = s.cu := rfl
@[simp] theorem State.mapCues_dr (f : Nat → Cue → Cue) : (s.mapCues f).dr = s.dr := rfl
@[simp] theorem State.mapCues_ru (f : Nat → Cue → Cue) : (s.mapCues f).ru = { s.ru with cues := s.ru.cues.mapIdx f } := rfl
@[simp] theorem State.mapCues_sb (f : Nat → Cue → Cue) : (s.mapCues f).sb = s.sb := rfl
@[simp] theorem State.mapCues_keep (f : Nat → Cue → Cue) : (s.mapCues f).keep = s.keep := rfl
@[simp] theorem State.mapCues_face (f : Nat → Cue → Cue) : (s.mapCues f).face = s.face := rfl
@[simp] theorem State.mapCues_now (f : Nat → Cue → Cue) : (s.mapCues f).now = s.now := rfl
@[simp] theorem State.mapCues_pending (f : Nat → Cue → Cue) : (s.mapCues f).pending = s.pending := rfl

@[simp] theorem State.setHost_lp (i : Nat) (p : Option Pattern) : (s.setHost i p).lp = s.lp := rfl
@[simp] theorem State.setHost_au (i : Nat) (p : Option Pattern) : (s.setHost i p).au = s.au := rfl
@[simp] theorem State.setHost_se (i : Nat) (p : Option Pattern) : (s.setHost i p).se = s.se := rfl
@[simp] theorem State.setHost_sp (i : Nat) (p : Option Pattern) : (s.setHost i p).sp = s.sp := rfl
@[simp] theorem State.setHost_sc (i : Nat) (p : Option Pattern) : (s.setHost i p).sc = s.sc := rfl
@[simp] theorem State.setHost_cu (i : Nat) (p : Option Pattern) : (s.setHost i p).cu = s.cu := rfl
@[simp] theorem State.setHost_dr (i : Nat) (p : Option Pattern) : (s.setHost i p).dr = s.dr := rfl
@[simp] theorem State.setHost_ru (i : Nat) (p : Option Pattern) : (s.setHost i p).ru = { s.ru with host := s.ru.host.set (i - 64) p } := rfl
@[simp] theorem State.setHost_sb (i : Nat) (p : Option Pattern) : (s.setHost i p).sb = s.sb := rfl
@[simp] theorem State.setHost_keep (i : Nat) (p : Option Pattern) : (s.setHost i p).keep = s.keep := rfl
@[simp] theorem State.setHost_face (i : Nat) (p : Option Pattern) : (s.setHost i p).face = s.face := rfl
@[simp] theorem State.setHost_now (i : Nat) (p : Option Pattern) : (s.setHost i p).now = s.now := rfl
@[simp] theorem State.setHost_pending (i : Nat) (p : Option Pattern) : (s.setHost i p).pending = s.pending := rfl

@[simp] theorem State.setOp_lp (o : Option KeepOp) : (s.setOp o).lp = s.lp := rfl
@[simp] theorem State.setOp_au (o : Option KeepOp) : (s.setOp o).au = s.au := rfl
@[simp] theorem State.setOp_se (o : Option KeepOp) : (s.setOp o).se = s.se := rfl
@[simp] theorem State.setOp_sp (o : Option KeepOp) : (s.setOp o).sp = s.sp := rfl
@[simp] theorem State.setOp_sc (o : Option KeepOp) : (s.setOp o).sc = { s.sc with op := o } := rfl
@[simp] theorem State.setOp_cu (o : Option KeepOp) : (s.setOp o).cu = s.cu := rfl
@[simp] theorem State.setOp_dr (o : Option KeepOp) : (s.setOp o).dr = s.dr := rfl
@[simp] theorem State.setOp_ru (o : Option KeepOp) : (s.setOp o).ru = s.ru := rfl
@[simp] theorem State.setOp_sb (o : Option KeepOp) : (s.setOp o).sb = s.sb := rfl
@[simp] theorem State.setOp_keep (o : Option KeepOp) : (s.setOp o).keep = s.keep := rfl
@[simp] theorem State.setOp_face (o : Option KeepOp) : (s.setOp o).face = s.face := rfl
@[simp] theorem State.setOp_now (o : Option KeepOp) : (s.setOp o).now = s.now := rfl
@[simp] theorem State.setOp_pending (o : Option KeepOp) : (s.setOp o).pending = s.pending := rfl

@[simp] theorem State.setOpen_lp (o : Option Nat) (m : Nat) : (s.setOpen o m).lp = s.lp := rfl
@[simp] theorem State.setOpen_au (o : Option Nat) (m : Nat) : (s.setOpen o m).au = s.au := rfl
@[simp] theorem State.setOpen_se (o : Option Nat) (m : Nat) : (s.setOpen o m).se = s.se := rfl
@[simp] theorem State.setOpen_sp (o : Option Nat) (m : Nat) : (s.setOpen o m).sp = s.sp := rfl
@[simp] theorem State.setOpen_sc (o : Option Nat) (m : Nat) : (s.setOpen o m).sc = { s.sc with openSlot := o, highMark := m } := rfl
@[simp] theorem State.setOpen_cu (o : Option Nat) (m : Nat) : (s.setOpen o m).cu = s.cu := rfl
@[simp] theorem State.setOpen_dr (o : Option Nat) (m : Nat) : (s.setOpen o m).dr = s.dr := rfl
@[simp] theorem State.setOpen_ru (o : Option Nat) (m : Nat) : (s.setOpen o m).ru = s.ru := rfl
@[simp] theorem State.setOpen_sb (o : Option Nat) (m : Nat) : (s.setOpen o m).sb = s.sb := rfl
@[simp] theorem State.setOpen_keep (o : Option Nat) (m : Nat) : (s.setOpen o m).keep = s.keep := rfl
@[simp] theorem State.setOpen_face (o : Option Nat) (m : Nat) : (s.setOpen o m).face = s.face := rfl
@[simp] theorem State.setOpen_now (o : Option Nat) (m : Nat) : (s.setOpen o m).now = s.now := rfl
@[simp] theorem State.setOpen_pending (o : Option Nat) (m : Nat) : (s.setOpen o m).pending = s.pending := rfl

@[simp] theorem State.keepWrite_lp (a : Nat) (bs : List Byte) : (s.keepWrite a bs).lp = s.lp := rfl
@[simp] theorem State.keepWrite_au (a : Nat) (bs : List Byte) : (s.keepWrite a bs).au = s.au := rfl
@[simp] theorem State.keepWrite_se (a : Nat) (bs : List Byte) : (s.keepWrite a bs).se = s.se := rfl
@[simp] theorem State.keepWrite_sp (a : Nat) (bs : List Byte) : (s.keepWrite a bs).sp = s.sp := rfl
@[simp] theorem State.keepWrite_sc (a : Nat) (bs : List Byte) : (s.keepWrite a bs).sc = s.sc := rfl
@[simp] theorem State.keepWrite_cu (a : Nat) (bs : List Byte) : (s.keepWrite a bs).cu = s.cu := rfl
@[simp] theorem State.keepWrite_dr (a : Nat) (bs : List Byte) : (s.keepWrite a bs).dr = s.dr := rfl
@[simp] theorem State.keepWrite_ru (a : Nat) (bs : List Byte) : (s.keepWrite a bs).ru = s.ru := rfl
@[simp] theorem State.keepWrite_sb (a : Nat) (bs : List Byte) : (s.keepWrite a bs).sb = s.sb := rfl
@[simp] theorem State.keepWrite_keep (a : Nat) (bs : List Byte) : (s.keepWrite a bs).keep = Memory.writeAll s.keep a bs := rfl
@[simp] theorem State.keepWrite_face (a : Nat) (bs : List Byte) : (s.keepWrite a bs).face = s.face := rfl
@[simp] theorem State.keepWrite_now (a : Nat) (bs : List Byte) : (s.keepWrite a bs).now = s.now := rfl
@[simp] theorem State.keepWrite_pending (a : Nat) (bs : List Byte) : (s.keepWrite a bs).pending = s.pending := rfl

@[simp] theorem State.writeShadowHeader_lp (n : Nat) (h : HeaderFields) : (s.writeShadowHeader n h).lp = s.lp := rfl
@[simp] theorem State.writeShadowHeader_au (n : Nat) (h : HeaderFields) : (s.writeShadowHeader n h).au = s.au := rfl
@[simp] theorem State.writeShadowHeader_se (n : Nat) (h : HeaderFields) : (s.writeShadowHeader n h).se = s.se := rfl
@[simp] theorem State.writeShadowHeader_sp (n : Nat) (h : HeaderFields) : (s.writeShadowHeader n h).sp = s.sp := rfl
@[simp] theorem State.writeShadowHeader_sc (n : Nat) (h : HeaderFields) : (s.writeShadowHeader n h).sc = s.sc := rfl
@[simp] theorem State.writeShadowHeader_cu (n : Nat) (h : HeaderFields) : (s.writeShadowHeader n h).cu = s.cu := rfl
@[simp] theorem State.writeShadowHeader_dr (n : Nat) (h : HeaderFields) : (s.writeShadowHeader n h).dr = s.dr := rfl
@[simp] theorem State.writeShadowHeader_ru (n : Nat) (h : HeaderFields) : (s.writeShadowHeader n h).ru = s.ru := rfl
@[simp] theorem State.writeShadowHeader_sb (n : Nat) (h : HeaderFields) : (s.writeShadowHeader n h).sb = s.sb := rfl
@[simp] theorem State.writeShadowHeader_keep (n : Nat) (h : HeaderFields) : (s.writeShadowHeader n h).keep = Memory.writeAll s.keep (s.shadowAddr n) h.bytes := rfl
@[simp] theorem State.writeShadowHeader_face (n : Nat) (h : HeaderFields) : (s.writeShadowHeader n h).face = s.face := rfl
@[simp] theorem State.writeShadowHeader_now (n : Nat) (h : HeaderFields) : (s.writeShadowHeader n h).now = s.now := rfl
@[simp] theorem State.writeShadowHeader_pending (n : Nat) (h : HeaderFields) : (s.writeShadowHeader n h).pending = s.pending := rfl

@[simp] theorem State.raise_lp (m : Member) (g : Details → Details) : (s.raise m g).lp = s.lp := rfl
@[simp] theorem State.raise_au (m : Member) (g : Details → Details) : (s.raise m g).au = s.au.raise m g := rfl
@[simp] theorem State.raise_se (m : Member) (g : Details → Details) : (s.raise m g).se = s.se := rfl
@[simp] theorem State.raise_sp (m : Member) (g : Details → Details) : (s.raise m g).sp = s.sp := rfl
@[simp] theorem State.raise_sc (m : Member) (g : Details → Details) : (s.raise m g).sc = s.sc := rfl
@[simp] theorem State.raise_cu (m : Member) (g : Details → Details) : (s.raise m g).cu = s.cu := rfl
@[simp] theorem State.raise_dr (m : Member) (g : Details → Details) : (s.raise m g).dr = s.dr := rfl
@[simp] theorem State.raise_ru (m : Member) (g : Details → Details) : (s.raise m g).ru = s.ru := rfl
@[simp] theorem State.raise_sb (m : Member) (g : Details → Details) : (s.raise m g).sb = s.sb := rfl
@[simp] theorem State.raise_keep (m : Member) (g : Details → Details) : (s.raise m g).keep = s.keep := rfl
@[simp] theorem State.raise_face (m : Member) (g : Details → Details) : (s.raise m g).face = s.face := rfl
@[simp] theorem State.raise_now (m : Member) (g : Details → Details) : (s.raise m g).now = s.now := rfl
@[simp] theorem State.raise_pending (m : Member) (g : Details → Details) : (s.raise m g).pending = s.pending := rfl

@[simp] theorem State.setPins_lp (a b : Nat) : (s.setPins a b).lp = s.lp := rfl
@[simp] theorem State.setPins_au (a b : Nat) : (s.setPins a b).au = s.au := rfl
@[simp] theorem State.setPins_se (a b : Nat) : (s.setPins a b).se = s.se := rfl
@[simp] theorem State.setPins_sp (a b : Nat) : (s.setPins a b).sp = s.sp := rfl
@[simp] theorem State.setPins_sc (a b : Nat) : (s.setPins a b).sc = s.sc := rfl
@[simp] theorem State.setPins_cu (a b : Nat) : (s.setPins a b).cu = s.cu := rfl
@[simp] theorem State.setPins_dr (a b : Nat) : (s.setPins a b).dr = s.dr := rfl
@[simp] theorem State.setPins_ru (a b : Nat) : (s.setPins a b).ru = s.ru := rfl
@[simp] theorem State.setPins_sb (a b : Nat) : (s.setPins a b).sb = { s.sb with supplyMv := a, cellMv := b } := rfl
@[simp] theorem State.setPins_keep (a b : Nat) : (s.setPins a b).keep = s.keep := rfl
@[simp] theorem State.setPins_face (a b : Nat) : (s.setPins a b).face = s.face := rfl
@[simp] theorem State.setPins_now (a b : Nat) : (s.setPins a b).now = s.now := rfl
@[simp] theorem State.setPins_pending (a b : Nat) : (s.setPins a b).pending = s.pending := rfl

@[simp] theorem State.setClass_lp (c : SupplyClass) : (s.setClass c).lp = s.lp := rfl
@[simp] theorem State.setClass_au (c : SupplyClass) : (s.setClass c).au = s.au := rfl
@[simp] theorem State.setClass_se (c : SupplyClass) : (s.setClass c).se = s.se := rfl
@[simp] theorem State.setClass_sp (c : SupplyClass) : (s.setClass c).sp = s.sp := rfl
@[simp] theorem State.setClass_sc (c : SupplyClass) : (s.setClass c).sc = s.sc := rfl
@[simp] theorem State.setClass_cu (c : SupplyClass) : (s.setClass c).cu = s.cu := rfl
@[simp] theorem State.setClass_dr (c : SupplyClass) : (s.setClass c).dr = s.dr := rfl
@[simp] theorem State.setClass_ru (c : SupplyClass) : (s.setClass c).ru = s.ru := rfl
@[simp] theorem State.setClass_sb (c : SupplyClass) : (s.setClass c).sb = { s.sb with supply := c } := rfl
@[simp] theorem State.setClass_keep (c : SupplyClass) : (s.setClass c).keep = s.keep := rfl
@[simp] theorem State.setClass_face (c : SupplyClass) : (s.setClass c).face = s.face := rfl
@[simp] theorem State.setClass_now (c : SupplyClass) : (s.setClass c).now = s.now := rfl
@[simp] theorem State.setClass_pending (c : SupplyClass) : (s.setClass c).pending = s.pending := rfl

@[simp] theorem State.beginStage_lp (n : Nat) : (s.beginStage n).lp = s.lp := rfl
@[simp] theorem State.beginStage_au (n : Nat) : (s.beginStage n).au = s.au := rfl
@[simp] theorem State.beginStage_se (n : Nat) : (s.beginStage n).se = s.se := rfl
@[simp] theorem State.beginStage_sp (n : Nat) : (s.beginStage n).sp = s.sp := rfl
@[simp] theorem State.beginStage_sc (n : Nat) : (s.beginStage n).sc = s.sc := rfl
@[simp] theorem State.beginStage_cu (n : Nat) : (s.beginStage n).cu = s.cu := rfl
@[simp] theorem State.beginStage_dr (n : Nat) : (s.beginStage n).dr = s.dr := rfl
@[simp] theorem State.beginStage_ru (n : Nat) : (s.beginStage n).ru = s.ru := rfl
@[simp] theorem State.beginStage_sb (n : Nat) : (s.beginStage n).sb = { s.sb with stage := n, stageStart := s.now } := rfl
@[simp] theorem State.beginStage_keep (n : Nat) : (s.beginStage n).keep = s.keep := rfl
@[simp] theorem State.beginStage_face (n : Nat) : (s.beginStage n).face = s.face := rfl
@[simp] theorem State.beginStage_now (n : Nat) : (s.beginStage n).now = s.now := rfl
@[simp] theorem State.beginStage_pending (n : Nat) : (s.beginStage n).pending = s.pending := rfl

@[simp] theorem State.beginScrub_lp (n : Nat) : (s.beginScrub n).lp = s.lp := rfl
@[simp] theorem State.beginScrub_au (n : Nat) : (s.beginScrub n).au = s.au := rfl
@[simp] theorem State.beginScrub_se (n : Nat) : (s.beginScrub n).se = s.se := rfl
@[simp] theorem State.beginScrub_sp (n : Nat) : (s.beginScrub n).sp = s.sp := rfl
@[simp] theorem State.beginScrub_sc (n : Nat) : (s.beginScrub n).sc = s.sc := rfl
@[simp] theorem State.beginScrub_cu (n : Nat) : (s.beginScrub n).cu = s.cu := rfl
@[simp] theorem State.beginScrub_dr (n : Nat) : (s.beginScrub n).dr = s.dr := rfl
@[simp] theorem State.beginScrub_ru (n : Nat) : (s.beginScrub n).ru = s.ru := rfl
@[simp] theorem State.beginScrub_sb (n : Nat) : (s.beginScrub n).sb = { s.sb with scrubSlot := n, stageStart := s.now } := rfl
@[simp] theorem State.beginScrub_keep (n : Nat) : (s.beginScrub n).keep = s.keep := rfl
@[simp] theorem State.beginScrub_face (n : Nat) : (s.beginScrub n).face = s.face := rfl
@[simp] theorem State.beginScrub_now (n : Nat) : (s.beginScrub n).now = s.now := rfl
@[simp] theorem State.beginScrub_pending (n : Nat) : (s.beginScrub n).pending = s.pending := rfl

@[simp] theorem State.measureCell_lp : (s.measureCell).lp = s.lp := rfl
@[simp] theorem State.measureCell_au : (s.measureCell).au = s.au := rfl
@[simp] theorem State.measureCell_se : (s.measureCell).se = s.se := rfl
@[simp] theorem State.measureCell_sp : (s.measureCell).sp = s.sp := rfl
@[simp] theorem State.measureCell_sc : (s.measureCell).sc = s.sc := rfl
@[simp] theorem State.measureCell_cu : (s.measureCell).cu = s.cu := rfl
@[simp] theorem State.measureCell_dr : (s.measureCell).dr = s.dr := rfl
@[simp] theorem State.measureCell_ru : (s.measureCell).ru = s.ru := rfl
@[simp] theorem State.measureCell_sb : (s.measureCell).sb = { s.sb with cell := measuredClass s.sb.cell s.sb.cellMv } := rfl
@[simp] theorem State.measureCell_keep : (s.measureCell).keep = s.keep := rfl
@[simp] theorem State.measureCell_face : (s.measureCell).face = s.face := rfl
@[simp] theorem State.measureCell_now : (s.measureCell).now = s.now := rfl
@[simp] theorem State.measureCell_pending : (s.measureCell).pending = s.pending := rfl

@[simp] theorem State.consume_lp (ms : MemberSet) : (s.consume ms).lp = s.lp := rfl
@[simp] theorem State.consume_au (ms : MemberSet) : (s.consume ms).au = s.au.clearSet ms := rfl
@[simp] theorem State.consume_se (ms : MemberSet) : (s.consume ms).se = s.se := rfl
@[simp] theorem State.consume_sp (ms : MemberSet) : (s.consume ms).sp = s.sp := rfl
@[simp] theorem State.consume_sc (ms : MemberSet) : (s.consume ms).sc = s.sc := rfl
@[simp] theorem State.consume_cu (ms : MemberSet) : (s.consume ms).cu = s.cu := rfl
@[simp] theorem State.consume_dr (ms : MemberSet) : (s.consume ms).dr = s.dr := rfl
@[simp] theorem State.consume_ru (ms : MemberSet) : (s.consume ms).ru = s.ru := rfl
@[simp] theorem State.consume_sb (ms : MemberSet) : (s.consume ms).sb = s.sb := rfl
@[simp] theorem State.consume_keep (ms : MemberSet) : (s.consume ms).keep = s.keep := rfl
@[simp] theorem State.consume_face (ms : MemberSet) : (s.consume ms).face = s.face := rfl
@[simp] theorem State.consume_now (ms : MemberSet) : (s.consume ms).now = s.now := rfl
@[simp] theorem State.consume_pending (ms : MemberSet) : (s.consume ms).pending = s.pending := rfl

@[simp] theorem State.setWatch_lp (ms : MemberSet) : (s.setWatch ms).lp = s.lp := rfl
@[simp] theorem State.setWatch_au (ms : MemberSet) : (s.setWatch ms).au = { s.au with watch := ms } := rfl
@[simp] theorem State.setWatch_se (ms : MemberSet) : (s.setWatch ms).se = s.se := rfl
@[simp] theorem State.setWatch_sp (ms : MemberSet) : (s.setWatch ms).sp = s.sp := rfl
@[simp] theorem State.setWatch_sc (ms : MemberSet) : (s.setWatch ms).sc = s.sc := rfl
@[simp] theorem State.setWatch_cu (ms : MemberSet) : (s.setWatch ms).cu = s.cu := rfl
@[simp] theorem State.setWatch_dr (ms : MemberSet) : (s.setWatch ms).dr = s.dr := rfl
@[simp] theorem State.setWatch_ru (ms : MemberSet) : (s.setWatch ms).ru = s.ru := rfl
@[simp] theorem State.setWatch_sb (ms : MemberSet) : (s.setWatch ms).sb = s.sb := rfl
@[simp] theorem State.setWatch_keep (ms : MemberSet) : (s.setWatch ms).keep = s.keep := rfl
@[simp] theorem State.setWatch_face (ms : MemberSet) : (s.setWatch ms).face = s.face := rfl
@[simp] theorem State.setWatch_now (ms : MemberSet) : (s.setWatch ms).now = s.now := rfl
@[simp] theorem State.setWatch_pending (ms : MemberSet) : (s.setWatch ms).pending = s.pending := rfl

@[simp] theorem State.holdReply_lp (k t : Byte) (e : Bool) (r : Reply) : (s.holdReply k t e r).lp = { s.lp with held := some (replyFrame k t (r.code.withExtra e) r.payload), outgoing := false, sent := 0 } := rfl
@[simp] theorem State.holdReply_au (k t : Byte) (e : Bool) (r : Reply) : (s.holdReply k t e r).au = s.au := rfl
@[simp] theorem State.holdReply_se (k t : Byte) (e : Bool) (r : Reply) : (s.holdReply k t e r).se = s.se := rfl
@[simp] theorem State.holdReply_sp (k t : Byte) (e : Bool) (r : Reply) : (s.holdReply k t e r).sp = s.sp := rfl
@[simp] theorem State.holdReply_sc (k t : Byte) (e : Bool) (r : Reply) : (s.holdReply k t e r).sc = s.sc := rfl
@[simp] theorem State.holdReply_cu (k t : Byte) (e : Bool) (r : Reply) : (s.holdReply k t e r).cu = s.cu := rfl
@[simp] theorem State.holdReply_dr (k t : Byte) (e : Bool) (r : Reply) : (s.holdReply k t e r).dr = s.dr := rfl
@[simp] theorem State.holdReply_ru (k t : Byte) (e : Bool) (r : Reply) : (s.holdReply k t e r).ru = s.ru := rfl
@[simp] theorem State.holdReply_sb (k t : Byte) (e : Bool) (r : Reply) : (s.holdReply k t e r).sb = s.sb := rfl
@[simp] theorem State.holdReply_keep (k t : Byte) (e : Bool) (r : Reply) : (s.holdReply k t e r).keep = s.keep := rfl
@[simp] theorem State.holdReply_face (k t : Byte) (e : Bool) (r : Reply) : (s.holdReply k t e r).face = s.face := rfl
@[simp] theorem State.holdReply_now (k t : Byte) (e : Bool) (r : Reply) : (s.holdReply k t e r).now = s.now := rfl
@[simp] theorem State.holdReply_pending (k t : Byte) (e : Bool) (r : Reply) : (s.holdReply k t e r).pending = s.pending := rfl

@[simp] theorem State.holdAwait_lp (h : ReqHead) (ms : MemberSet) (l : Nat) : (s.holdAwait h ms l).lp = { s.lp with await := some (heldAwait h ms l s.now) } := rfl
@[simp] theorem State.holdAwait_au (h : ReqHead) (ms : MemberSet) (l : Nat) : (s.holdAwait h ms l).au = s.au := rfl
@[simp] theorem State.holdAwait_se (h : ReqHead) (ms : MemberSet) (l : Nat) : (s.holdAwait h ms l).se = s.se := rfl
@[simp] theorem State.holdAwait_sp (h : ReqHead) (ms : MemberSet) (l : Nat) : (s.holdAwait h ms l).sp = s.sp := rfl
@[simp] theorem State.holdAwait_sc (h : ReqHead) (ms : MemberSet) (l : Nat) : (s.holdAwait h ms l).sc = s.sc := rfl
@[simp] theorem State.holdAwait_cu (h : ReqHead) (ms : MemberSet) (l : Nat) : (s.holdAwait h ms l).cu = s.cu := rfl
@[simp] theorem State.holdAwait_dr (h : ReqHead) (ms : MemberSet) (l : Nat) : (s.holdAwait h ms l).dr = s.dr := rfl
@[simp] theorem State.holdAwait_ru (h : ReqHead) (ms : MemberSet) (l : Nat) : (s.holdAwait h ms l).ru = s.ru := rfl
@[simp] theorem State.holdAwait_sb (h : ReqHead) (ms : MemberSet) (l : Nat) : (s.holdAwait h ms l).sb = s.sb := rfl
@[simp] theorem State.holdAwait_keep (h : ReqHead) (ms : MemberSet) (l : Nat) : (s.holdAwait h ms l).keep = s.keep := rfl
@[simp] theorem State.holdAwait_face (h : ReqHead) (ms : MemberSet) (l : Nat) : (s.holdAwait h ms l).face = s.face := rfl
@[simp] theorem State.holdAwait_now (h : ReqHead) (ms : MemberSet) (l : Nat) : (s.holdAwait h ms l).now = s.now := rfl
@[simp] theorem State.holdAwait_pending (h : ReqHead) (ms : MemberSet) (l : Nat) : (s.holdAwait h ms l).pending = s.pending := rfl

@[simp] theorem State.pendReset_lp : (s.pendReset).lp = { s.lp with pendingReset := true } := rfl
@[simp] theorem State.pendReset_au : (s.pendReset).au = s.au := rfl
@[simp] theorem State.pendReset_se : (s.pendReset).se = s.se := rfl
@[simp] theorem State.pendReset_sp : (s.pendReset).sp = s.sp := rfl
@[simp] theorem State.pendReset_sc : (s.pendReset).sc = s.sc := rfl
@[simp] theorem State.pendReset_cu : (s.pendReset).cu = s.cu := rfl
@[simp] theorem State.pendReset_dr : (s.pendReset).dr = s.dr := rfl
@[simp] theorem State.pendReset_ru : (s.pendReset).ru = s.ru := rfl
@[simp] theorem State.pendReset_sb : (s.pendReset).sb = s.sb := rfl
@[simp] theorem State.pendReset_keep : (s.pendReset).keep = s.keep := rfl
@[simp] theorem State.pendReset_face : (s.pendReset).face = s.face := rfl
@[simp] theorem State.pendReset_now : (s.pendReset).now = s.now := rfl
@[simp] theorem State.pendReset_pending : (s.pendReset).pending = s.pending := rfl

@[simp] theorem State.dropFired_lp (n : Nat) : (s.dropFired n).lp = s.lp := rfl
@[simp] theorem State.dropFired_au (n : Nat) : (s.dropFired n).au = s.au := rfl
@[simp] theorem State.dropFired_se (n : Nat) : (s.dropFired n).se = s.se := rfl
@[simp] theorem State.dropFired_sp (n : Nat) : (s.dropFired n).sp = s.sp := rfl
@[simp] theorem State.dropFired_sc (n : Nat) : (s.dropFired n).sc = s.sc := rfl
@[simp] theorem State.dropFired_cu (n : Nat) : (s.dropFired n).cu = s.cu := rfl
@[simp] theorem State.dropFired_dr (n : Nat) : (s.dropFired n).dr = { s.dr with fired := s.dr.fired.drop n } := rfl
@[simp] theorem State.dropFired_ru (n : Nat) : (s.dropFired n).ru = s.ru := rfl
@[simp] theorem State.dropFired_sb (n : Nat) : (s.dropFired n).sb = s.sb := rfl
@[simp] theorem State.dropFired_keep (n : Nat) : (s.dropFired n).keep = s.keep := rfl
@[simp] theorem State.dropFired_face (n : Nat) : (s.dropFired n).face = s.face := rfl
@[simp] theorem State.dropFired_now (n : Nat) : (s.dropFired n).now = s.now := rfl
@[simp] theorem State.dropFired_pending (n : Nat) : (s.dropFired n).pending = s.pending := rfl

@[simp] theorem State.syncConditions_lp : (s.syncConditions).lp = s.lp := rfl
@[simp] theorem State.syncConditions_se : (s.syncConditions).se = s.se := rfl
@[simp] theorem State.syncConditions_sp : (s.syncConditions).sp = s.sp := rfl
@[simp] theorem State.syncConditions_sc : (s.syncConditions).sc = s.sc := rfl
@[simp] theorem State.syncConditions_cu : (s.syncConditions).cu = s.cu := rfl
@[simp] theorem State.syncConditions_dr : (s.syncConditions).dr = s.dr := rfl
@[simp] theorem State.syncConditions_ru : (s.syncConditions).ru = s.ru := rfl
@[simp] theorem State.syncConditions_sb : (s.syncConditions).sb = s.sb := rfl
@[simp] theorem State.syncConditions_keep : (s.syncConditions).keep = s.keep := rfl
@[simp] theorem State.syncConditions_face : (s.syncConditions).face = s.face := rfl
@[simp] theorem State.syncConditions_now : (s.syncConditions).now = s.now := rfl
@[simp] theorem State.syncConditions_pending : (s.syncConditions).pending = s.pending := rfl

end Sys2Proof.Machine
end

