-- ==== Sys2Proof/Tests/Slice0.lean ====
section
/-! SUPPORT. Tests on small states, one step each, and for every statement a state and operands that meet its
hypotheses (`witness_…`). Expected values are the spec's (its rule or worked example is named). -/

namespace Sys2Proof.Tests

set_option Elab.async false

open Sys2Proof Sys2Proof.Machine Sys2Proof.Safety

/-! ### States and readings -/

/-- The closing of an event: conditions, store port, recomputed values. -/
def settle (s : State) : State := s.report.serviceStore.refresh

/-- ACTIVE on a good supply, one slot of 8,192 bytes, the clock VALID. -/
def base : State := { State.reset with
  sb := { power := .active, supply := .normal, supplyMv := 3300, stage := 11, profileStatus := .fromStore }
  sc := { slots := [.empty] }
  cu := { seconds := 769000000, valid := true }
  dr := { g := 426, l := 8901, forfeited := 7 }
  se := { nextBoundary := 15625 } }

def live : State := settle base

/-- A request's tag. -/
def tag : ReqHead := ⟨9, false⟩

/-- The reply frame held after a step. -/
def reply (r : Result) : List Byte :=
  match r with
  | .next t => t.lp.held.getD []
  | _ => []

/-- The outcome byte of the reply held after a step (R173: the fifth byte). -/
def code (r : Result) : Byte := byteAt (reply r) 4

/-- Whether the state after a step meets a condition. -/
def after (r : Result) (p : State → Bool) : Bool :=
  match r with
  | .next t => p t
  | _ => false

/-! ### Operands' shape -/

theorem test_slotWrite_count_refused : (Instr.slotWrite tag 1 0 3 [1, 2]).wellFormed = false := by decide
theorem test_slotWrite_formed : (Instr.slotWrite tag 1 0 2 [1, 2]).wellFormed = true := by decide
theorem test_pattern_steps_refused : (Instr.patternDefine tag ⟨64, 1, 0, 0, 0, []⟩).wellFormed = false := by decide
theorem test_fetch_empty_refused : (Instr.fetchCompletion [] 3000).wellFormed = false := by decide
theorem test_fetch_long_refused : (Instr.fetchCompletion (List.replicate 33 0) 3000).wellFormed = false := by decide
theorem test_primingLimit_voice_refused : (Instr.primingLimit 8).wellFormed = false := by decide
theorem test_layerStepEnd_layer_refused : (Instr.layerStepEnd 3).wellFormed = false := by decide
theorem test_powerLost_voltage_refused : (Instr.consolePowerLost 2500).wellFormed = false := by decide
theorem test_powerReturn_voltage_refused : (Instr.consolePowerReturn 2499).wellFormed = false := by decide
theorem test_no_table_bits : decodeTableWord 32 5 = none := by decide

/-! ### The spec's check values and worked examples -/

/-- R193. -/
def digits : List Byte := [0x31, 0x32, 0x33, 0x34, 0x35, 0x36, 0x37, 0x38, 0x39]

theorem test_crc16_check : crc16 digits = 0x29B1 ∧ crc16 [] = 0xFFFF := by decide +kernel
theorem test_crc8_check : crc8 digits = 0xF4 ∧ crc8 [] = 0 := by decide +kernel

/-- Chapter 4, the worked sets: 2031-02-28 12:00:00 and its count. -/
theorem test_seconds_of_set : secondsOf 2031 2 28 12 0 0 = 983361600 := by decide
theorem test_civil_of_held : civilOf 983404900 = civilOf (secondsOf 2031 3 1 0 1 40) := by decide
/-- A voice that plays from the ring bytes given. -/
def sounding (format : SampleFormat) (gain : Int) (ring : List Byte) : Voice :=
  { state := .playing, format := format, length := 300, gain := gain, ring := ring }

/-- Chapter 1, "one output sample from two voices": code 3,135, and under WARN 2,592. -/
theorem test_two_voices :
    let vs := [{ sounding .pcm8 24576 [0x80, 64] with posFrac := 0x4000 }, sounding .pcm16 (-32768) [0, 0x80, 0, 0x80]];
    (renderSample 32767 { voices := vs, report := [], pairs := 0, clipped := false, codes := [] } 0).codes = [3135]
      ∧ (renderSample 16384 { voices := vs, report := [], pairs := 0, clipped := false, codes := [] } 0).codes = [2592]
      ∧ mixedAt vs 32767 0 = 17406 ∧ mixedAt vs 16384 0 = 8704 := by decide +kernel

/-- Chapter 1, "an advance across the loop end": from 118.75 by 2.5 to 101.25, crossing marker 0 and then marker 1. -/
theorem test_loop_advance :
    let v := { sounding .pcm16 16384 (List.replicate 40 0) with
      length := 200, loopStart := 100, loopLength := 20, step := 163840, posInt := 118, posFrac := 0xC000
      marker0 := some ⟨120, true⟩, marker1 := some ⟨100, true⟩ };
    v.afterSample = { v with posInt := 101, posFrac := 0x4000, ring := List.replicate 34 0 }
      ∧ nextSample v = v.afterSample ∧ v.crossed.map (·.1) = [0, 1] ∧ (crossesMarkers v).map (·.1) = [0, 1] := by
  decide +kernel

theorem test_civil_held_fields :
    let c := civilOf 983404900
    (c.year, c.month, c.day, c.hour, c.minute, c.second) = (2031, 3, 1, 0, 1, 40) := by decide

/-- Chapter 4: a nudge of -3,600 from 983,408,500. -/
theorem test_nudge_example :
    after (exec (.clockNudge tag (-3600)) { live with cu := { live.cu with seconds := 983408500 } })
      (fun t => t.cu.seconds == 983404900 && t.dr.rewind == 3600 && Member.clockRewound.isIn t.au.latch) = true := by
  decide

/-- Chapter 4: the set from INVALID is a RESTART that credits nothing. -/
theorem test_set_from_invalid :
    after (exec (.clockSet tag 2031 2 28 12 0 0) { live with
        cu := { seconds := 983404900 }, dr := { live.dr with rewind := 3600 } })
      (fun t => t.cu.seconds == 983361600 && t.cu.valid && t.dr.rewind == 46900 && t.dr.g == 426) = true := by decide

/-! ### The step and the Link Port -/

theorem witness_StepRunsFrontCommand : ({ live with pending := [.windowOpen] } : State).pending = .windowOpen :: [] := by
  decide

/-- `live` with the Link Port as given. -/
def linked (lp : LinkPort) : State := { live with lp := lp }

/-- A reply of six bytes. -/
def sixBytes : List Byte := replyFrame Kind.watchSet 9 .range []

theorem witness_WindowsOpenAndClose :
    Settled live ∧ live.sb.power ≠ .keep ∧ live.lp.window = false
      ∧ (let s := linked { window := true }; Settled s ∧ s.lp.window = true ∧ s.lp.outgoing = false ∧ s.lp.parser = .hunt)
      ∧ (let s := linked { window := true, parser := .frame, taken := 1, pendingReset := true };
        Settled s ∧ ¬ (s.lp.outgoing = true ∧ s.lp.pendingReset = true) ∧ s.lp.parser = .frame
          ∧ s.sb.power = .active ∧ s.lp.await = none) := by
  decide +kernel

theorem witness_ByteTransfersParse :
    (let s := linked { window := true };
      s.lp.window = true ∧ s.lp.outgoing = false ∧ s.lp.parser = .hunt)
    ∧ (∀ n ∈ [1, 2, 3, 4], let s := linked { window := true, parser := .frame, taken := n, extent := 8 };
      s.lp.window = true ∧ s.lp.outgoing = false ∧ s.lp.parser = .frame ∧ s.lp.taken = n ∧ s.lp.taken + 1 ≠ s.lp.extent)
    ∧ (∀ n ∈ [0, 4, 5], let s := linked { window := true, held := some sixBytes, outgoing := true, sent := n };
      s.lp.outgoing = true ∧ s.lp.held = some sixBytes ∧ s.lp.parser = .hunt ∧ (0 : Byte) ≠ 0x6E
        ∧ s.lp.pendingReset = false ∧ (s.lp.sent + 1 < sixBytes.length ∨ n = 5 ∧ s.lp.sent + 1 = sixBytes.length)) := by
  decide +kernel

/-- A frame of length `n` and a kind at its check byte, its payload the bytes given. -/
def framed (n kind : Byte) (payload : List Byte) : State :=
  linked { window := true, parser := .frame, taken := 4 + payload.length, extent := 5 + payload.length
           frame := { length := n, kind := kind, tag := 3, payload := payload } }

theorem witness_BadFramesAreAnswered :
    (∀ s ∈ [framed 249 Kind.hello [], framed 248 Kind.hello [], framed 0 0xEE [], framed 2 Kind.reasonsTake [2, 0],
        framed 6 Kind.voiceStop [0, 0, 0, 2, 0, 0]],
      Listening s ∧ s.lp.window = true ∧ s.lp.parser = .frame ∧ 4 ≤ s.lp.taken ∧ s.lp.taken + 1 = s.lp.extent)
    ∧ 248 < (249 : Byte).toNat ∧ (248 : Byte).toNat ≤ 248 ∧ crc8 [248, Kind.hello, 3] ≠ 0
    ∧ neededLength 0xEE [] = none ∧ 1 < (byteAt [2, 0] 0).toNat ∧ 1 < (byteAt [0, 0, 0, 2, 0, 0] 3).toNat := by
  decide +kernel

/-- R174: the length is checked before the check byte, and the check byte before the kind. -/
theorem test_frame_outcomes :
    code (exec (.frameCompletion 0) (framed 249 0xEE [])) = 0x11
      ∧ code (exec (.frameCompletion 0) (framed 0 0xEE [])) = 0x10
      ∧ code (exec (.frameCompletion (crc8 [0, 0xEE, 3])) (framed 0 0xEE [])) = 0x12 := by decide +kernel

theorem witness_FrameRunsItsRequest :
    ∀ x ∈ [(Instr.hello tag, ([] : List Byte)), (.hello ⟨9, true⟩, List.replicate 248 0),
        (.slotWrite ⟨9, true⟩ 1 0 2 [7, 8], [1])],
      ∃ h ∈ [tag, ⟨9, true⟩], ∃ k ∈ [Kind.hello, Kind.slotWrite], ∃ p ∈ [[], [1, 0, 0, 2, 7, 8]],
        encodeRequest x.1 = some (h, k, p) ∧ x.1.wellFormed = true ∧ h.extra = !x.2.isEmpty
          ∧ p.length + x.2.length ≤ 248
          ∧ (let s := linked { window := true };
            s.sb.power ≠ .keep ∧ s.lp.pendingReset = false ∧ s.lp.window = true ∧ s.lp.parser = .hunt
              ∧ s.lp.held = none ∧ s.lp.outgoing = false) := by
  decide +kernel

theorem witness_RequestDecodesBack :
    (Instr.patternDefine tag ⟨64, 1, 0, 0, 5, [⟨200, 3, 1⟩]⟩).wellFormed = true
      ∧ encodeRequest (.patternDefine tag ⟨64, 1, 0, 0, 5, [⟨200, 3, 1⟩]⟩)
        = some (tag, Kind.patternDefine, [64, 1, 0, 0, 5, 200, 3, 1]) := by decide +kernel

/-! ### Requests in general -/

/-- The part at the entry to WAKING. -/
def waking : State := State.reset

/-- WAKING in a stage, on a good supply. -/
def stageOf (n : Nat) : State :=
  settle { waking with sb := { waking.sb with stage := n, supply := .normal, supplyMv := 3300, scrubSlot := 1 } }

/-- `base` in STANDBY. -/
def standing : State := settle { base with sb := { base.sb with power := .standby } }

theorem witness_NotReadyInWaking :
    encodeRequest (.clockRead tag) = some (tag, Kind.clockRead, []) ∧ Instr.clockRead tag ≠ .hello tag
      ∧ Settled waking ∧ waking.sb.power = .waking ∧ waking.lp.pendingReset = false ∧ waking.lp.held = none := by
  decide +kernel

theorem test_hello_in_waking : code (exec (.hello tag) waking) = 0x00 ∧ code (exec (.clockRead tag) waking) = 0x13 := by
  decide +kernel

theorem witness_RequestWakesStandby :
    encodeRequest (.clockRead tag) = some (tag, Kind.clockRead, []) ∧ Instr.clockRead tag ≠ .resetActive tag
      ∧ Instr.clockRead tag ≠ .budgetRead tag ∧ standing.sb.power = .standby ∧ standing.lp.pendingReset = false := by
  decide +kernel

theorem witness_UncollectedReplyIsLost :
    (let s := linked { held := some sixBytes }; s.sb.power ≠ .keep ∧ s.lp.held = some sixBytes)
      ∧ encodeRequest (.hello tag) = some (tag, Kind.hello, []) := by decide +kernel

theorem witness_ResetActiveIsMade :
    Listening live
      ∧ (let s := linked { window := true, held := some sixBytes, outgoing := true, sent := 5, pendingReset := true };
        s.lp.pendingReset = true ∧ s.sb.power ≠ .keep ∧ s.lp.window = true ∧ s.lp.outgoing = true
          ∧ s.lp.held = some sixBytes ∧ s.lp.sent + 1 = sixBytes.length)
      ∧ (let s := linked { window := true, parser := .frame, taken := 4, extent := 5, pendingReset := true };
        s.lp.pendingReset = true ∧ s.sb.power ≠ .keep ∧ s.lp.outgoing = false ∧ s.lp.taken + 1 = s.lp.extent) := by
  decide +kernel

theorem witness_RefusalChangesNothing :
    Listening live ∧ encodeRequest (.slotErase tag 0) = some (tag, Kind.slotErase, [0])
      ∧ code (exec (.slotErase tag 0) live) = 0x20
      ∧ (let s := { live with cu := { live.cu with valid := false } };
        Listening (settle s) ∧ code (exec (.clockNudge tag 0) (settle s)) = 0x31) := by decide +kernel

theorem witness_QueriesChangeNothing :
    Listening live
      ∧ ∀ x ∈ [(Instr.hello tag, Kind.hello), (.watchRead tag, Kind.watchRead), (.slotList tag, Kind.slotList),
          (.clockRead tag, Kind.clockRead), (.daysRead tag, Kind.daysRead), (.rumbleQuery tag, Kind.rumbleQuery),
          (.budgetRead tag, Kind.budgetRead)], encodeRequest x.1 = some (tag, x.2, []) := by decide +kernel

/-- R164, R165, R189: the SUMMARY form too refuses group bits 6 and 7. -/
theorem test_summary_groups :
    code (exec (.reasonsTakeSummary tag 0x3F) live) = 0x00 ∧ code (exec (.reasonsTakeSummary tag 0x40) live) = 0x20 := by
  decide +kernel

/-- R178: the part code, the revision, ACTIVE, stage 0, FROM_STORE and the capacities at the end. -/
theorem test_hello_fields :
    ((reply (exec (.hello tag) live)).drop 5).take 6 = [0x40, 0x03, 0x01, 1, 0, 1]
      ∧ ((reply (exec (.hello tag) live)).drop 19).take 6 = [8, 1, 3, 4, 32, 16] := by decide +kernel

/-- R150: base draw 12 and no share: available 48, base ceiling 48 * 255 / 90. -/
theorem test_ceiling_at_default : live.sb.m = 136 ∧ live.sb.u = 0 ∧ live.sb.w = 0 := by decide +kernel

/-! ### The Attention Unit -/

/-- MARKER (bit 2) latched. -/
def noticed : State :=
  settle { base with au := { base.au with latch := 0x000004, details := { base.au.details with marker := 5 } } }

theorem witness_WatchSetMovesAttn :
    Listening live ∧ (0x400000 : Triple).getLsbD 22 = true ∧ (0x800000 : Triple).getLsbD 23 = true
      ∧ (0x3FFFFF : Triple).getLsbD 22 = false ∧ (0x3FFFFF : Triple).getLsbD 23 = false := by decide +kernel

theorem test_watch_asserts_attn :
    after (exec (.watchSet tag 4) noticed) (fun t => t.au.attn) = true
      ∧ after (exec (.watchSet tag 8) noticed) (fun t => t.au.attn) = false := by decide +kernel

theorem witness_ReasonsAreTaken :
    Listening noticed ∧ (0x40 : Byte).getLsbD 6 = true ∧ (0x80 : Byte).getLsbD 7 = true
      ∧ (0x3F : Byte).getLsbD 6 = false ∧ (0x3F : Byte).getLsbD 7 = false := by decide +kernel

theorem witness_AwaitAnswersOrHolds :
    Listening noticed ∧ (0x400000 : Triple).getLsbD 22 = true
      ∧ ((4 : Triple).setWidth 22 : MemberSet) &&& (noticed.au.latch ||| noticed.au.level) ≠ 0
      ∧ ((8 : Triple).setWidth 22 : MemberSet) &&& (noticed.au.latch ||| noticed.au.level) = 0 := by decide +kernel

/-- A held AWAIT for CLOCK_INVALID (bit 11). -/
def waiting (members : MemberSet) : PendingAwait :=
  { members := members, arrival := 0, expiry := 8000, tag := 3, extra := false }

theorem witness_AwaitExpires :
    let s := linked { await := some (waiting 0x000800) };
    Settled s ∧ Quiet s ∧ s.lp.await = some (waiting 0x000800) ∧ s.now ≤ (waiting 0x000800).expiry := by decide +kernel

theorem witness_NewRisingAnswersOrWakes :
    (let s := linked { await := some (waiting 0x000800) };
      Settled s ∧ s.cu.running = true ∧ s.cu.valid = true ∧ s.sb.power = .active
        ∧ s.lp.await = some (waiting 0x000800) ∧ Member.clockInvalid.isIn (waiting 0x000800).members = true
        ∧ Member.clockInvalid.isIn s.au.latch = false)
    ∧ (Settled standing ∧ standing.cu.running = true ∧ standing.cu.valid = true ∧ standing.sb.power = .standby
      ∧ standing.lp.await = none ∧ Member.clockInvalid.isIn standing.au.latch = false)
    ∧ (let s := { standing with au := { standing.au with latch := 0x000800 } };
      Settled s ∧ s.cu.valid = true ∧ s.sb.power = .standby ∧ Member.clockInvalid.isIn s.au.latch = true) := by
  decide +kernel

/-! ### The Sound Engine and the Store Port -/

/-- VOICE-START's fields for a sound of `length` PCM8 samples from store address 0. -/
def sound (voice priority : Byte) (length : Triple) : VoiceStartFields :=
  ⟨voice, priority, 0, 0, length, 0, 0, 65536, 32767, 32767, 0, 0, 0⟩

/-- `base` with its voices so. -/
def voiced (vs : List Voice) : State := settle { base with se := { base.se with voices := vs, amp := true } }

/-- A playing voice with a full enough ring. -/
def playing : Voice :=
  { state := .playing, generation := 4, priority := 5, age := 2, length := 300, gain := 100, target := 100
    ring := List.replicate 97 0, fetchAddr := 97 }

theorem witness_VoiceStartTakesAVoice :
    Listening live ∧ live.se.voices.length = 8
      ∧ code (exec (.voiceStart tag (sound 8 0 1)) live) = 0x20 ∧ code (exec (.voiceStart tag (sound 7 15 1)) live) = 0x00
      ∧ (let s := voiced (List.replicate 8 playing);
        Listening s ∧ s.se.voices.length = 8 ∧ (∀ m < 8, (s.voice m).state ≠ .idle ∧ (4 : Byte).toNat < (s.voice m).priority)
          ∧ code (exec (.voiceStart tag (sound 0xFF 4 1)) s) = 0x23
          ∧ (s.voice 0).priority ≤ (5 : Byte).toNat
          ∧ ∀ m < 8, (s.voice m).age = (s.voice 0).age ∧ ((s.voice 0).state = .releasing ↔ (s.voice m).state = .releasing)) := by
  decide +kernel

/-- Chapter 1's worked example: eight busy voices, an ANY at priority 5. -/
def crowd : State := voiced ([(0, 3, 900), (1, 7, 40), (1, 2, 12), (0, 5, 2000), (0, 9, 1), (0, 9, 2), (0, 9, 3), (0, 9, 4)].map
  fun (r, p, a) => { playing with state := if r = 1 then .releasing else .playing, priority := p, age := a })

/-- It takes voice 2, the RELEASING candidate; at priority 1 there is no candidate. -/
theorem test_any_example :
    (reply (exec (.voiceStart tag (sound 0xFF 5 300)) crowd)).take 8 = [0x9B, 3, Kind.voiceStart, 9, 0, 2, 5, 1]
      ∧ byteAt (reply (exec (.voiceStart tag (sound 0xFF 1 300)) crowd)) 4 = 0x23 := by decide +kernel

theorem witness_VoiceAdjustReplacesSelected :
    (let s := voiced (List.replicate 8 playing); Listening s ∧ s.se.voices.length = 8
      ∧ code (exec (.voiceAdjust tag ⟨8, 0xFFFF, 0, 0, 0, 0, 0, 0, 0⟩) s) = 0x20
      ∧ code (exec (.voiceAdjust tag ⟨7, 3, 0, 0, 0, 0, 0, 0, 0⟩) s) = 0x41
      ∧ code (exec (.voiceAdjust tag ⟨7, 4, 0x20, 0, 0, 0, 0, 0, 1⟩) s) = 0x00)
    ∧ code (exec (.voiceAdjust tag ⟨7, 0xFFFF, 0, 0, 0, 0, 0, 0, 0⟩) live) = 0x21 := by decide +kernel

theorem witness_VoiceStopEndsOrReleases :
    (let s := voiced (List.replicate 8 playing); Listening s ∧ s.se.voices.length = 8
      ∧ code (exec (.voiceStopRelease tag 0xFF 0 32767) s) = 0x00
      ∧ code (exec (.voiceStopRelease tag 0xFF 0 32768) s) = 0x20)
    ∧ code (exec (.voiceStopImmediate tag 7 0xFFFF 0) live) = 0x21 := by decide +kernel

theorem witness_MixSetSetsTheEngine :
    Listening live ∧ code (exec (.mixSet tag 32767 1) live) = 0x00 ∧ code (exec (.mixSet tag 32768 1) live) = 0x20 := by
  decide +kernel

theorem witness_MixBlockRenders :
    let s := voiced (List.replicate 8 { playing with state := .paused }); s.sb.power = .active ∧ Quiet s ∧ s.se.voices.length = 8
      ∧ (live.sb.power = .active ∧ Quiet live ∧ live.se.voices.length = 8 ∧ live.lp.await = none) := by decide +kernel

theorem witness_BoundaryLimits :
    (let s := voiced ({ playing with state := .priming, priming := 31, ring := List.replicate 63 0, fetchAddr := 63 }
        :: List.replicate 7 {});
      s.sb.power = .active ∧ s.lp.await = none ∧ (s.voice 0).state = .priming ∧ (s.voice 0).priming = 31
        ∧ (s.voice 0).ring.length < min 64 ((s.voice 0).length * 1))
    ∧ (let s := settle { base with se := { base.se with amp := true, idleBlocks := 511 } };
      s.sb.power = .active ∧ s.se.amp = true ∧ s.se.hold = false ∧ s.se.idleBlocks = 511
        ∧ ∀ v ∈ s.se.voices, v.state = .idle)
    ∧ ({ live with se := { live.se with hold := true } } : State).se.hold = true := by decide +kernel

/-- A fetch for a requester. -/
def fetchOf (r : Requester) (size : Nat) : Fetch :=
  { requester := r, generation := 4, address := 97, size := size, abandoned := false, due := 48 }

/-- A load under way of a record of one step, with `n` bytes received and the rest in flight. -/
def loading (n size : Nat) : State :=
  settle { base with
    sp := { base.sp with
      loadList := [3], load := some { address := 97 - n, size := 7, buffer := [1, 0, 0, 5].take n }
      fetch := some (fetchOf .loader size) }
    ru := { base.ru with layers := [{ state := .loading, id := 3, scale := 255 }, {}, {}] } }

/-- The same with a full cache, whose last entry is in use, and a second id listed behind. -/
def loadingNext : State :=
  settle { loading 4 3 with
    sp := { (loading 4 3).sp with loadList := [3, 9] }
    ru := { (loading 4 3).ru with
      layers := [{ state := .loading, id := 3, scale := 255 }, { state := .running, id := 17 }, { state := .loading, id := 9 }]
      cache := [10, 11, 12, 13, 14, 15, 16, 17].map fun i => ⟨i, {}⟩ } }

theorem witness_FetchDelivers :
    (let s := settle { base with se := { base.se with voices := { playing with owed := 2, ring := [] } :: List.replicate 7 {} }
                                 sp := { base.sp with fetch := some (fetchOf (.voice 0) 32) } };
      Settled s ∧ Quiet s ∧ s.sp.fetch = some (fetchOf (.voice 0) 32) ∧ s.se.voices.length = 8)
    ∧ (let s := loading 2 4; Settled s ∧ Quiet s ∧ s.sp.fetch = some (fetchOf .loader 4)
      ∧ s.sp.load = some ⟨95, 7, [1, 0]⟩ ∧ 2 + 4 < 7)
    ∧ (let s := settle { waking with sb := { waking.sb with stage := 4, supply := .normal, supplyMv := 3300 }
                                     sp := { waking.sp with fetch := some (fetchOf .powerUp 32) } };
      Settled s ∧ Quiet s ∧ s.sp.fetch = some (fetchOf .powerUp 32) ∧ s.sb.power = .waking ∧ s.sb.stage = 4
        ∧ s.sp.reader.length + 32 < 64)
    ∧ (∀ n ∈ [4, 6], let s := settle { waking with
          sb := { waking.sb with stage := n, supply := .normal, supplyMv := 3300 }
          sp := { waking.sp with
            fetch := some (fetchOf .powerUp 32), reader := List.replicate (if n = 4 then 32 else 224) 7 } };
      Settled s ∧ Quiet s ∧ s.sp.fetch = some (fetchOf .powerUp 32) ∧ s.sb.power = .waking ∧ s.sb.stage = n
        ∧ s.sc.layoutState = .usable ∧ s.sp.reader.length + 32 = if n = 4 then 64 else 256) := by decide +kernel

/-- R183, R184: an image of FFh bytes leaves the default profile; a LOST keep is formatted under it. -/
theorem test_blank_image :
    ∀ intact : Bool,
      after (exec (.fetchCompletion (List.replicate 32 0xFF) 3000) (settle { waking with
          sb := { waking.sb with stage := 4, supply := .normal, supplyMv := 3300, intact := intact }
          sp := { waking.sp with fetch := some (fetchOf .powerUp 32), reader := List.replicate 32 0xFF } }))
        (fun t => t.sb.profileStatus == .defaulted && t.sp.profile.catchUp == 30
          && if intact then t.sc.layoutState == .noLayout && t.sb.power == .active
            else t.sb.formatKind == some .full && t.sb.stage == 5) = true := by decide +kernel

theorem witness_LoadEnds :
    let s := loading 4 3;
    Settled s ∧ s.sb.power = .active ∧ Quiet s ∧ s.lp.await = none ∧ s.sp.fetch = some (fetchOf .loader 3)
      ∧ s.sp.load = some ⟨93, 7, [1, 0, 0, 5]⟩ ∧ s.sp.loadList = [3] ∧ s.ru.layers.length = 3 ∧ s.ru.cache.length < 8
      ∧ 7 = [1, 0, 0, 5].length + 3
      ∧ (let s := loadingNext;
        Settled s ∧ Quiet s ∧ s.sp.fetch = some (fetchOf .loader 3) ∧ s.sp.loadList = [3, 9] ∧ 3 ∉ [9] ∧ [9].Nodup
          ∧ 8 ≤ s.ru.cache.length ∧ (∀ x ∈ s.ru.cache.drop 7, s.ru.layers.any fun l => decide (l.state ≠ .idle ∧ l.id = x.id))
          ∧ (s.ru.layers.any fun l => decide (l.state ≠ .idle ∧ l.id = (s.ru.cache.getD 6 ⟨0, {}⟩).id)) = false) := by
  decide +kernel

/-- R40, R119: the least recent entry not in use, 16, makes room for 3; id 9 has no directory entry. -/
theorem test_victim_and_next :
    after (exec (.fetchCompletion [200, 3, 0] 3000) loadingNext)
      (fun t => t.ru.cache.map (·.id) == [3, 10, 11, 12, 13, 14, 15, 17] && t.sp.loadList == []
        && (t.layer 2).state == .idle && t.au.details.patternMissing == some 9) = true := by decide +kernel

/-- R119, R120: the record runs its layer; a step of duration 0 makes it bad. -/
theorem test_record_loads :
    after (exec (.fetchCompletion [200, 3, 0] 3000) (loading 4 3))
      (fun t => (t.layer 0).state == .running && t.ru.cache.length == 1) = true
    ∧ after (exec (.fetchCompletion [200, 0, 0] 3000) (loading 4 3))
      (fun t => (t.layer 0).state == .idle && t.au.details.patternMissing == some 3) = true := by decide +kernel

/-! ### The Save Controller -/

/-- Half A of slot 1 begins at 4,096 and half B at 12,320 (R46: 32 header bytes and 8,192 data bytes). -/
theorem test_half_addresses : live.faceAddr 1 = 4096 ∧ live.shadowAddr 1 = 12320 := by decide +kernel

/-- A LIVE half header of slot 1, generation 7, over the digits, as R192 lays it out; without its header CRC. -/
def savedHeader : List Byte := [0x48, 0x53, 1, 1, 7, 0, 0, 0, 9, 0, 0xB1, 0x29] ++ List.replicate 18 0

/-- Half A of slot 1 with that header and the digits. -/
def savedKeep : List Host.Cell := Memory.writeAll [] 4096 (savedHeader ++ halfBytes (crc16 savedHeader) ++ digits)

/-- R71: that half is found LIVE. -/
theorem test_saved_half_is_live : ({ base with keep := savedKeep } : State).examineSlot 1 = .live := by decide +kernel

/-- `base` with slot 1 LIVE and the slot's write record and operation so. -/
def saving (openSlot : Option Nat) (op : Option KeepOp) : State :=
  settle { base with
    keep := savedKeep, now := 100
    sc := { slots := [.live], openSlot := openSlot, highMark := 0, op := op } }

/-- The same state in STANDBY. -/
def asleep (s : State) : State := settle { s with sb := { s.sb with power := .standby } }

theorem witness_SlotOpenOpens :
    (let s := saving none none; Listening s
      ∧ code (exec (.slotOpen tag 0 1) s) = 0x20 ∧ code (exec (.slotOpen tag 2 1) s) = 0x20
      ∧ code (exec (.slotOpen tag 1 1) s) = 0x02 ∧ code (exec (.slotOpen tag 1 0) s) = 0x00)
    ∧ code (exec (.slotOpen tag 1 1) (saving (some 1) none)) = 0x22 := by decide +kernel

/-- R54, R55: a seeded open of a face of 9 bytes copies 9. -/
theorem test_seeded_open :
    after (exec (.slotOpen tag 1 1) (saving none none))
      (fun t => t.sc.op.any (fun op => op.extent == 9) && t.sb.w == 10) = true := by decide +kernel

def seedOp : KeepOp :=
  { kind := .seed, phase := .seeding, slot := 1, extent := 9, done := 0, length := 0, expected := 0, began := 100 }

theorem witness_SeedingCompletes_idle :
    (let s := saving (some 1) (some seedOp);
      s.pending = [] ∧ Memory.wf s.keep ∧ s.sb.format = none ∧ OpOk s seedOp ∧ seedOp.began ≤ s.now)
    ∧ (live.pending = [] ∧ Quiet live ∧ Memory.wf live.keep)
    ∧ (∀ k ∈ [FormatKind.full, .slots], let s := { stageOf 5 with
          sb := { (stageOf 5).sb with format := some { kind := k, made := 0, ran := 3 } } };
      s.pending = [] ∧ s.sc.op = none ∧ s.sb.supply ≠ .fence ∧ (3 + 1) % 4 = 0) := by decide +kernel

/-- The seeding with its first byte copied. -/
def seedOne : KeepOp := { seedOp with done := 1, began := 96 }

theorem witness_SeedingCompletes_copied :
    let s := { saving (some 1) (some seedOne) with keep := Memory.write savedKeep 12352 0x31 };
    Settled s ∧ s.sc.op = some seedOne ∧ seedOne.done = min seedOne.extent ((s.now - seedOne.began) / 4)
      ∧ ∀ i < seedOne.done, Memory.read s.keep (s.shadowAddr 1 + 32 + i) = Memory.read s.keep (s.faceAddr 1 + 32 + i) := by
  decide +kernel

theorem witness_SeedingCompletes :
    let s := saving (some 1) (some seedOp);
    Settled s ∧ s.sb.power.awake = true ∧ s.sb.format = none ∧ Memory.wf s.keep ∧ s.sc.op = some seedOp
      ∧ OpOk s seedOp ∧ seedOp.phase = .seeding ∧ seedOp.began ≤ s.now
      ∧ seedOp.done = min seedOp.extent ((s.now - seedOp.began) / 4) ∧ s.now ≤ seedOp.began + 4 * seedOp.extent := by
  decide +kernel

theorem test_seeding_copies :
    after (exec .seedingCompletion (saving (some 1) (some seedOp)))
      (fun t => Memory.readAll t.keep 12352 9 == digits && t.sc.highMark == 9) = true := by decide +kernel

theorem witness_SlotWriteWrites :
    (let s := saving (some 1) none; Listening s ∧ Memory.wf s.keep
      ∧ code (exec (.slotWrite tag 1 8191 1 [5]) s) = 0x00 ∧ code (exec (.slotWrite tag 1 8191 2 [5, 6]) s) = 0x20
      ∧ code (exec (.slotWrite tag 1 0 0 []) s) = 0x20)
    ∧ code (exec (.slotWrite tag 1 0 1 [5]) (saving none none)) = 0x21 := by decide +kernel

theorem witness_SlotCommitStartsTheVerify :
    let s := saving (some 1) none; Listening s ∧ Memory.wf s.keep
      ∧ code (exec (.slotCommit tag 1 8193 0) s) = 0x20 ∧ code (exec (.slotCommit tag 1 8192 0) s) = 0x02
      ∧ code (exec (.slotCommit tag 1 0 0xFFFF) s) = 0x02 ∧ code (exec (.slotCommit tag 1 0 0) s) = 0x02 := by
  decide +kernel

def verifyOp (length : Nat) (expected : Half) : KeepOp :=
  { kind := .commit, phase := .verifying, slot := 1, extent := length, done := 0, length := length, expected := expected
    began := 100 }

theorem witness_VerifyEnds :
    ∀ op ∈ [verifyOp 1 (crc16 [0]), verifyOp 1 0], let s := saving (some 1) (some op);
      Settled s ∧ s.sb.power = .active ∧ s.lp.await = none ∧ s.sb.format = none ∧ Memory.wf s.keep ∧ s.sc.op = some op
        ∧ OpOk s op ∧ op.phase = .verifying
        ∧ (crc16 (Memory.readAll s.keep (s.shadowAddr 1 + 32) 1) = op.expected ↔ op.expected ≠ 0) := by decide +kernel

theorem witness_VerifyEnds_wakes :
    let q := asleep (saving (some 1) (some (verifyOp 1 0)));
    Settled q ∧ q.sb.power = .standby ∧ q.lp.await = none ∧ q.sc.op = some (verifyOp 1 0) ∧ OpOk q (verifyOp 1 0)
      ∧ q.sb.format = none ∧ Member.saveFailed.isIn q.au.latch = false
      ∧ crc16 (Memory.readAll q.keep (q.shadowAddr 1 + 32) 1) ≠ (verifyOp 1 0).expected := by decide +kernel

/-- A verify that will not match, with an AWAIT held for SAVE_DONE and SAVE_FAILED. -/
def awaited : State :=
  let s := saving (some 1) (some (verifyOp 1 0))
  { s with lp := { s.lp with await := some (waiting 0x000030) } }

theorem witness_VerifyEnds_answers :
    Settled awaited ∧ awaited.sb.power = .active ∧ awaited.lp.await = some (waiting 0x000030)
      ∧ OpOk awaited (verifyOp 1 0) ∧ awaited.sc.op = some (verifyOp 1 0) ∧ awaited.sb.format = none
      ∧ Member.saveFailed.isIn (waiting 0x000030).members = true ∧ Member.saveFailed.isIn awaited.au.latch = false
      ∧ crc16 (Memory.readAll awaited.keep (awaited.shadowAddr 1 + 32) 1) ≠ (verifyOp 1 0).expected := by decide +kernel

/-- R154, R167: a mismatch wakes the part, and answers an AWAIT for SAVE_FAILED. -/
theorem test_mismatch_is_told :
    let s := saving (some 1) (some (verifyOp 1 0));
    after (exec .verifyEnd (asleep s)) (fun t => t.sb.power == .active && t.au.woke == Member.saveFailed.set) = true
      ∧ after (exec .verifyEnd awaited)
        (fun t => t.lp.await == none && t.lp.held.isSome && t.au.latch == 0) = true := by decide +kernel

/-- R59: the generation of the header written is one above the face's. -/
theorem test_verify_header :
    after (exec .verifyEnd (saving (some 1) (some (verifyOp 1 (crc16 [0])))))
      (fun t => Memory.readAll t.keep 12320 10 == [0x48, 0x53, 1, 1, 8, 0, 0, 0, 1, 0]) = true := by decide +kernel

def settleOp (kind : OpKind) (slot : Nat) : KeepOp :=
  { kind := kind, phase := .settling, slot := slot, extent := 0, done := 0, length := 0, expected := 0, began := 100 }

theorem witness_FlipMakesTheSave :
    ∀ x ∈ [(some 1, settleOp .commit 1), (none, settleOp .erase 1)], let s := saving x.1 (some x.2);
      Settled s ∧ s.sb.power = .active ∧ s.lp.await = none ∧ s.sb.format = none ∧ s.sc.op = some x.2 ∧ 1 ≤ x.2.slot
        ∧ x.2.slot ≤ s.sc.slots.length ∧ s.sc.slots.length ≤ 8 ∧ x.2.phase = .settling := by decide +kernel

theorem witness_FlipMakesTheSave_told :
    ∀ x ∈ [(some 1, settleOp .commit 1), (none, settleOp .erase 1)], let s := saving x.1 (some x.2);
        (let q := asleep s; Settled q ∧ q.sb.power = .standby ∧ q.lp.await = none ∧ q.sc.op = some x.2
          ∧ q.sb.format = none ∧ Member.saveDone.isIn q.au.latch = false)
        ∧ (let q := { s with lp := { s.lp with await := some (waiting 0x000010) } };
          Settled q ∧ q.sb.power = .active ∧ q.lp.await = some (waiting 0x000010)
            ∧ Member.saveDone.isIn (waiting 0x000010).members = true ∧ Member.saveDone.isIn q.au.latch = false) := by
  decide +kernel

theorem witness_SlotEraseAndAbort :
    (let s := saving none none; Listening s ∧ Memory.wf s.keep ∧ code (exec (.slotErase tag 1) s) = 0x02
      ∧ code (exec (.slotErase tag 2) s) = 0x20 ∧ code (exec (.slotAbort tag 1) s) = 0x21)
    ∧ (let s := saving (some 1) none; Listening s ∧ code (exec (.slotErase tag 1) s) = 0x22
      ∧ code (exec (.slotAbort tag 1) s) = 0x00) := by decide +kernel

theorem witness_SlotReadReadsTheFace :
    let s := saving none none; Listening s ∧ code (exec (.slotRead tag 1 8 1 0xFFFFFFFF) s) = 0x00
      ∧ code (exec (.slotRead tag 1 9 1 7) s) = 0x03 ∧ code (exec (.slotRead tag 1 0 1 8) s) = 0x41
      ∧ code (exec (.slotRead tag 1 0 241 7) s) = 0x20 ∧ code (exec (.slotRead tag 1 0 1 7) live) = 0x43 := by
  decide +kernel

/-- R69: SLOT-READ gives the generation, the read extent and the bytes. -/
theorem test_slot_read :
    (reply (exec (.slotRead tag 1 7 4 7) (saving none none))).drop 5 = [1, 7, 0, 0, 0, 9, 0, 0x38, 0x39,
      byteAt (reply (exec (.slotRead tag 1 7 4 7) (saving none none))) 14] := by decide +kernel

/-! ### The Clock Unit and the Day Reckoner -/

/-- `live` with its clock so. -/
def clocked (cu : ClockUnit) : State := settle { base with cu := cu }

/-- A full format at its first write, the clock still VALID. -/
def validFormat : State := { stageOf 5 with
  cu := { seconds := 5, valid := true }, sb := { (stageOf 5).sb with format := some { kind := .full, made := 0, ran := 0 } } }

theorem witness_ClockEvents :
    live.sb.format = none ∧ live.cu.valid = true ∧ live.cu.running = true
      ∧ (let s := clocked { running := false }; s.sb.format = none ∧ s.cu.valid = false ∧ s.cu.running = false ∧ Settled s)
      ∧ (let s := validFormat; s.cu.valid = true ∧ (s.elapseTo s.secondDue).cu.valid = false) := by
  decide +kernel

/-- R75, R76: the second that ends at phase 63 begins the trim second, which a trim of +5 shortens by 5 cycles. -/
theorem test_trim_second :
    after (exec (.secondEnd 3000) (clocked { seconds := 1, valid := true, phase := 63, trim := 5 }))
      (fun t => t.cu.phase == 0 && t.cu.divider == 5 && t.cu.seconds == 2) = true := by decide +kernel

theorem witness_ClockSetSetsAndReckons :
    Listening live ∧ code (exec (.clockSet tag 1999 12 31 23 59 59) live) = 0x20
      ∧ code (exec (.clockSet tag 2099 12 31 23 59 59) live) = 0x00 ∧ code (exec (.clockSet tag 2100 1 1 0 0 0) live) = 0x20
      ∧ code (exec (.clockSet tag 2023 2 29 0 0 0) live) = 0x20
      ∧ code (exec (.clockSet tag 2000 1 1 0 0 0) (clocked { running := false })) = 0x21 := by decide +kernel

theorem witness_ClockNudgeAndTrim :
    Listening live ∧ code (exec (.clockNudge tag 3600) live) = 0x00 ∧ code (exec (.clockNudge tag 3601) live) = 0x20
      ∧ code (exec (.clockNudge tag (-3600)) live) = 0x00 ∧ code (exec (.clockNudge tag (-3601)) live) = 0x20
      ∧ code (exec (.clockNudge tag 0) (clocked {})) = 0x31 ∧ code (exec (.clockTrim tag 0x8000) live) = 0x00 := by
  decide +kernel

theorem witness_CivilFormGoesBack :
    (2000 : Nat) ≤ 2099 ∧ (1 : Nat) ≤ 12 ∧ (1 : Nat) ≤ 31 ∧ monthDays (leapYear 2000) 2 = 29
      ∧ (0 : Nat) ≤ 3155759999 ∧ secondsOf 2000 1 1 0 0 0 = 0 ∧ secondsOf 2099 12 31 23 59 59 = 3155759999 := by decide +kernel

/-- Chapter 5's day start 05:00; `l` the last day reckoned, `entries` and `fired` the Day Reckoner's lists. -/
def dayed (seconds l : Nat) (entries : List Entry) (fired : List Fired) : State :=
  settle { base with
    cu := { seconds := seconds, valid := true }
    sp := { base.sp with profile := { base.sp.profile with hour := 5 } }
    dr := { g := 426, l := l, forfeited := 7, table := entries, fired := fired } }

theorem witness_RolloverReckons :
    (let s := dayed 769323599 8904 [] []; Quiet s ∧ s.cu.valid = true ∧ s.cu.seconds < 3155759999 ∧ s.sb.power.awake = true
      ∧ s.sb.supply ≠ .fence ∧ s.dr.l < (s.cu.seconds + 1 + 86400 - 18000) / 86400)
    ∧ (let s := dayed 769323598 8904 [] []; (s.cu.seconds + 1 + 86400 - 18000) / 86400 ≤ s.dr.l) := by decide +kernel

/-- Chapter 5, the worked example's last line: raw day 8,905 begins at 769,323,600 and credits one day. -/
theorem test_rollover_example :
    after (exec (.secondEnd 3000) (dayed 769323599 8904 [] []))
      (fun t => t.dr.g == 427 && t.dr.l == 8905 && t.dr.forfeited == 7 && t.au.details.dayTurn == 1) = true := by
  decide +kernel

def entry (id : Nat) (kind : EntryKind) : Entry :=
  { id := id, kind := kind, tag := 1, action := none, due := false, accumulated := 0, latest := 0 }

/-- A fired record of entry `n`. -/
def record (n : Nat) : Fired := { id := n, tag := n, kind := .onDay, g := 1, occurrences := 1, late := 0, ran := false }

theorem witness_DayEntriesFire :
    ∀ k ∈ [EntryKind.onDay 427, .onDay 428, .every 1 0, .every 3 2, .onClock 769323600, .onClock 769323601],
      ∀ n ∈ [0, 16], let s := dayed 769323599 8904 [entry 5 k] (List.replicate n (record 1));
        Quiet s ∧ s.cu.valid = true ∧ s.cu.seconds < 3155759999 ∧ s.sb.power.awake = true ∧ s.sb.supply ≠ .fence
          ∧ s.dr.table = [entry 5 k] ∧ (entry 5 k).due = false ∧ (entry 5 k).action = none ∧ s.dr.fired.length ≤ 16 := by
  decide +kernel

/-- One entry that meets its day and has an action. -/
def acting : State :=
  let s := dayed 769323599 8904 [{ entry 5 (.onDay 427) with action := some ⟨64, 2, 9, 255⟩ }] [record 1]
  { s with ru := { s.ru with host := some { steps := [⟨200, 3, false⟩] } :: List.replicate 7 none } }

theorem witness_DayEntriesFire_several :
    (let s := acting; Quiet s ∧ s.cu.valid = true ∧ s.cu.seconds < 3155759999 ∧ s.sb.power = .active ∧ s.sb.supply ≠ .fence
      ∧ s.lp.pendingReset = false ∧ DaysOk s ∧ s.dr.g < 427 ∧ s.dr.l < (s.cu.seconds + 1 + 86400 - 18000) / 86400)
    ∧ (let s := dayed 769323599 8904 [entry 2 (.onDay 427), { entry 5 (.every 1 0) with due := true, accumulated := 3 },
          entry 7 (.onClock 769323600)] ((List.range 16).map record);
      Quiet s ∧ DaysOk s ∧ s.sb.power = .active) := by decide +kernel

/-- R103: a DUE EVERY entry gathers the day, and with a full list the others become DUE. -/
theorem test_due_gathers :
    after (exec (.secondEnd 3000) (dayed 769323599 8904 [entry 2 (.onDay 427),
        { entry 5 (.every 1 0) with due := true, accumulated := 3, latest := 426 }] ((List.range 16).map record)))
      (fun t => t.dr.table.map (fun e => (e.id, e.due, e.accumulated, e.latest)) == [(2, true, 1, 0), (5, true, 4, 427)])
      = true := by decide +kernel

/-- R107, R135: an entry that meets its day in ACTIVE starts its layer, and its record says so. -/
theorem test_action_runs :
    after (exec (.secondEnd 3000) acting)
      (fun t => (t.layer 2).state == .running && t.dr.fired.map (·.ran) == [false, true]) = true := by decide +kernel

/-- Chapter 5, "the clock set forward, then back": entry 12 waits for S = 769,100,000. -/
def twelve : State := dayed 769000000 8901 [entry 12 (.onClock 769100000)] []

/-- The one entry with an action, and a set credit of one day. -/
def crediting : State :=
  { acting with sp := { acting.sp with profile := { acting.sp.profile with setCredit := 1 } } }

theorem witness_ClockSetSetsAndReckons_fires :
    Listening twelve ∧ DaysOk twelve ∧ twelve.sb.supply ≠ .fence ∧ (listedIn 426 426 769259200 twelve).length = 1
      ∧ Listening crediting ∧ DaysOk crediting ∧ crediting.sb.power = .active ∧ crediting.cu.valid = true
      ∧ (actingIn 426 427 769323600 crediting).length = 1
      ∧ (let s := settle { twelve with sb := { twelve.sb with supply := .fence } }; Listening s ∧ s.sb.supply = .fence) := by
  decide +kernel

theorem witness_ClockNudgeAndTrim_fires :
    (listedIn 426 426 769003600 twelve).length = 0 ∧ (actingIn 426 427 769323600 crediting).length = 1
      ∧ code (exec (.clockNudge tag 1) crediting) = 0x00
      ∧ (let s := settle { twelve with sb := { twelve.sb with supply := .fence } }; Listening s ∧ s.sb.supply = .fence
        ∧ s.cu.valid = true) := by decide +kernel

/-- Chapter 5: the set to 2024-05-17 11:06:40 forfeits three days and fires entry 12, late 1. -/
theorem test_set_fires :
    after (exec (.clockSet tag 2024 5 17 11 6 40) twelve) (fun t => t.dr.g == 426 && t.dr.l == 8904 && t.dr.forfeited == 10
      && t.dr.table == [] && t.dr.fired.map (fun r => (r.id, r.g, r.occurrences, r.late, r.ran)) == [(12, 426, 1, 1, false)])
      = true := by decide +kernel

/-- R93, R107: a nudge over the day start credits one day under K = 1, and the entry's action runs. -/
theorem test_nudge_fires :
    after (exec (.clockNudge tag 1) crediting)
      (fun t => t.dr.g == 427 && (t.layer 2).state == .running && t.dr.fired.map (·.ran) == [false, true]) = true := by
  decide +kernel

/-- R96: under FENCE a nudge is deferred as CLOCK_SET. -/
theorem test_nudge_deferred :
    after (exec (.clockNudge tag 1) (settle { crediting with sb := { crediting.sb with supply := .fence } }))
      (fun t => t.dr.g == 426 && t.dr.table.length == 1
        && t.dr.deferred == some { causes := { clockSet := true }, limit := 1 }) = true := by decide +kernel

theorem witness_DayTableEdits :
    (let s := dayed 769323599 8904 [] []; Listening s ∧ DaysOk s
      ∧ code (exec (.entryAdd tag ⟨254, 0, 0, 427, 0, 0, 0, 0, 0⟩) s) = 0x00
      ∧ code (exec (.entryAdd tag ⟨254, 0, 0, 426, 0, 0, 0, 0, 0⟩) s) = 0x20
      ∧ code (exec (.entryAdd tag ⟨255, 0, 0, 427, 0, 0, 0, 0, 0⟩) s) = 0x20
      ∧ code (exec (.entryDrop tag 254) s) = 0x24)
    ∧ (let s := dayed 769323599 8904 ((List.range 32).map fun i => entry i (.onDay 500)) []; Listening s ∧ DaysOk s
      ∧ code (exec (.entryAdd tag ⟨32, 0, 0, 427, 0, 0, 0, 0, 0⟩) s) = 0x23
      ∧ code (exec (.entryAdd tag ⟨31, 0, 0, 427, 0, 0, 0, 0, 0⟩) s) = 0x00) := by decide +kernel

theorem witness_FiredTakeRefills :
    let s := dayed 769000000 8904 [{ entry 5 (.every 1 0) with due := true, accumulated := 2, latest := 426 }]
      ((List.range 16).map record);
    Listening s ∧ DaysOk s ∧ code (exec (.firedTake tag 0) s) = 0x20 ∧ code (exec (.firedTake tag 17) s) = 0x20
      ∧ code (exec (.firedTake tag 16) s) = 0x00 := by decide +kernel

/-! ### The Rumble Unit -/

/-- A pattern of two steps, a level and a ramp. -/
def buzz (repeats : Nat) : Pattern := { repeats := repeats, returnStep := 1, steps := [⟨200, 2, false⟩, ⟨100, 1, true⟩] }

theorem witness_PatternDefineStores :
    Listening live ∧ [StepFields.mk 1 1 0].length = (1 : Byte).toNat
      ∧ code (exec (.patternDefine tag ⟨64, 1, 0, 0, 0, [⟨1, 1, 0⟩]⟩) live) = 0x00
      ∧ code (exec (.patternDefine tag ⟨72, 1, 0, 0, 0, [⟨1, 1, 0⟩]⟩) live) = 0x20
      ∧ code (exec (.patternDefine tag ⟨63, 1, 0, 0, 0, [⟨1, 1, 0⟩]⟩) live) = 0x20
      ∧ code (exec (.patternDefine tag ⟨71, 1, 0, 0, 0, [⟨1, 0, 0⟩]⟩) live) = 0x20 := by decide +kernel

/-- `base` with a host pattern in slot 64, a cached pattern 3, and the layers given. -/
def rumbling (layers : List Layer) : State :=
  settle { base with ru := { base.ru with
    host := some (buzz 0) :: List.replicate 7 none, cache := [⟨3, buzz 1⟩], layers := layers } }

/-- A layer in its last tick of a step. -/
def running (step : Nat) (passes : Passes) : Layer :=
  { state := .running, id := 3, priority := 9, scale := 255, step := step, tick := 2 - step, passes := passes, value := 40
    output := 40, pattern := buzz 1 }

theorem witness_RumblePlayStartsALayer :
    let s := rumbling [running 0 .endless, {}, {}]; Listening s ∧ s.ru.layers.length = 3
      ∧ code (exec (.rumblePlay tag 3 64 15 255) s) = 0x20 ∧ code (exec (.rumblePlay tag 2 64 15 255) s) = 0x00
      ∧ code (exec (.rumblePlay tag 1 65 15 255) s) = 0x24 ∧ code (exec (.rumblePlay tag 0 3 8 255) s) = 0x22
      ∧ code (exec (.rumblePlay tag 0 3 9 255) s) = 0x00
      ∧ s.ru.host.getD (64 - 64) none = some (buzz 0) ∧ (s.ru.cache.filter fun x => x.id == 3) = [⟨3, buzz 1⟩]
      ∧ (s.ru.cache.filter fun x => x.id == 4) = [] ∧ s.sp.load = none ∧ s.sp.loadList = []
      ∧ (loading 4 3).sp.load.isSome = true ∧ s.sp.profile.patternCount ≤ 4
      ∧ (let q := { s with sp := { s.sp with
            profile := { s.sp.profile with patternCount := 5 }, directory := List.replicate 64 ⟨0, 32⟩ } };
        Listening (settle q) ∧ 4 < q.sp.profile.patternCount
          ∧ (let e := q.sp.directory.getD 4 {}; 1 ≤ e.steps ∧ e.steps ≤ 32
            ∧ e.address + 4 + 3 * e.steps ≤ q.sp.profile.storeUnits * 65536)) := by decide +kernel

theorem witness_RumbleStopStops :
    let s := rumbling [running 0 .endless, {}, {}]; Listening s ∧ s.ru.layers.length = 3
      ∧ code (exec (.rumbleStop tag 2) s) = 0x00 ∧ code (exec (.rumbleStop tag 3) s) = 0x20
      ∧ code (exec (.rumbleStop tag 0xFF) s) = 0x00 := by decide +kernel

theorem witness_RumbleTickAdvancesLayers :
    let s := rumbling [running 0 .endless, running 1 (.left 0), running 1 (.left 1)];
    Settled s ∧ s.sb.power = .active ∧ s.lp.await = none ∧ Quiet s ∧ s.ru.layers.length = 3 ∧ s.ru.phase = 0 ∧ s.ru.tick = .none
      ∧ (∀ n < 3, (s.layer n).state = .running
        ∧ (s.layer n).tick = ((s.layer n).pattern.steps.getD (s.layer n).step ⟨0, 0, false⟩).duration)
      ∧ (let q := rumbling [running 1 .endless, { running 0 .endless with tick := 1 }, {}];
        Settled q ∧ (q.layer 0).pattern.steps.length ≤ (q.layer 0).step + 1 ∧ (q.layer 1).tick ≠ 2
          ∧ (q.layer 2).state ≠ .running) := by decide +kernel

/-- R122's order, LOADING then RUNNING: 01h on a record at hand, 00h on one to load. -/
theorem test_play_state_byte :
    let s := rumbling [{}, {}, {}];
    ((reply (exec (.rumblePlay tag 0 3 9 255) s)).drop 5).take 3 = [0, 1, 0]
      ∧ ((reply (exec (.rumblePlay tag 0 4 9 255) s)).drop 5).take 3 = [0, 0, 0] := by decide +kernel

/-- R126, R127: step 0 ends and the ramp from 40 to 100 is over in its one tick; the other layers end and repeat. -/
theorem test_tick_moves_on :
    after (exec .rumbleTick (rumbling [running 0 .endless, running 1 (.left 0), running 1 (.left 1)]))
      (fun t => (t.layer 0).step == 1 && (t.layer 0).value == 100 && (t.layer 1).state == .idle
        && (t.layer 1).start == 40 && (t.layer 1).tick == 0
        && (t.layer 2).passes == .left 0 && t.au.details.patternEnded == 2) = true := by decide +kernel

/-- CUE-ARM's fields: cue, voice, layer. -/
def cueOf (cue voice layer : Byte) : CueFields := ⟨cue, voice, 1, 0, 0, 0, 71, layer, 15, 255⟩

/-- Voice 2 about to cross its marker 0, which cue 1 waits for to start a host pattern on layer 2. -/
def cued (pattern : Nat) : State :=
  let s := rumbling [{}, {}, {}]
  settle { s with
    se := { s.se with voices := (List.replicate 8 {}).set 2 { playing with step := 1, posFrac := 65535, marker0 := some ⟨1, false⟩ } }
    ru := { s.ru with cues := (List.replicate 4 {}).set 1 {
      state := .waitFirst, first := ⟨2, 0, 4⟩, pattern := pattern, layer := 2, priority := 3, scale := 255 } } }

theorem witness_CuesArmAndDisarm :
    (let s := voiced (List.replicate 8 playing); Listening s ∧ s.ru.cues.length = 4
      ∧ code (exec (.cueArm tag (cueOf 3 7 2)) s) = 0x00 ∧ code (exec (.cueArm tag (cueOf 4 7 2)) s) = 0x20
      ∧ code (exec (.cueDisarm tag 3) s) = 0x00 ∧ code (exec (.cueDisarm tag 4) s) = 0x20
      ∧ code (exec (.cueDisarm tag 0xFF) s) = 0x00)
    ∧ code (exec (.cueArm tag (cueOf 3 7 2)) live) = 0x21
    ∧ (let s := cued 64;
      s.sb.power = .active ∧ Quiet s ∧ s.lp.await = none ∧ s.lp.pendingReset = false ∧ s.se.voices.length = 8
        ∧ s.ru.cues.length = 4 ∧ s.ru.layers.length = 3 ∧ (∀ i < 4, i ≠ 1 → (s.cue i).state = .unarmed)
        ∧ (blockReport (s.se.voices.map atBoundary)).map (fun x => (x.voice, x.marker, x.generation)) = [(2, 0, 4)]) := by
  decide +kernel

/-- R132, R133: the crossing fires the cue, which starts layer 2; with no pattern in the slot it lapses, BLOCKED. -/
theorem test_cue_fires :
    after (exec .mixBlockBoundary (cued 64)) (fun t => (t.cue 1).state == .unarmed && (t.layer 2).state == .running
      && t.au.details.cueFired == 2 && !Member.cueLapsed.isIn t.au.latch) = true
    ∧ after (exec .mixBlockBoundary (cued 65)) (fun t => (t.cue 1).state == .unarmed && (t.layer 2).state == .idle
      && t.au.details.cueLapsed == 2 && t.au.details.lapseCause == some .blocked) = true := by decide +kernel

/-! ### Supply and power -/

theorem witness_StandbyIsEntered : Listening live := by decide +kernel

/-- In FENCE with a rollover deferred and one new day. -/
def deferring : State :=
  let s := dayed 769323600 8904 [] []
  settle { s with
    dr := { s.dr with deferred := some { causes := { rollover := true }, limit := 30 } }
    sb := { s.sb with supply := .fence } }

theorem witness_SupplyClassMoves :
    ∀ mv ∈ [2500, 2799, 2800, 2899, 2900, 2999, 3000, 3100], live.sb.power ≠ .keep ∧ 2500 ≤ mv
      ∧ (let q := saving (some 1) (some seedOp); q.sb.power = .active ∧ q.sb.supply ≠ .fence ∧ q.sc.op = some seedOp
        ∧ seedOp.kind ≠ .erase ∧ q.lp.await = none)
      ∧ waking.sb.supply = .fence ∧ waking.sb.power = .waking ∧ waking.sb.stage = 1
      ∧ (let q := deferring; q.sb.power ≠ .keep ∧ q.sb.supply = .fence ∧ q.dr.table = [] ∧ q.lp.await = none
        ∧ q.cu.valid = true ∧ q.dr.deferred = some { causes := { rollover := true }, limit := 30 }
        ∧ q.dr.l < (q.cu.seconds + 86400 - 18000) / 86400) := by decide +kernel

theorem witness_SupplyClassMoves_fires :
    let s := settle { crediting with
      cu := { crediting.cu with seconds := 769323600 }, dr := { crediting.dr with deferred := deferring.dr.deferred }
      sb := { crediting.sb with supply := .fence } };
    s.sb.power = .active ∧ s.sb.supply = .fence ∧ DaysOk s ∧ s.lp.pendingReset = false
      ∧ s.dr.deferred = some { causes := { rollover := true }, limit := 30 }
      ∧ (actingIn 426 427 769323600 s).length = 1 := by decide +kernel

/-- R96: the deferred rollover runs as FENCE is left: one day credited, the cell measured. -/
theorem test_deferred_runs :
    after (exec (.supplyClassChange 3300 2500) deferring)
      (fun t => t.dr.g == 427 && t.dr.l == 8905 && t.dr.deferred == none && t.sb.cell == .low
        && t.au.details.dayTurn == 1) = true := by decide +kernel

/-- R141: the thresholds down from NORMAL, and up from FENCE. -/
theorem test_supply_thresholds :
    ([2999, 3000, 2800, 2799].map fun mv => after (exec (.supplyClassChange mv 3000) live) (fun t => t.sb.supply == .warn))
      = [true, false, true, false]
    ∧ ([2899, 2900, 3099, 3100].map fun mv => after (exec (.supplyClassChange mv 3000)
        (settle { base with sb := { base.sb with supply := .fence } })) (fun t => t.sb.supply == .warn))
      = [false, true, true, false] := by decide +kernel

/-- `base` without console power. -/
def off : State := State.refresh { base with sb := { power := .keep, supplyMv := 0 } }

theorem witness_PowerIsLostAndReturns :
    2499 < 2500 ∧ live.sb.power ≠ .keep ∧ 2500 ≤ 2500 ∧ off.sb.power = .keep := by decide +kernel

/-- The last scrub with one day passed since the last reckoning. -/
def newDay : State :=
  let s := dayed 769323600 8904 [] []
  settle { stageOf 7 with cu := s.cu, dr := s.dr, sp := s.sp }

theorem witness_WakingStagesEnd :
    ∀ n ∈ [2, 3, 7], Settled (stageOf n) ∧ Quiet (stageOf n) ∧ (stageOf n).sb.power = .waking ∧ (stageOf n).sb.stage = n
      ∧ (stageOf n).sp.fetch = none ∧ (stageOf n).sp.reader = [] ∧ (stageOf n).slotCount ≤ 1
      ∧ (let s := { stageOf 7 with sb := { (stageOf 7).sb with scrubSlot := 0 } };
        Settled s ∧ Quiet s ∧ s.sb.scrubSlot < s.slotCount) := by
  decide +kernel

theorem witness_WakingStagesEnd_reckons :
    (let s := newDay; Settled s ∧ Quiet s ∧ s.sb.power = .waking ∧ s.sb.stage = 7 ∧ s.slotCount ≤ s.sb.scrubSlot
        ∧ s.cu.valid = true ∧ s.sb.supply ≠ .fence ∧ s.dr.l < (s.cu.seconds + 86400 - 18000) / 86400
        ∧ s.lp.await = none ∧ s.dr.table = [])
      ∧ (let s := settle { stageOf 7 with sb := { (stageOf 7).sb with supply := .fence } };
        Settled s ∧ Quiet s ∧ s.sb.supply = .fence ∧ s.cu.valid = false ∧ s.sb.stage = 7) := by
  decide +kernel

theorem witness_WakingStagesEnd_fires :
    let s := settle { newDay with dr := { newDay.dr with table := [entry 5 (.onDay 427)] } };
    Settled s ∧ Quiet s ∧ s.sb.power = .waking ∧ s.sb.stage = 7 ∧ s.slotCount ≤ s.sb.scrubSlot ∧ s.sb.supply ≠ .fence
      ∧ DaysOk s ∧ (listedIn 426 427 769323600 s).length = 1 := by decide +kernel

/-- R92, R187: the POWER_UP reckoning credits the new day and raises DAY_TURN. -/
theorem test_power_up_reckons :
    after (exec (.scrubSlotEnd 3000) newDay)
      (fun t => t.dr.g == 427 && t.dr.l == 8905 && Member.dayTurn.isIn t.au.latch && t.sb.power == .active) = true := by
  decide +kernel

/-- R71: the last slot's scrub makes the part ACTIVE; a blank face half is DAMAGED. -/
theorem test_scrub_ends :
    after (exec (.scrubSlotEnd 3000) (stageOf 7)) (fun t => t.sb.power == .active && t.sc.slots == [.damaged]) = true := by
  decide +kernel

/-- A format of a kind at its first write. -/
def formatting (kind : FormatKind) : State :=
  { stageOf 5 with sb := { (stageOf 5).sb with format := some { kind := kind, made := 0, ran := 0 } } }

theorem witness_FormatsEnd :
    ∀ k ∈ [FormatKind.full, .slots], let s := formatting k;
      s.sb.power = .waking ∧ s.sb.stage = 5 ∧ s.sb.supply ≠ .fence ∧ s.sc.op = none ∧ s.sc.layoutState = .usable
        ∧ s.lp.await = none ∧ Memory.wf s.keep ∧ s.sb.format = some ⟨k, 0, 0⟩ := by decide +kernel

/-- R185, R186: power lost just before a format's end finds the signature cleared, or the old layout recorded. -/
theorem test_format_cut_off :
    Memory.readAll ((formatting .full).elapse 7999).keep 0 16 = List.replicate 16 0
      ∧ recordedLayout ((formatting .slots).elapse 7999).keep = recordedLayout (formatting .slots).keep := by
  decide +kernel

/-! ### Invariants -/

/-- A state in use, about to flip: every invariant holds and the step answers a next state. -/
def flipping : State := { saving (some 1) (some (settleOp .commit 1)) with pending := [.flip] }

theorem witness_MemoryStaysCanonical : Memory.wf flipping.keep := by decide +kernel
theorem witness_EveryStepSettles : Calm flipping := by decide +kernel
theorem witness_SaveRecordsStaySound : SaveOk flipping := by decide +kernel
theorem witness_DayRecordsStaySound : DaysOk flipping ∧ flipping.sb.format = none := by decide +kernel
theorem witness_RingsStayBounded : RingOk flipping := by decide +kernel
theorem witness_LoaderStaysSound : LoaderOk flipping := by decide +kernel

/-- R61: the flip shows half B. -/
theorem test_step_flips : after (step flipping) (fun t => t.face == 1) = true := by decide +kernel

theorem witness_SettledStateShows : Settled live ∧ 0 < live.se.voices.length := by decide +kernel

theorem witness_FacesAreProtected :
    Calm flipping ∧ SaveOk flipping ∧ Memory.wf flipping.keep ∧ flipping.sb.format = none ∧ 1 ≤ flipping.slotCount
      ∧ inFace flipping 1 4096 ∧ inFace flipping 1 12319 := by decide +kernel

end Sys2Proof.Tests
end

section
/-! SUPPORT. Settled states: what the close of a request leaves of a state that a request has changed in part, and
what the store's service leaves of the voices. -/

namespace Sys2Proof.Machine

open Sys2Proof.Safety

/-! ### The report of conditions on a changed state -/

/-- R159: what the owners hold is read from the slot states, the fired list, the clock's validity and the supply
record alone. -/
theorem State.ownerLevels_congr {s t : State} (hsc : t.sc = s.sc) (hdr : t.dr = s.dr)
    (hcu : t.cu.valid = s.cu.valid) (hc : t.sb.supply = s.sb.supply) (hl : t.sb.cell = s.sb.cell)
    (hp : t.sb.profileStatus = s.sb.profileStatus) : t.ownerLevels = s.ownerLevels := by
  have hold : t.holds = s.holds := by
    funext m
    cases m <;> simp [State.holds, State.damagedSet, hsc, hdr, hcu, hc, hl, hp]
  simp [State.ownerLevels, hold]

/-- R159: in a state whose conditions are reported, the levels and the details of conditions are the owners'. -/
theorem State.reported_iff (s : State) :
    s.report = s ↔ (s.sb.power.awake = true → s.au.level = s.ownerLevels
      ∧ s.au.details.slotDamaged = s.damagedSet ∧ s.au.details.firedWaiting = s.dr.fired.length) := by
  have keeps : ∀ a b : MemberSet, a ||| (b &&& ~~~ b) = a := fun a b => by
    apply BitVec.eq_of_getLsbD_eq
    intro i hi
    simp
  unfold State.report
  split
  · rename_i ha
    constructor
    · intro h _
      have h1 := congrArg (·.au.level) h
      have h2 := congrArg (·.au.details.slotDamaged) h
      have h3 := congrArg (·.au.details.firedWaiting) h
      exact ⟨h1.symm, h2.symm, h3.symm⟩
    · intro h
      obtain ⟨h1, h2, h3⟩ := h ha
      unfold State.syncConditions
      rw [← h1, ← h2, ← h3, keeps]
  · rename_i ha
    simp [ha]

/-- R159: a change that leaves the owners of conditions and their levels alone leaves nothing to report. -/
theorem State.report_of_reported {s t : State} (h : s.report = s) (hsc : t.sc = s.sc) (hdr : t.dr = s.dr)
    (hcu : t.cu.valid = s.cu.valid) (hc : t.sb.supply = s.sb.supply) (hl : t.sb.cell = s.sb.cell)
    (hp : t.sb.profileStatus = s.sb.profileStatus) (ha : t.sb.power.awake = true → s.sb.power.awake = true)
    (h1 : t.au.level = s.au.level) (h2 : t.au.details.slotDamaged = s.au.details.slotDamaged)
    (h3 : t.au.details.firedWaiting = s.au.details.firedWaiting) : t.report = t := by
  rw [State.reported_iff] at h ⊢
  intro hw
  obtain ⟨e1, e2, e3⟩ := h (ha hw)
  rw [h1, h2, h3, State.ownerLevels_congr hsc hdr hcu hc hl hp, hdr]
  exact ⟨e1, by rw [e2, State.damagedSet, State.damagedSet, hsc], e3⟩

/-! ### The store's service on a changed state -/

/-- R33: every request flag as it is evaluated anew. -/
theorem State.markRequests_voices (s : State) :
    s.markRequests.se.voices = s.se.voices.mapIdx fun n v =>
      { v with request := (s.sb.power == .active) && v.wantsFetch && !fetchFor s.sp.fetch n v.generation } := rfl

@[simp] theorem State.grant_voices (s : State) : s.grant.se.voices = s.se.voices := by rw [State.grant_eq]

/-- R33: the store's service changes nothing of a voice but its request flag, which an IDLE voice does not have set. -/
theorem State.serviceStore_voices (s : State) :
    ∃ r : Nat → Voice → Bool,
      s.serviceStore.se.voices = s.se.voices.mapIdx (fun n v => { v with request := r n v })
        ∧ ∀ n v, v.state = .idle → r n v = false := by
  unfold State.serviceStore
  rw [State.markRequests_voices, State.grant_voices, State.markRequests_voices, List.mapIdx_mapIdx]
  refine ⟨_, rfl, fun n v hv => ?_⟩
  simp [Voice.wantsFetch, Voice.busy, hv]

/-- R33, R34: a grant looks at the voices, the store port, the power state, the stage and the time alone. -/
theorem State.grant_congr {s t : State} (hv : t.se.voices = s.se.voices) (hsp : t.sp = s.sp)
    (hp : t.sb.power = s.sb.power) (hst : t.sb.stage = s.sb.stage) (hn : t.now = s.now) :
    t.grant.sp = s.grant.sp := by
  have hvoice : t.voice = s.voice := by funext n; simp [State.voice, hv]
  have hfetch : t.newFetch = s.newFetch := by funext r g a n; simp [State.newFetch, hn]
  have hpick : t.pickVoice = s.pickVoice := by funext b; simp [State.pickVoice, hvoice, hsp]
  have hgrant : ∀ n, (t.grantVoice n).sp = (s.grantVoice n).sp := by
    intro n; simp [State.grantVoice, hvoice, hfetch, hsp]
  have hload : t.loaderFetch = s.loaderFetch := by simp [State.loaderFetch, hsp, hfetch]
  have hread : t.readerFetch = s.readerFetch := by
    unfold State.readerFetch State.readerSpan
    rw [hsp, hst, hfetch]
  unfold State.grant
  rw [hsp, hp, hpick, hload, hread]
  repeat' split
  all_goals simp only [hsp, hgrant]

/-- R33, R34: a store port that has been served stays so under a change that it does not look at. -/
theorem State.serviceStore_of_serviced {s t : State} (h : s.serviceStore = s) (hv : t.se.voices = s.se.voices)
    (hsp : t.sp = s.sp) (hp : t.sb.power = s.sb.power) (hst : t.sb.stage = s.sb.stage) (hn : t.now = s.now) :
    t.serviceStore = t := by
  have hm : t.markRequests.se.voices = s.markRequests.se.voices := by
    rw [State.markRequests_voices, State.markRequests_voices, hv, hp, hsp]
  have hg : t.markRequests.grant.sp = s.markRequests.grant.sp :=
    State.grant_congr hm hsp hp hst hn
  have hpower : ∀ u : State, u.markRequests.grant.sb.power = u.sb.power := fun u => by
    rw [State.grant_eq]; rfl
  have voices : t.serviceStore.se.voices = t.se.voices := by
    calc t.serviceStore.se.voices = s.serviceStore.se.voices := by
          simp only [State.serviceStore, State.markRequests_voices, State.grant_voices, hpower, hg, hp, hsp, hv]
      _ = t.se.voices := by rw [h, hv]
  have port : t.serviceStore.sp = t.sp := by
    calc t.serviceStore.sp = s.serviceStore.sp := hg
      _ = t.sp := by rw [h, hsp]
  rw [State.serviceStore_eq, voices, port]

/-- A map that does not look at the place of an element. -/
theorem mapIdx_placeless {α β : Type} (f : α → β) (l : List α) : (l.mapIdx fun _ a => f a) = l.map f := by
  apply List.ext_getElem?
  simp

/-- R33, R43: in STANDBY no request is formed. -/
theorem State.markRequests_of_standby {s : State} (hp : s.sb.power = .standby) :
    s.markRequests
      = { s with se := { s.se with voices := s.se.voices.map fun v => { v with request := false } } } := by
  have inactive : (PowerState.standby == PowerState.active) = false := rfl
  simp only [State.markRequests, hp, inactive, Bool.false_and, mapIdx_placeless]

/-- R43: in STANDBY the store port grants nothing and forms no request. -/
theorem State.serviceStore_of_standby {s : State} (hp : s.sb.power = .standby) :
    s.serviceStore = { s with se := { s.se with voices := s.se.voices.map fun v => { v with request := false } } } := by
  have hg : s.markRequests.grant = s.markRequests := by
    have hpm : s.markRequests.sb.power = .standby := hp
    unfold State.grant
    rw [hpm]
    split <;> rfl
  unfold State.serviceStore
  rw [hg, State.markRequests_of_standby (s := s.markRequests) hp, State.markRequests_of_standby hp]
  simp [Function.comp_def]

/-- R33: the store's service leaves each voice its use. -/
theorem State.serviceStore_voice (s : State) (n : Nat) : SameUse (s.serviceStore.voice n) (s.voice n) := by
  obtain ⟨r, hr, -⟩ := s.serviceStore_voices
  simp only [State.voice, hr, List.getD_eq_getElem?_getD, List.getElem?_mapIdx]
  cases s.se.voices[n]? <;> rfl

/-- R33: between events an IDLE voice has no fetch request. -/
theorem request_of_idle {s : State} (h : s.serviceStore = s) {v : Voice} (hv : v ∈ s.se.voices) (hi : v.state = .idle) :
    v.request = false := by
  obtain ⟨r, hr, hidle⟩ := s.serviceStore_voices
  rw [h] at hr
  rw [hr, List.mem_mapIdx] at hv
  obtain ⟨n, hn, rfl⟩ := hv
  exact hidle n _ hi

/-! ### The close of an event -/

/-- What the store's service and the recomputed values leave of a state at the close of an event: `t` is `s` but for
the request flags, the grant, and the values that are recomputed. -/
structure Closes (s t : State) : Prop where
  voice : ∀ n, SameUse (t.voice n) (s.voice n)
  engine : SameEngine s t
  store : SameStore s t
  attention : SameAttention s t
  rumble : SameRumble s t
  supply : SameSupply s t
  keep : SameKeep s t
  sc : t.sc = s.sc
  now : t.now = s.now
  share : t.sb.u = audioShare s.se.amp

theorem State.closes (s : State) : Closes s s.serviceStore.refresh where
  voice := s.serviceStore_voice
  engine := by rw [State.serviceStore_eq]; exact ⟨rfl, rfl, rfl, rfl, rfl, rfl, rfl⟩
  store := by rw [State.serviceStore_eq]; exact ⟨rfl, rfl, rfl, rfl, rfl⟩
  attention := by rw [State.serviceStore_eq]; rfl
  rumble := by rw [State.serviceStore_eq]; rfl
  supply := by rw [State.serviceStore_eq]; rfl
  keep := by rw [State.serviceStore_eq]; exact ⟨rfl, rfl, rfl, rfl⟩
  sc := by rw [State.serviceStore_eq]; rfl
  now := by rw [State.serviceStore_eq]; rfl
  share := by rw [State.serviceStore_eq]; rfl

theorem Closes.layers {s t : State} (h : Closes s t) : t.ru.layers = s.ru.layers := by rw [← h.rumble]

theorem Closes.cue {s t : State} (h : Closes s t) (n : Nat) : t.cue n = s.cue n := by
  simp only [State.cue]
  rw [← h.rumble]

theorem Closes.latch {s t : State} (h : Closes s t) : t.au.latch = s.au.latch := by rw [← h.attention]

theorem Closes.details {s t : State} (h : Closes s t) : t.au.details = s.au.details := by rw [← h.attention]

/-- A voice's use is the same as an equal record's. -/
theorem sameUse_of_eq {v w x : Voice} (h : SameUse v w) (e : w = x) : SameUse v x := e ▸ h

/-! ### Requests that change the state -/

/-- R176: a request that its block serves with a reply, from a listening part, comes to its close with the parser idle
and the reply held. -/
theorem request_replied {s u : State} {h : ReqHead} {k : Byte} {svc : Service} {c : Code} {p : List Byte}
    (hl : Listening s) (hu : svc .active { s with lp := s.lp.idleParser } = (u, some ⟨c, p⟩))
    (hlp : u.lp = s.lp.idleParser) (hr : u.report = u) :
    request h k svc s = .next ({ u with lp := (answered s k h c p).lp }).serviceStore.refresh := by
  have hreply : State.answer k h.tag h.extra (u, some ⟨c, p⟩) = { u with lp := (answered s k h c p).lp } := by
    simp only [State.answer, State.holdReply, hlp]
    rfl
  have hrep : ({ u with lp := (answered s k h c p).lp } : State).report = { u with lp := (answered s k h c p).lp } := by
    rw [State.report_withLp, hr]
  rw [request_listening s h k svc hl, hu, hreply, State.concludeRequest, hrep]

/-- R176: the same, said of the next state by what the close of the request leaves of the state served. -/
theorem request_closes {s u : State} {h : ReqHead} {k : Byte} {svc : Service} {c : Code} {p : List Byte}
    (hl : Listening s) (hu : svc .active { s with lp := s.lp.idleParser } = (u, some ⟨c, p⟩))
    (hlp : u.lp = s.lp.idleParser) (hr : u.report = u) :
    ∃ t, request h k svc s = .next t ∧ t.lp = (answered s k h c p).lp ∧ Closes u t := by
  have hc := State.closes { u with lp := (answered s k h c p).lp }
  exact ⟨_, request_replied hl hu hlp hr, by simp, hc.voice, hc.engine, hc.store, hc.attention, hc.rumble, hc.supply,
    hc.keep, hc.sc, hc.now, hc.share⟩

/-- R176: a request refused changes nothing but the reply held and the parser. -/
theorem request_refused {s : State} {h : ReqHead} {k : Byte} {svc : Service} {c : Code}
    (hl : Listening s) (hu : svc .active { s with lp := s.lp.idleParser } = refuse { s with lp := s.lp.idleParser } c) :
    request h k svc s = .next (answered s k h c []) :=
  request_unchanged s h k svc hl c [] hu

end Sys2Proof.Machine
end

section
/-! The requests on the mix and on standby: MIX-SET (R16, R17) and STANDBY-ENTER (R18, R43, R137, R151, R152). -/

namespace Sys2Proof.Proofs

open Sys2Proof Sys2Proof.Machine Sys2Proof.Safety

/-- A flag field that is 00h or 01h is carried back as it came. -/
theorem flagByte_of_flag {b : Byte} (h : b = 0 ∨ b = 1) : flagByte (b == 1) = b := by
  rcases h with rfl | rfl <;> rfl

/-- R16, R17: the engine that a MIX-SET makes, by its hold field. -/
theorem mix_eq (e : SoundEngine) (gain ceiling : Nat) (hold : Byte) :
    e.mix gain (hold == 1) ceiling = { e with
      master := gain, effMaster := min gain ceiling, hold := decide (hold = 1)
      amp := if hold = 1 then true else if e.idleBlocks = 512 then false else e.amp } := by
  have hheld : (hold == 1) = decide (hold = 1) := rfl
  have hidle : (e.amp && e.idleBlocks != 512) = if e.idleBlocks = 512 then false else e.amp := by
    split <;> simp [*]
  unfold SoundEngine.mix
  rw [hheld, hidle]
  simp only [decide_eq_true_eq]

/-- R16: MIX-SET's service. -/
theorem serveMixSet_eq (gain : Half) (hold : Byte) (p : PowerState) (s : State) :
    serveMixSet gain hold p s =
      if 32767 < gain.toNat ∨ (hold ≠ 0 ∧ hold ≠ 1) then refuse s .range
      else
        let amp := if hold = 1 then true else if s.se.idleBlocks = 512 then false else s.se.amp
        serve
          { s with se := { s.se with
              master := gain.toNat, effMaster := min gain.toNat s.sb.audio, hold := decide (hold = 1), amp := amp } }
          .ok (halfBytes gain ++ leBytes 2 (min gain.toNat s.sb.audio) ++ [hold, if amp then 1 else 0]) := by
  unfold serveMixSet
  split
  · rfl
  · rename_i hr
    have hflag : hold = 0 ∨ hold = 1 := by
      by_contra hn
      exact hr (.inr ⟨fun e => hn (.inl e), fun e => hn (.inr e)⟩)
    have hback : flagByte (decide (hold = 1)) = hold := flagByte_of_flag hflag
    simp only [mix_eq, hback]
    rfl

/-- Settles O21: the served engine is the one the statement names but for the effective master gain, which the close
of the request computes again. -/
theorem mixSetSetsTheEngine : Obligations.MixSetSetsTheEngine := by
  unfold Obligations.MixSetSetsTheEngine
  intro h gain hold s hl amp
  split
  · rename_i hr
    refine request_refused hl ?_
    rw [serveMixSet_eq, if_pos hr]
  · rename_i hr
    have hu := serveMixSet_eq gain hold .active { s with lp := s.lp.idleParser }
    rw [if_neg hr] at hu
    have hserved := request_replied (h := h) (k := Kind.mixSet) hl hu rfl
      (State.report_of_reported hl.1.1 rfl rfl rfl rfl rfl rfl id rfl rfl rfl)
    refine hserved.trans (congrArg Host.Outcome.next ?_)
    rw [State.serviceStore_of_serviced hl.1.2.1]
    all_goals rfl

/-- R18, R43, R137, R152: what the entry to STANDBY leaves. -/
theorem enterStandby_eq (s : State) :
    s.enterStandby = { s with
      se := { s.se with
        voices := s.se.voices.map fun v => if v.state = .idle then v else endedUse v
        amp := false, idleBlocks := 0 }
      sp := { s.sp with fetch := abandonFetch s.sp.fetch, loadList := [], load := none }
      ru := { s.ru with
        layers := s.ru.layers.map fun l => if l.state = .idle then l else { l with state := .idle, value := 0, output := 0 }
        cues := s.ru.cues.map fun c => { c with state := .unarmed } }
      sb := { s.sb with power := .standby } } := by
  have hvoice : (fun v : Voice => if v.busy then v.endUse else v)
      = fun v => if v.state = .idle then v else endedUse v := by
    funext v
    by_cases h : v.state = .idle <;> simp [Voice.busy, h, Voice.endUse, endedUse]
  have hlayer : (fun l : Layer => if l.busy then l.stop else l)
      = fun l => if l.state = .idle then l else { l with state := .idle, value := 0, output := 0 } := by
    funext l
    by_cases h : l.state = .idle <;> simp [Layer.busy, h, Layer.stop]
  simp only [State.enterStandby, State.mapVoices, State.stopLayers, State.mapLayers, State.purgeQueue, State.disarm,
    State.mapCues, Bool.true_and, if_true, mapIdx_placeless, hvoice, hlayer]
  rfl

/-- R33: a part that is listening has no request flag to clear of the voices that STANDBY leaves IDLE. -/
theorem endedVoices_request {s : State} (h : s.serviceStore = s) :
    (s.se.voices.map fun v => if v.state = .idle then v else endedUse v).map (fun v => { v with request := false })
      = s.se.voices.map fun v => if v.state = .idle then v else endedUse v := by
  rw [List.map_map]
  apply List.map_congr_left
  intro v hv
  by_cases hi : v.state = .idle
  · have hr := request_of_idle h hv hi
    simp only [Function.comp_apply, if_pos hi]
    rw [← hr]
  · simp [hi, endedUse]

/-- Settles O47: STANDBY-ENTER's service leaves a state with nothing to report, no request flag and nothing to grant,
so that its close computes the recomputed values alone. -/
theorem standbyIsEntered : Obligations.StandbyIsEntered := by
  unfold Obligations.StandbyIsEntered
  intro h s hl operation endLayer disarmed
  have hawake : s.sb.power.awake = true := by rw [hl.2.1]; rfl
  have hop : opBytes s.sc.op = operation := by
    simp only [operation]
    cases s.sc.op <;> rfl
  have hdef : flagByte s.dr.deferred.isSome = if s.dr.deferred = none then 0 else 1 := by
    cases s.dr.deferred <;> rfl
  have hu : serveStandbyEnter .active { s with lp := s.lp.idleParser }
      = (({ s with lp := s.lp.idleParser } : State).enterStandby,
        some ⟨.ok, [0] ++ operation ++ [if s.dr.deferred = none then 0 else 1, s.sb.supply.byte]⟩) := by
    rw [← hop, ← hdef]
    simp only [serveStandbyEnter, enterStandby_eq]
    rfl
  rw [enterStandby_eq] at hu
  have hserved := request_replied (h := h) (k := Kind.standbyEnter) hl hu rfl
    (State.report_of_reported hl.1.1 rfl rfl rfl rfl rfl rfl (fun _ => hawake) rfl rfl rfl)
  refine hserved.trans (congrArg Host.Outcome.next ?_)
  rw [State.serviceStore_of_standby rfl]
  simp only [endedVoices_request hl.1.2.1]
  rfl

end Sys2Proof.Proofs
end

section
/-! The requests that only read (R15, R70, R80, R102, R111, R136, R150, R163, R165, R178). -/

namespace Sys2Proof.Proofs

open Sys2Proof Sys2Proof.Machine Sys2Proof.Safety

/-! ### Services that change no state -/

/-- A service that answers and leaves the state as it is. -/
def ReadsOnly (svc : Service) : Prop := ∀ p s, ∃ code payload, svc p s = serve s code payload

theorem serveHello_reads : ReadsOnly serveHello := fun _ _ => ⟨_, _, rfl⟩
theorem serveWatchRead_reads : ReadsOnly serveWatchRead := fun _ _ => ⟨_, _, rfl⟩
theorem serveClockRead_reads : ReadsOnly serveClockRead := fun _ _ => ⟨_, _, rfl⟩
theorem serveDaysRead_reads : ReadsOnly serveDaysRead := fun _ _ => ⟨_, _, rfl⟩
theorem serveRumbleQuery_reads : ReadsOnly serveRumbleQuery := fun _ _ => ⟨_, _, rfl⟩
theorem serveBudgetRead_reads : ReadsOnly serveBudgetRead := fun _ _ => ⟨_, _, rfl⟩

theorem serveReasonsSummary_reads (groups : Byte) : ReadsOnly (serveReasonsSummary groups) := fun _ s => by
  unfold serveReasonsSummary
  split <;> exact ⟨_, _, rfl⟩

theorem serveVoiceQuery_reads (voice : Byte) : ReadsOnly (serveVoiceQuery voice) := fun _ s => by
  unfold serveVoiceQuery
  split <;> exact ⟨_, _, rfl⟩

theorem serveSlotList_reads : ReadsOnly serveSlotList := fun _ s => by
  unfold serveSlotList
  split <;> exact ⟨_, _, rfl⟩

theorem serveEntryList_reads (first : Byte) : ReadsOnly (serveEntryList first) := fun _ s => by
  unfold serveEntryList
  split <;> exact ⟨_, _, rfl⟩

theorem serveSlotRead_reads (slot : Byte) (offset : Half) (count : Byte) (generation : Quad) :
    ReadsOnly (serveSlotRead slot offset count generation) := fun _ s => by
  unfold serveSlotRead
  split
  · exact ⟨_, _, rfl⟩
  · split <;> exact ⟨_, _, rfl⟩

/-- The kinds of the requests that only read, but for the SUMMARY form of REASONS-TAKE. -/
def readingKinds : List Byte :=
  [Kind.hello, Kind.watchRead, Kind.voiceQuery, Kind.slotRead, Kind.slotList, Kind.clockRead, Kind.daysRead,
    Kind.entryList, Kind.rumbleQuery, Kind.budgetRead]

/-- Each of the requests that only read runs a service that changes no state. -/
theorem reading_request {c : Instr} {h : ReqHead} {k : Byte} {p : List Byte} (he : encodeRequest c = some (h, k, p))
    (hk : k ∈ readingKinds ∨ ∃ g, c = .reasonsTakeSummary h g) :
    ∃ svc, ReadsOnly svc ∧ ∀ s, exec c s = request h k svc s := by
  cases c
  case hello h' => cases he; exact ⟨_, serveHello_reads, fun _ => rfl⟩
  case watchRead h' => cases he; exact ⟨_, serveWatchRead_reads, fun _ => rfl⟩
  case reasonsTakeSummary h' g => cases he; exact ⟨_, serveReasonsSummary_reads g, fun _ => rfl⟩
  case voiceQuery h' v => cases he; exact ⟨_, serveVoiceQuery_reads v, fun _ => rfl⟩
  case slotRead h' n o c g => cases he; exact ⟨_, serveSlotRead_reads n o c g, fun _ => rfl⟩
  case slotList h' => cases he; exact ⟨_, serveSlotList_reads, fun _ => rfl⟩
  case clockRead h' => cases he; exact ⟨_, serveClockRead_reads, fun _ => rfl⟩
  case daysRead h' => cases he; exact ⟨_, serveDaysRead_reads, fun _ => rfl⟩
  case entryList h' i => cases he; exact ⟨_, serveEntryList_reads i, fun _ => rfl⟩
  case rumbleQuery h' => cases he; exact ⟨_, serveRumbleQuery_reads, fun _ => rfl⟩
  case budgetRead h' => cases he; exact ⟨_, serveBudgetRead_reads, fun _ => rfl⟩
  all_goals
    cases he
    all_goals
      rcases hk with hk | ⟨g, hg⟩
      · exact absurd hk (by decide)
      · cases hg

/-- R176: what a listening part answers to a request served without a change of state. -/
theorem request_reads {s : State} {h : ReqHead} {k : Byte} {svc : Service} {c : Code} {p q : List Byte}
    (hl : Listening s) (hs : svc .active { s with lp := s.lp.idleParser } = serve { s with lp := s.lp.idleParser } c q)
    (hq : q = p) : request h k svc s = .next (answered s k h c p) :=
  request_unchanged s h k svc hl c p (hq ▸ hs)

/-! ### The bytes of the replies -/

/-- R178: the fields HELLO shows in ACTIVE. -/
theorem serveHello_active {s : State} (hp : s.sb.power = .active) :
    serveHello .active s = serve s .ok ([0x40, 0x03, 0x01, 1, 0, s.sb.profileStatus.byte]
      ++ leBytes 4 (if s.sb.profileStatus = .fromStore then s.sp.profile.gameCode else 0)
      ++ leBytes 2 (if s.sb.profileStatus = .notRead then 0 else s.sp.profile.storeUnits)
      ++ [if s.sb.formatKind = none then 0 else if s.sb.formatKind = some .full then 1 else 2,
        if s.sc.layoutState = .noLayout then 1 else 0, 8]
      ++ leBytes 1 (if s.sb.profileStatus = .notRead then 0 else s.slotCount) ++ [3, 4, 32, 16]) := by
  have hstage : s.helloStage = 0 := by simp [State.helloStage, hp]
  have hkind : formatKindByte s.sb.formatKind
      = if s.sb.formatKind = none then 0 else if s.sb.formatKind = some .full then 1 else 2 := by
    rcases s.sb.formatKind with _ | _ | _ <;> rfl
  have hlayout : s.sc.layoutState.byte = if s.sc.layoutState = .noLayout then 1 else 0 := by
    cases s.sc.layoutState <;> rfl
  unfold serveHello
  rw [hstage, hkind, hlayout, hp]
  simp only [State.helloCode, State.whenRead, List.append_assoc]
  rfl

/-- R165: a property of some member of a group. -/
theorem groupMembers_any (g : Nat) (q : Member → Bool) :
    (groupMembers g).any q = Member.all.any fun m => decide (m.group = g) && q m := by
  unfold groupMembers
  rw [List.any_filter]
  rfl

/-- R165: the fields of the SUMMARY form. -/
theorem summary_payload (s : State) :
    counted (List.range 6) s.au.groupSummary ++ [flagByte (s.notice == 0)]
      = 6 :: ((List.range 6).flatMap (fun g =>
          [flagByte (Member.all.any fun m => decide (m.group = g) && (m.isIn s.au.latch || m.isIn s.au.woke)),
            flagByte (Member.all.any fun m => decide (m.group = g) && m.isIn s.au.level)])
        ++ [flagByte (decide ((s.au.latch &&& s.au.watch) ||| s.au.woke = 0))]) := by
  have hsum : s.au.groupSummary = fun g =>
      [flagByte (Member.all.any fun m => decide (m.group = g) && (m.isIn s.au.latch || m.isIn s.au.woke)),
        flagByte (Member.all.any fun m => decide (m.group = g) && m.isIn s.au.level)] := by
    funext g
    rw [Attention.groupSummary, groupMembers_any, groupMembers_any]
  rw [hsum]
  rfl

/-- R33: whether a fetch for a voice at a generation is in flight, said of the fetch. -/
theorem fetchFor_eq_any (f : Option Fetch) (n : Nat) (g : BitVec 8) :
    fetchFor f n g = f.any fun f => decide (f.requester = .voice n ∧ f.generation = g) := by
  cases f with
  | none => rfl
  | some f => simp [fetchFor, beq_eq_decide, Bool.decide_and]

/-- R194: a marker field, its present and report flags and its index. -/
theorem markerBytes_eq (m : Option Marker) :
    markerBytes m = match m with
      | none => [0, 0, 0, 0]
      | some m => (if m.report then 3 else 1) :: leBytes 3 m.index := by
  cases m <;> rfl

/-- R1: the format's code. -/
theorem formatByte_eq (f : SampleFormat) : f.byte = if f = .pcm16 then 1 else 0 := by cases f <;> rfl

/-- R70: one slot's flags byte. -/
theorem slotFlags_eq (a b c : Bool) :
    (flagByte a ||| (flagByte b <<< 1) ||| (flagByte c <<< 2) : Byte)
      = BitVec.ofNat 8 (a.toNat + 2 * b.toNat + 4 * c.toNat) := by
  cases a <;> cases b <;> cases c <;> rfl

/-- R96: the causes of a deferred reckoning as carried. -/
theorem causesByte_eq (c : Causes) :
    c.byte = BitVec.ofNat 8 (c.rollover.toNat + 2 * c.powerUp.toNat + 4 * c.clockSet.toNat + 8 * c.restart.toNat) := by
  obtain ⟨a, b, c, d⟩ := c
  cases a <;> cases b <;> cases c <;> cases d <;> rfl

/-- R189: a 2-byte field carried as it came. -/
theorem leBytes_half (w : Half) : leBytes 2 w.toNat = halfBytes w := by
  simp only [leBytes, halfBytes, List.cons.injEq, and_true]
  constructor <;> apply BitVec.eq_of_toNat_eq <;> simp [BitVec.extractLsb'_toNat, Nat.shiftRight_eq_div_pow]

/-- R189: a 4-byte field carried as it came. -/
theorem leBytes_quad (w : Quad) : leBytes 4 w.toNat = quadBytes w := by
  simp only [leBytes, quadBytes, List.cons.injEq, and_true]
  refine ⟨?_, ?_, ?_, ?_⟩ <;> apply BitVec.eq_of_toNat_eq <;>
    simp [BitVec.extractLsb'_toNat, Nat.shiftRight_eq_div_pow, Nat.div_div_eq_div_mul]

/-- R15: the fields of VOICE-QUERY. -/
theorem queryBytes_eq (v : Voice) (f : Option Fetch) (n : Nat) :
    v.queryBytes (fetchFor f n v.generation)
      = [v.state.byte, v.generation] ++ leBytes 1 v.priority ++ leBytes 2 v.age
        ++ [if v.format = .pcm16 then 1 else 0] ++ leBytes 3 v.start ++ leBytes 3 v.length ++ leBytes 3 v.loopStart
        ++ leBytes 3 v.loopLength ++ leBytes 3 v.posInt ++ leBytes 2 v.posFrac ++ leBytes 3 v.step
        ++ signedBytes 2 v.gain ++ signedBytes 2 v.target ++ leBytes 2 v.ramp ++ markerBytes v.marker0
        ++ markerBytes v.marker1 ++ leBytes 1 v.ring.length ++ leBytes 1 v.owed ++ leBytes 3 v.fetchAddr
        ++ [flagByte v.request,
          flagByte (f.any fun f => decide (f.requester = .voice n ∧ f.generation = v.generation))]
        ++ leBytes 1 v.priming := by
  rw [← fetchFor_eq_any, ← formatByte_eq]
  rfl

/-- R70: the stamps of a slot show unless it is DAMAGED with a header that is not valid. -/
abbrev StampsShow (s : State) (i : Nat) : Prop :=
  s.sc.slots.getD i .empty ≠ .damaged
    ∨ headerValid (Memory.readAll s.keep (s.faceAddr (i + 1)) 32) (i + 1) (s.slotSize (i + 1)) = true

theorem stamp_eq (s : State) (i : Nat) (f : List Byte → Option Nat) :
    s.stamp (i + 1) f = if StampsShow s i then f (Memory.readAll s.keep (s.faceAddr (i + 1)) 32) else none := by
  have hshow : (s.slotState (i + 1) = .damaged ∧ (!s.faceValid (i + 1)) = true) ↔ ¬ StampsShow s i := by
    simp [StampsShow, State.slotState, State.faceValid, State.faceHeader]
  simp only [State.stamp, hshow, ite_not]
  rfl

/-- R70: the day stamp of a slot, its present flag and its bytes. -/
theorem dayStamp_eq (s : State) (i : Nat) :
    let header := Memory.readAll s.keep (s.faceAddr (i + 1)) 32
    let hasDay := decide (StampsShow s i ∧ (byteAt header 12).getLsbD 0 = true)
    (s.stamp (i + 1) headerDay).isSome = hasDay
      ∧ leBytes 2 ((s.stamp (i + 1) headerDay).getD 0) = if hasDay then halfBytes (half header 13) else [0, 0] := by
  intro header hasDay
  rw [stamp_eq, headerDay]
  by_cases hs : StampsShow s i
  · by_cases hb : (byteAt header 12).getLsbD 0 = true
    · simp only [hasDay, header, hs, hb, if_true, decide_true, Option.isSome_some, Option.getD_some, leBytes_half, and_self]
    · simp only [hasDay, header, hs, hb, if_true, true_and, and_false, decide_false, Bool.false_eq_true, if_false,
        Option.isSome_none, Option.getD_none]
      rfl
  · simp only [hasDay, hs, if_false, false_and, decide_false, Bool.false_eq_true, Option.isSome_none, Option.getD_none,
      true_and]
    rfl

/-- R70: the clock stamp of a slot, its present flag and its bytes. -/
theorem clockStamp_eq (s : State) (i : Nat) :
    let header := Memory.readAll s.keep (s.faceAddr (i + 1)) 32
    let hasClock := decide (StampsShow s i ∧ (byteAt header 12).getLsbD 1 = true)
    (s.stamp (i + 1) headerClock).isSome = hasClock
      ∧ leBytes 4 ((s.stamp (i + 1) headerClock).getD 0)
        = if hasClock then quadBytes (quad header 15) else [0, 0, 0, 0] := by
  intro header hasClock
  rw [stamp_eq, headerClock]
  by_cases hs : StampsShow s i
  · by_cases hb : (byteAt header 12).getLsbD 1 = true
    · simp only [hasClock, header, hs, hb, if_true, decide_true, Option.isSome_some, Option.getD_some, leBytes_quad, and_self]
    · simp only [hasClock, header, hs, hb, if_true, true_and, and_false, decide_false, Bool.false_eq_true, if_false,
        Option.isSome_none, Option.getD_none]
      rfl
  · simp only [hasClock, hs, if_false, false_and, decide_false, Bool.false_eq_true, Option.isSome_none,
      Option.getD_none, true_and]
    rfl

/-- R50, R70: the extent that a slot shows. -/
theorem readExtent_eq (s : State) (i : Nat) :
    s.readExtent (i + 1) = if s.sc.slots.getD i .empty = .empty then 0
      else min (half (Memory.readAll s.keep (s.faceAddr (i + 1)) 32) 8).toNat (s.slotSize (i + 1)) := by
  unfold State.readExtent
  rw [Nat.add_sub_cancel]
  cases s.sc.slots.getD i .empty <;> rfl

/-- R98, R192: an entry's bytes, its target and its action written out. -/
theorem entryBytes_eq (e : Entry) :
    e.bytes = leBytes 1 e.id ++ [e.kind.byte, flagByte e.due, flagByte e.action.isSome]
      ++ (match e.kind with
        | .onDay d => leBytes 2 d ++ [0, 0]
        | .every q f => leBytes 2 q ++ leBytes 2 f
        | .onClock c => leBytes 4 c)
      ++ leBytes 2 e.tag
      ++ (match e.action with
        | some a => leBytes 1 a.pattern ++ leBytes 1 a.layer ++ leBytes 1 a.priority ++ leBytes 1 a.scale
        | none => [0, 0, 0, 0])
      ++ leBytes 2 e.accumulated ++ leBytes 2 e.latest := by
  obtain ⟨id, kind, tag, action, due, acc, latest⟩ := e
  cases kind <;> cases action <;> rfl

/-- R121, R136: a layer's bytes, the passes left written out. -/
theorem layerBytes_eq (l : Layer) :
    l.bytes = [l.state.byte] ++ leBytes 1 l.id ++ leBytes 1 l.priority ++ leBytes 1 l.scale ++ leBytes 1 l.step
      ++ leBytes 1 l.tick ++ [match l.passes with | .left n => BitVec.ofNat 8 n | .endless => 255]
      ++ leBytes 1 l.start ++ leBytes 1 l.value ++ leBytes 1 l.output := by
  obtain ⟨state, id, priority, scale, step, tick, passes, start, value, output, pattern⟩ := l
  cases passes <;> rfl

/-- R136: a host slot's bytes. -/
theorem hostBytes_eq (q : Option Pattern) :
    hostBytes q = match q with
      | none => [0, 0]
      | some q => leBytes 1 q.steps.length ++ leBytes 1 q.revision := by
  cases q <;> rfl

/-- R136: a cache entry is in use when a busy layer has its id. -/
theorem cacheInUse_eq (s : State) (id : Nat) :
    s.cacheInUse id = s.ru.layers.any fun l => decide (l.state ≠ .idle ∧ l.id = id) := by
  unfold State.cacheInUse
  congr 1
  funext l
  simp [Layer.busy, bne, beq_eq_decide, Bool.decide_and, decide_not]

/-- R190: a slot's operation byte. -/
theorem opByte_eq (op : Option KeepOp) (n : Nat) :
    opByte op n = match op with
      | some op => if op.slot = n then op.phase.byte else 0
      | none => 0 := by
  cases op <;> rfl

/-- Settles O12: every request that only reads runs a service that changes no state, and the bytes it answers are
those of the statement, field by field. -/
theorem queriesChangeNothing : Obligations.QueriesChangeNothing := by
  unfold Obligations.QueriesChangeNothing
  refine ⟨fun c h k p s he hl hk => ?_, ?_⟩
  · obtain ⟨svc, hsvc, hexec⟩ := reading_request he hk
    obtain ⟨code, payload, hs⟩ := hsvc .active { s with lp := s.lp.idleParser }
    exact ⟨code, payload, (hexec s).trans (request_reads hl hs rfl)⟩
  intro h x s hl flag p known free day due markerField v slotFields entryFields listed layerFields triggerFields cueFields
    inUse members
  refine ⟨?hello, ?summary, ?voice, ?slots, ?clock, ?days, ?entries, ?rumble, ?budget⟩
  case hello => exact request_reads hl (serveHello_active hl.2.1) rfl
  case summary =>
    split
    · rename_i hx
      refine request_refused hl (if_pos ?_)
      simpa [namesNoGroup] using hx
    · rename_i hx
      refine request_reads hl (if_neg ?_) (summary_payload s)
      simpa [namesNoGroup] using hx
  case voice =>
    split
    · rename_i hx
      exact request_refused hl (if_pos hx)
    · rename_i hx
      have hserved : serveVoiceQuery x .active { s with lp := s.lp.idleParser }
          = serve { s with lp := s.lp.idleParser } .ok (v.queryBytes (fetchFor s.sp.fetch x.toNat v.generation)) :=
        if_neg hx
      refine request_reads hl hserved ?_
      have hmarker : markerBytes = markerField := funext markerBytes_eq
      rw [← hmarker]
      exact queryBytes_eq v s.sp.fetch x.toNat
  case slots =>
    split
    · rename_i hx
      exact request_refused hl (if_pos hx)
    · rename_i hx
      refine request_reads hl (if_neg hx) ?_
      have hslot : (fun i => s.slotBytes (i + 1)) = slotFields := by
        funext i
        obtain ⟨hday, hdayBytes⟩ := dayStamp_eq s i
        obtain ⟨hclock, hclockBytes⟩ := clockStamp_eq s i
        have hopen : (s.sc.openSlot == some (i + 1)) = decide (s.sc.openSlot = some (i + 1)) := by
          rw [Bool.eq_iff_iff, beq_iff_eq, decide_eq_true_eq]
        simp only [State.slotBytes, hday, hdayBytes, hclock, hclockBytes, hopen, slotFlags_eq, readExtent_eq, opByte_eq,
          headerGeneration, leBytes_quad]
        rfl
      show leBytes 1 s.slotCount ++ (List.range s.slotCount).flatMap (fun i => s.slotBytes (i + 1)) = _
      rw [hslot]
  case clock =>
    refine request_reads hl rfl ?_
    simp only [Civil.bytes, List.append_assoc]
    cases s.cu.valid <;> rfl
  case days =>
    refine request_reads hl rfl ?_
    have hdef : deferredBytes s.dr.deferred = match s.dr.deferred with
        | none => [0, 0, 0, 0]
        | some d => [1, BitVec.ofNat 8 (d.causes.rollover.toNat + 2 * d.causes.powerUp.toNat
            + 4 * d.causes.clockSet.toNat + 8 * d.causes.restart.toNat)] ++ leBytes 2 d.limit := by
      cases s.dr.deferred with
      | none => rfl
      | some d => rw [deferredBytes, causesByte_eq]
    have hvalid : clockStateByte s.cu.valid = flag (!s.cu.valid) := by cases s.cu.valid <;> rfl
    simp only [hdef, hvalid]
    rfl
  case entries =>
    split
    · rename_i hx
      exact request_refused hl (if_pos hx)
    · rename_i hx
      refine request_reads hl (if_neg hx) ?_
      have hentry : Entry.bytes = entryFields := funext entryBytes_eq
      simp only [counted, hentry, List.append_assoc]
      rfl
  case rumble =>
    refine request_reads hl rfl ?_
    have hlayer : Layer.bytes = layerFields := funext layerBytes_eq
    have hhost : hostBytes = fun q => match q with
        | none => [0, 0]
        | some q => leBytes 1 q.steps.length ++ leBytes 1 q.revision := funext hostBytes_eq
    have hcached : s.cachedBytes = fun c => leBytes 1 c.id ++ leBytes 1 c.pattern.revision ++ [flag (inUse c.id)] := by
      funext c
      rw [State.cachedBytes, cacheInUse_eq]
      rfl
    have hreceived : s.received = match s.sp.load with | none => 0 | some l => l.buffer.length := by
      unfold State.received
      cases s.sp.load <;> rfl
    show counted s.ru.layers Layer.bytes ++ counted s.ru.cues Cue.bytes ++ counted s.ru.cache s.cachedBytes
      ++ counted s.ru.host hostBytes ++ counted s.sp.loadList (leBytes 1) ++ leBytes 1 s.received
      ++ leBytes 1 s.ru.applied ++ leBytes 1 s.sb.m = _
    rw [hlayer, hhost, hcached, hreceived]
    simp only [counted, List.append_assoc]
    rfl
  case budget =>
    refine request_reads hl rfl ?_
    rfl

end Sys2Proof.Proofs
end

section
/-! The voice requests: VOICE-ADJUST (R9 to R11). -/

namespace Sys2Proof.Machine

open Sys2Proof.Safety

/-! ### Voice records -/

/-- A voice record replaced is read back, and every other one is as it was. -/
theorem State.voice_setVoice (s : State) {n : Nat} (hn : n < s.se.voices.length) (v : Voice) (m : Nat) :
    (s.setVoice n v).voice m = if m = n then v else s.voice m := by
  simp only [State.voice, State.setVoice, List.getD_eq_getElem?_getD, List.getElem?_set]
  split
  · rename_i h
    simp [h]
  · rename_i h
    rw [if_neg (fun e => h e.symm)]

/-- Every voice record replaced is read back, where there is one. -/
theorem State.voice_mapVoices (s : State) (f : Nat → Voice → Voice) {m : Nat} (hm : m < s.se.voices.length) :
    (s.mapVoices f).voice m = f m (s.voice m) := by
  simp [State.voice, State.mapVoices, hm]

/-- R1: a voice is busy when it is not IDLE. -/
theorem Voice.busy_eq (v : Voice) : v.busy = decide (v.state ≠ .idle) := by
  cases h : v.state <;> simp [Voice.busy, h]

/-- R5, R9: a marker field that is refused lies beyond the sound or beyond the loop end. -/
theorem markerBad_iff (m : Option Marker) (length loopLength loopEnd : Nat) :
    markerBad m length loopLength loopEnd = true
      ↔ ¬ ∀ x ∈ m, x.index ≤ length ∧ (loopLength = 0 ∨ x.index ≤ loopEnd) := by
  cases m with
  | none => simp [markerBad]
  | some m =>
    simp only [markerBad, Option.mem_def, Option.some.injEq, forall_eq', bne_iff_ne, Bool.or_eq_true, Bool.and_eq_true,
      decide_eq_true_eq]
    omega

/-- R7, R10: a step field is taken within 1..262,144. -/
theorem clampStep_eq (w : Triple) :
    clampStep w = if w = 0 then 1 else if 262144 < w.toNat then 262144 else w.toNat := by
  have hzero : w = 0 ↔ w.toNat = 0 := by
    rw [← BitVec.toNat_inj]; rfl
  simp only [clampStep, hzero]
  split
  · omega
  · split <;> omega

/-- R9, R12: an expected generation is stale when it is given and is not the voice's. -/
theorem generationStale_iff (g : Half) (v : Voice) :
    generationStale g v = true ↔ g ≠ 0xFFFF ∧ g.toNat ≠ v.generation.toNat := by
  have hwide : g = v.generation.setWidth 16 ↔ g.toNat = v.generation.toNat := by
    rw [← BitVec.toNat_inj, BitVec.toNat_setWidth, Nat.mod_eq_of_lt (by omega)]
  simp [generationStale, hwide]

theorem generationBad_iff (g : Half) : generationBad g = true ↔ 256 ≤ g.toNat ∧ g ≠ 0xFFFF := by
  simp [generationBad]

end Sys2Proof.Machine

namespace Sys2Proof.Proofs

open Sys2Proof Sys2Proof.Machine Sys2Proof.Safety

/-! ### VOICE-ADJUST -/

/-- R9: the checks of a VOICE-ADJUST in their order. -/
theorem adjustRefused_eq (f : VoiceAdjustFields) (v : Voice) :
    adjustRefused f v =
      if 7 < f.voice.toNat ∨ (256 ≤ f.generation.toNat ∧ f.generation ≠ 0xFFFF)
          ∨ (f.changes.getLsbD 2 = true ∧ 32767 < f.ramp.toNat)
          ∨ (f.changes.getLsbD 5 = true ∧ f.pause ≠ 0 ∧ f.pause ≠ 1) then some .range
      else if v.state = .idle then some .state
      else if f.generation ≠ 0xFFFF ∧ f.generation.toNat ≠ v.generation.toNat then some .stale
      else if (f.changes.getLsbD 1 = true ∧ v.state = .releasing)
          ∨ (f.changes.getLsbD 5 = true ∧ f.pause = 0 ∧ (v.state = .priming ∨ v.state = .releasing)) then some .state
      else if (f.changes.getLsbD 3 = true ∧ ¬ ∀ x ∈ markerOf f.marker0,
            x.index ≤ v.length ∧ (v.loopLength = 0 ∨ x.index ≤ v.loopStart + v.loopLength))
          ∨ (f.changes.getLsbD 4 = true ∧ ¬ ∀ x ∈ markerOf f.marker1,
            x.index ≤ v.length ∧ (v.loopLength = 0 ∨ x.index ≤ v.loopStart + v.loopLength)) then some .range
      else none := by
  have hidle : (!v.busy) = true ↔ v.state = .idle := by simp [Voice.busy_eq]
  simp only [adjustRefused, adjustSel, generationBad_iff, hidle, generationStale_iff, markerBad_iff, Voice.loopEnd]

/-- R11: the state that a selected pause control brings about. -/
theorem pauseState_eq (code : Byte) (st : VoiceState) (h : code = 0 ∨ code = 1) :
    pauseState code st
      = if code = 0 ∧ st = .playing then .paused else if code = 1 ∧ st = .paused then .playing else st := by
  rcases h with rfl | rfl <;> cases st <;> rfl

/-- R10, R11: the record that an accepted VOICE-ADJUST makes. -/
theorem adjust_eq (f : VoiceAdjustFields) (v : Voice)
    (hp : f.changes.getLsbD 5 = true → f.pause = 0 ∨ f.pause = 1) :
    v.adjust f = { v with
      step := if f.changes.getLsbD 0 then (if f.step = 0 then 1 else if 262144 < f.step.toNat then 262144 else f.step.toNat)
        else v.step
      target := if f.changes.getLsbD 1 then f.targetGain.toInt else v.target
      ramp := if f.changes.getLsbD 2 then f.ramp.toNat else v.ramp
      marker0 := if f.changes.getLsbD 3 then markerOf f.marker0 else v.marker0
      marker1 := if f.changes.getLsbD 4 then markerOf f.marker1 else v.marker1
      state := if f.changes.getLsbD 5 = true ∧ f.pause = 0 ∧ v.state = .playing then .paused
        else if f.changes.getLsbD 5 = true ∧ f.pause = 1 ∧ v.state = .paused then .playing
        else v.state } := by
  have hstate : (if f.changes.getLsbD 5 then pauseState f.pause v.state else v.state)
      = if f.changes.getLsbD 5 = true ∧ f.pause = 0 ∧ v.state = .playing then .paused
        else if f.changes.getLsbD 5 = true ∧ f.pause = 1 ∧ v.state = .paused then .playing
        else v.state := by
    by_cases h : f.changes.getLsbD 5 = true
    · simp only [h, pauseState_eq _ _ (hp h), true_and, if_true]
    · simp only [h, false_and, if_false, Bool.false_eq_true]
  unfold Voice.adjust adjustSel
  rw [hstate, clampStep_eq]

/-- R9, R10: VOICE-ADJUST's service on a part whose parser has been made idle. -/
theorem serveVoiceAdjust_eq (f : VoiceAdjustFields) (s : State) :
    serveVoiceAdjust f .active { s with lp := s.lp.idleParser } =
      let v := s.voice f.voice.toNat
      match adjustRefused f v with
      | some c => refuse { s with lp := s.lp.idleParser } c
      | none => serve { s.setVoice f.voice.toNat (v.adjust f) with lp := s.lp.idleParser } .ok
          [f.voice, v.generation, (v.adjust f).state.byte] := rfl

/-- Settles O19: the checks stand in the statement's order; an accepted request replaces one voice record, which the
close of the request leaves but for its fetch-request flag. -/
theorem voiceAdjustReplacesSelected : Obligations.VoiceAdjustReplacesSelected := by
  unfold Obligations.VoiceAdjustReplacesSelected
  intro h f s hl hlen n v sel markerOk state
  have refusal : ∀ c, adjustRefused f v = some c →
      exec (.voiceAdjust h f) s = .next (answered s Kind.voiceAdjust h c []) := by
    intro c hc
    refine request_refused hl ?_
    rw [serveVoiceAdjust_eq]
    simp only [v, n] at hc
    simp only [hc]
  have hchecks := adjustRefused_eq f v
  split
  · exact refusal _ (hchecks.trans (if_pos ‹_›))
  rename_i h1
  rw [if_neg h1] at hchecks
  split
  · exact refusal _ (hchecks.trans (if_pos ‹_›))
  rename_i h2
  rw [if_neg h2] at hchecks
  split
  · exact refusal _ (hchecks.trans (if_pos ‹_›))
  rename_i h3
  rw [if_neg h3] at hchecks
  split
  · exact refusal _ (hchecks.trans (if_pos ‹_›))
  rename_i h4
  rw [if_neg h4] at hchecks
  split
  · exact refusal _ (hchecks.trans (if_pos ‹_›))
  rename_i h5
  rw [if_neg h5] at hchecks
  have hn : n < s.se.voices.length := by omega
  have hpause : f.changes.getLsbD 5 = true → f.pause = 0 ∨ f.pause = 1 := by
    intro h5'
    by_contra hno
    exact h1 (.inr (.inr (.inr ⟨h5', fun e => hno (.inl e), fun e => hno (.inr e)⟩)))
  have hadjust := adjust_eq f v hpause
  have hu := serveVoiceAdjust_eq f s
  simp only [v, n] at hchecks
  simp only [hchecks] at hu
  obtain ⟨t, ht, hlp, hc⟩ := request_closes (h := h) (k := Kind.voiceAdjust) hl hu rfl
    (State.report_of_reported hl.1.1 rfl rfl rfl rfl rfl rfl id rfl rfl rfl)
  refine ⟨t, ht, ?_, fun m _ hm => ?_, hc.engine, hc.attention, hc.rumble, hc.sc, hc.store, hc.keep, ?_⟩
  · exact sameUse_of_eq (hc.voice n) ((State.voice_setVoice s hn (v.adjust f) n).trans ((if_pos rfl).trans hadjust))
  · exact sameUse_of_eq (hc.voice m) ((State.voice_setVoice s hn (v.adjust f) m).trans (if_neg hm))
  · have hstate : (v.adjust f).state = state := congrArg Voice.state hadjust
    rw [hlp, ← hstate]

end Sys2Proof.Proofs
end

section
/-! SUPPORT. The attention flags: sets of members bit by bit, what a raising leaves, and raisings one after another. -/

namespace Sys2Proof.Machine

open Sys2Proof.Safety

/-! ### Sets, bit by bit (R189) -/

theorem getLsbD_single {w : Nat} (k j : Nat) : (single k : BitVec w).getLsbD j = decide (j = k ∧ j < w) := by
  rw [single, BitVec.getLsbD_twoPow, ← Bool.decide_and]
  congr 1
  rw [eq_iff_iff]
  omega

theorem getLsbD_maskOf {w : Nat} (ks : List Nat) (j : Nat) :
    (maskOf ks : BitVec w).getLsbD j = decide (j ∈ ks ∧ j < w) := by
  have gathered : ∀ (l : List Nat) (m : BitVec w),
      (l.foldl (fun m k => m ||| single k) m).getLsbD j = (m.getLsbD j || decide (j ∈ l ∧ j < w)) := by
    intro l
    induction l with
    | nil => simp
    | cons k l ih =>
      intro m
      rw [List.foldl_cons, ih, BitVec.getLsbD_or, getLsbD_single, Bool.or_assoc, ← Bool.decide_or]
      congr 2
      simp only [List.mem_cons, or_and_right]
  rw [maskOf, gathered]
  simp

/-- R189: a single-byte set has the items that its predicate names. -/
theorem getLsbD_byteSet (p : Nat → Bool) {n : Nat} (hn : n < 8) : (byteSet p).getLsbD n = p n := by
  rw [byteSet, getLsbD_maskOf]
  simp [hn]

/-- R157: a member's number gives the member. -/
theorem Member.all_getElem (m : Member) : Member.all[m.num]? = some m := by cases m <;> rfl

theorem Member.num_lt (m : Member) : m.num < 22 := by cases m <;> decide

theorem Member.num_inj {m m' : Member} : m.num = m'.num ↔ m = m' := by
  constructor
  · intro h
    have := m.all_getElem
    rw [h, m'.all_getElem] at this
    exact (Option.some.inj this).symm
  · rintro rfl; rfl

@[simp] theorem Member.isIn_set (m m' : Member) : m.isIn m'.set = decide (m = m') := by
  rw [Member.isIn, Member.set, getLsbD_single]
  simp [Member.num_inj, m.num_lt]

@[simp] theorem Member.isIn_or (m : Member) (a b : MemberSet) : m.isIn (a ||| b) = (m.isIn a || m.isIn b) :=
  BitVec.getLsbD_or

/-- R159: the levels are those of the conditions that hold. -/
theorem Member.isIn_ownerLevels (m : Member) (s : State) : m.isIn s.ownerLevels = s.holds m := by
  have hmem : m ∈ Member.all := List.mem_of_getElem? m.all_getElem
  rw [Member.isIn, State.ownerLevels, getLsbD_maskOf]
  simp only [List.mem_map, List.mem_filter, Member.num_inj, exists_eq_right, hmem, m.num_lt, true_and, and_true]
  simp

/-- R158: a report latches no event. -/
theorem State.report_isIn (s : State) {m : Member} (hm : m.isCondition = false) :
    m.isIn s.report.au.latch = m.isIn s.au.latch := by
  have hno : s.holds m = false := by cases m <;> first | rfl | cases hm
  unfold State.report
  split
  · show m.isIn (s.au.latch ||| (s.ownerLevels &&& ~~~ s.au.level)) = _
    have hnone : m.isIn (s.ownerLevels &&& ~~~ s.au.level) = false := by
      rw [Member.isIn, BitVec.getLsbD_and, ← Member.isIn, Member.isIn_ownerLevels, hno, Bool.false_and]
    rw [Member.isIn_or, hnone, Bool.or_false]
  · rfl

/-- R159: a report changes no detail but those of the two conditions that have one. -/
theorem State.report_details (s : State) :
    s.report.au.details = { s.au.details with
      slotDamaged := s.report.au.details.slotDamaged, firedWaiting := s.report.au.details.firedWaiting } := by
  unfold State.report
  split <;> rfl

/-! ### Raisings -/

/-- One member stands in `t` as in `s`: its latch and the part of its detail that `detail` reads. -/
structure SameMember {α : Type} (m : Member) (detail : Details → α) (s t : State) : Prop where
  latch : m.isIn t.au.latch = m.isIn s.au.latch
  detail : detail t.au.details = detail s.au.details

theorem SameMember.trans {α : Type} {m : Member} {detail : Details → α} {s t u : State}
    (h : SameMember m detail s t) (h' : SameMember m detail t u) : SameMember m detail s u :=
  ⟨h'.latch.trans h.latch, h'.detail.trans h.detail⟩

theorem SameMember.of_au {α : Type} {m : Member} {detail : Details → α} {s t : State} (h : t.au = s.au) :
    SameMember m detail s t := ⟨by rw [h], by rw [h]⟩

/-- R158: a raising leaves every other member as it was. -/
theorem sameMember_raise {α : Type} {m m' : Member} {detail : Details → α} {merge : Details → Details} (s : State)
    (hne : m ≠ m') (hmerge : ∀ d, detail (merge d) = detail d) (hclear : ∀ d : Details, detail (d.clear m') = detail d) :
    SameMember m detail s (s.raise m' merge) where
  latch := by
    show m.isIn (s.au.latch ||| m'.set) = _
    simp [hne]
  detail := by
    show detail (merge (if m'.isIn s.au.latch then s.au.details else s.au.details.clear m')) = _
    rw [hmerge]
    split
    · rfl
    · exact hclear _

theorem raise_latch (s : State) (m : Member) (merge : Details → Details) :
    m.isIn (s.raise m merge).au.latch = true := by
  show m.isIn (s.au.latch ||| m.set) = true
  simp

section Sets

variable {k w : Nat} {m : Member} {detail : Details → BitVec k} {items items' : Nat → Bool} {s t u : State}

/-- R158: a raising whose merge adds a set of items to the detail raises them. -/
theorem raisesSet_raise {merge : Details → Details} (s : State)
    (hmerge : ∀ d, ∀ n < w, (detail (merge d)).getLsbD n = (items n || (detail d).getLsbD n))
    (hclear : ∀ d : Details, detail (d.clear m) = 0) (hany : (List.range w).any items = true) :
    RaisesSet m detail w items s (s.raise m merge) := by
  rw [RaisesSet, if_pos hany]
  refine ⟨raise_latch s m merge, fun n hn => ?_⟩
  show (detail (merge (if m.isIn s.au.latch then s.au.details else s.au.details.clear m))).getLsbD n = _
  rw [hmerge _ n hn]
  by_cases hl : m.isIn s.au.latch = true
  · rw [if_pos hl, hl, Bool.true_and]
  · rw [if_neg hl, Bool.eq_false_iff.mpr hl, hclear, Bool.false_and, BitVec.ofNat_eq_ofNat, BitVec.getLsbD_zero]

/-- A member that stands as it did raises no item. -/
theorem SameMember.raises (h : SameMember m detail s t) (hno : ∀ n < w, items n = false) :
    RaisesSet m detail w items s t := by
  have hany : ¬ (List.range w).any items = true := by
    simp only [List.any_eq_true, List.mem_range, not_exists, not_and, Bool.not_eq_true]
    exact hno
  rw [RaisesSet, if_neg hany]
  exact ⟨h.latch, h.detail⟩

/-- Only the items below `w` count. -/
theorem raisesSet_congr (h : RaisesSet m detail w items s t) (he : ∀ n < w, items n = items' n) :
    RaisesSet m detail w items' s t := by
  have hany : (List.range w).any items = (List.range w).any items' := by
    rw [Bool.eq_iff_iff]
    simp only [List.any_eq_true, List.mem_range]
    exact exists_congr fun n => and_congr_right fun hn => by rw [he n hn]
  unfold RaisesSet at h ⊢
  rw [← hany]
  split at h
  · rename_i hp
    rw [if_pos hp]
    exact ⟨h.1, fun n hn => by rw [h.2 n hn, he n hn]⟩
  · rename_i hp
    rw [if_neg hp]
    exact h

/-- R158: two raisings of a member one after the other raise the items of both. -/
theorem raisesSet_trans (h : RaisesSet m detail w items s t) (h' : RaisesSet m detail w items' t u) :
    RaisesSet m detail w (fun n => items n || items' n) s u := by
  have hany : (List.range w).any (fun n => items n || items' n)
      = ((List.range w).any items || (List.range w).any items') := by
    rw [Bool.eq_iff_iff]
    simp only [List.any_eq_true, Bool.or_eq_true, List.mem_range]
    constructor
    · rintro ⟨n, hn, h | h⟩
      · exact .inl ⟨n, hn, h⟩
      · exact .inr ⟨n, hn, h⟩
    · rintro (⟨n, hn, h⟩ | ⟨n, hn, h⟩)
      · exact ⟨n, hn, .inl h⟩
      · exact ⟨n, hn, .inr h⟩
  have none_of : ∀ {q : Nat → Bool}, ¬ (List.range w).any q = true → ∀ n < w, q n = false := by
    intro q hq n hn
    by_contra hc
    exact hq (List.any_eq_true.mpr ⟨n, List.mem_range.mpr hn, by simpa using hc⟩)
  unfold RaisesSet at h h' ⊢
  rw [hany]
  by_cases h1 : (List.range w).any items = true <;> by_cases h2 : (List.range w).any items' = true
  · rw [if_pos h1] at h
    rw [if_pos h2] at h'
    rw [if_pos (by rw [h1, Bool.true_or])]
    refine ⟨h'.1, fun n hn => ?_⟩
    rw [h'.2 n hn, h.1, h.2 n hn, Bool.true_and, Bool.or_left_comm, Bool.or_assoc]
  · rw [if_pos h1] at h
    rw [if_neg h2] at h'
    rw [if_pos (by rw [h1, Bool.true_or])]
    refine ⟨h'.1.trans h.1, fun n hn => ?_⟩
    simp only [h'.2, h.2 n hn, none_of h2 n hn, Bool.or_false]
  · rw [if_neg h1] at h
    rw [if_pos h2] at h'
    rw [if_pos (by rw [h2, Bool.or_true])]
    refine ⟨h'.1, fun n hn => ?_⟩
    simp only [h'.2 n hn, h.1, h.2, none_of h1 n hn, Bool.false_or]
  · rw [if_neg h1] at h
    rw [if_neg h2] at h'
    rw [if_neg (by simp only [Bool.or_eq_true]; tauto)]
    exact ⟨h'.1.trans h.1, h'.2.trans h.2⟩

/-- A raising before which the member stood as in `s` is one from `s`. -/
theorem SameMember.then_raises (h : SameMember m detail s t) (h' : RaisesSet m detail w items t u) :
    RaisesSet m detail w items s u := by
  unfold RaisesSet at h' ⊢
  rw [h.latch, h.detail] at h'
  exact h'

/-- A raising after which the member stands as it did. -/
theorem raisesSet_then_same (h : RaisesSet m detail w items s t) (h' : SameMember m detail t u) :
    RaisesSet m detail w items s u := by
  unfold RaisesSet at h ⊢
  rw [h'.latch, h'.detail]
  exact h

end Sets

end Sys2Proof.Machine
end

section
/-! SUPPORT. Cues that lapse because a voice ended (R134), and the voices whose uses end (R4). -/

namespace Sys2Proof.Machine

open Sys2Proof.Safety

/-! ### Cue records -/

/-- The cue records replaced. -/
def State.withCues (s : State) (cs : List Cue) : State := { s with ru := { s.ru with cues := cs } }

@[simp] theorem State.withCues_au (s : State) (cs : List Cue) : (s.withCues cs).au = s.au := rfl
@[simp] theorem State.withCues_cues (s : State) (cs : List Cue) : (s.withCues cs).ru.cues = cs := rfl
@[simp] theorem State.withCues_self (s : State) : s.withCues s.ru.cues = s := rfl

theorem State.setCue_eq (s : State) (n : Nat) (c : Cue) : s.setCue n c = s.withCues (s.ru.cues.set n c) := rfl

/-- A cue record that stands changes nothing when it is set again. -/
theorem State.setCue_self (s : State) (n : Nat) : s.setCue n (s.cue n) = s := by
  have hset : s.ru.cues.set n (s.cue n) = s.ru.cues := by
    apply List.ext_getElem?
    intro i
    rw [List.getElem?_set]
    split
    · rename_i h
      subst h
      split
      · rename_i hn
        simp [State.cue, hn]
      · rename_i hn
        rw [List.getElem?_eq_none (by omega)]
    · rfl
  rw [State.setCue_eq, hset, State.withCues_self]

/-- R129: an armed cue is one of the cue records. -/
theorem State.cue_lt_of_armed {s : State} {n : Nat} (h : (s.cue n).state ≠ .unarmed) : n < s.ru.cues.length := by
  by_contra hn
  apply h
  simp [State.cue, List.getElem?_eq_none (Nat.le_of_not_lt hn)]

/-- A cue record replaced is read back, and every other one is as it was. -/
theorem State.cue_setCue (s : State) {n : Nat} (hn : n < s.ru.cues.length) (c : Cue) (m : Nat) :
    (s.setCue n c).cue m = if m = n then c else s.cue m := by
  simp only [State.cue, State.setCue, List.getD_eq_getElem?_getD, List.getElem?_set]
  split
  · rename_i h
    simp [h]
  · rename_i h
    rw [if_neg (fun e => h e.symm)]

/-! ### Lapses (R134) -/

/-- R134: cue `j` waits, armed, on a voice of a set. -/
def State.lapsesOn (s : State) (ended : Nat → Bool) (j : Nat) : Bool :=
  decide ((s.cue j).state ≠ .unarmed
    ∧ (ended (s.cue j).first.voice = true ∨ ∃ t ∈ (s.cue j).second, ended t.voice = true))

theorem State.lapsesOn_of_cue {s t : State} {j : Nat} (h : t.cue j = s.cue j) (ended : Nat → Bool) :
    t.lapsesOn ended j = s.lapsesOn ended j := by
  simp only [State.lapsesOn, h]

theorem lapsed_eq (s : State) (ended : Nat → Bool) (j : Nat) :
    lapsed s ended j = if s.lapsesOn ended j then (s.cue j).unarm else s.cue j := by
  simp only [lapsed, State.lapsesOn, decide_eq_true_eq]
  rfl

/-- R134: a cue record changes by a lapse exactly when it lapses. -/
theorem lapsed_bne (s : State) (ended : Nat → Bool) (j : Nat) : (lapsed s ended j != s.cue j) = s.lapsesOn ended j := by
  rw [lapsed_eq]
  cases h : s.lapsesOn ended j with
  | false => simp
  | true =>
    obtain ⟨harmed, -⟩ := of_decide_eq_true h
    have hne : (s.cue j).unarm ≠ s.cue j := fun e => harmed (by rw [← e]; rfl)
    simpa using hne

theorem State.lapseCue_eq (vs : BitVec 8) (s : State) (n : Nat) :
    State.lapseCue vs s n
      = if s.lapsesOn vs.getLsbD n then (s.setCue n (s.cue n).unarm).raiseCueLapsed n .voice else s := by
  have hcond : ((s.cue n).armed && (s.cue n).waitsOn vs) = s.lapsesOn vs.getLsbD n := by
    rw [Bool.eq_iff_iff, State.lapsesOn, decide_eq_true_eq, Bool.and_eq_true]
    simp only [Cue.armed, Cue.waitsOn, bne_iff_ne, Bool.or_eq_true]
    cases (s.cue n).second <;> simp
  unfold State.lapseCue
  simp only [hcond]
  rfl

/-- R158: CUE_LAPSED raised for one cue. -/
theorem raiseCueLapsed_raises (s : State) {n : Nat} (hn : n < 4) (c : LapseCause) :
    RaisesSet .cueLapsed (·.cueLapsed) 4 (fun j => j == n) s (s.raiseCueLapsed n c) := by
  refine raisesSet_raise s (fun d j hj => ?_) (fun d => rfl) ?_
  · have hj8 : j < 8 := by omega
    rw [BitVec.getLsbD_or, getLsbD_single, Bool.or_comm]
    simp [hj8, beq_eq_decide]
  · simp only [List.any_eq_true, List.mem_range, beq_iff_eq, exists_eq_right]
    exact hn

/-- R158: CUE_LAPSED raised changes its own latch and detail alone. -/
theorem raiseCueLapsed_eq (s : State) (n : Nat) (c : LapseCause) :
    ∃ l d, s.raiseCueLapsed n c = { s with au := { s.au with
      latch := l, details := { s.au.details with cueLapsed := d, lapseCause := some c } } } := by
  unfold State.raiseCueLapsed State.raise Attention.raise
  cases Member.cueLapsed.isIn s.au.latch <;> exact ⟨_, _, rfl⟩

/-- What the lapses of some of the cues, by the end of voices, leave of a state. -/
structure Lapses (ended : Nat → Bool) (cues : List Nat) (s t : State) : Prop where
  cue : ∀ j, t.cue j = if j ∈ cues ∧ s.lapsesOn ended j = true then (s.cue j).unarm else s.cue j
  raised : RaisesSet .cueLapsed (·.cueLapsed) 4 (fun j => decide (j ∈ cues) && s.lapsesOn ended j) s t
  cause : t.au.details.lapseCause
    = if cues.any (s.lapsesOn ended) then some .voice else s.au.details.lapseCause
  others : ∀ m : Member, m ≠ .cueLapsed → m.isIn t.au.latch = m.isIn s.au.latch
  rest : ∃ cs l d c, t = { s with
    ru := { s.ru with cues := cs }
    au := { s.au with latch := l, details := { s.au.details with cueLapsed := d, lapseCause := c } } }

theorem State.lapseCue_lapses (vs : BitVec 8) (s : State) {n : Nat} (hn : n < 4) :
    Lapses vs.getLsbD [n] s (State.lapseCue vs s n) := by
  rw [State.lapseCue_eq]
  cases hl : s.lapsesOn vs.getLsbD n with
  | false =>
    refine ⟨fun j => ?_, SameMember.raises ⟨rfl, rfl⟩ fun j _ => ?_, by simp [hl], fun _ _ => rfl, ⟨_, _, _, _, rfl⟩⟩
    · by_cases hj : j = n
      · subst hj; simp [hl]
      · simp [hj]
    · by_cases hj : j = n
      · subst hj; simp [hl]
      · simp [hj]
  | true =>
    obtain ⟨harmed, -⟩ := of_decide_eq_true hl
    have hlen := State.cue_lt_of_armed harmed
    refine ⟨fun j => ?_, ?_, by simp [hl]; rfl, fun m hm => ?_, ?_⟩
    · refine (State.cue_setCue s hlen _ j).trans ?_
      by_cases hj : j = n
      · subst hj; simp [hl]
      · simp [hj]
    · refine raisesSet_congr (raiseCueLapsed_raises (s.setCue n (s.cue n).unarm) hn .voice) fun j _ => ?_
      by_cases hj : j = n
      · subst hj; simp [hl]
      · simp [hj]
    · exact (sameMember_raise (detail := fun _ => ()) _ hm (fun _ => rfl) fun _ => rfl).latch
    · obtain ⟨l, d, h⟩ := raiseCueLapsed_eq (s.setCue n (s.cue n).unarm) n .voice
      exact ⟨_, l, d, _, h⟩

/-- R134: the cues of a list lapse one after another, each by its own record. -/
theorem foldl_lapseCue_lapses (vs : BitVec 8) (cues : List Nat) (hn : cues.Nodup) (h4 : ∀ n ∈ cues, n < 4) (s : State) :
    Lapses vs.getLsbD cues s (cues.foldl (State.lapseCue vs) s) := by
  induction cues generalizing s with
  | nil => exact ⟨by simp, SameMember.raises ⟨rfl, rfl⟩ (by simp), by simp, fun _ _ => rfl, ⟨_, _, _, _, rfl⟩⟩
  | cons n cues ih =>
    obtain ⟨hnot, hnodup⟩ := List.nodup_cons.mp hn
    have h1 := State.lapseCue_lapses vs s (h4 n (by simp))
    have h2 := ih hnodup (fun m hm => h4 m (by simp [hm])) (State.lapseCue vs s n)
    have hcue : ∀ j, j ≠ n → (State.lapseCue vs s n).cue j = s.cue j := fun j hj => by rw [h1.cue]; simp [hj]
    have hsame : ∀ j ∈ cues, (State.lapseCue vs s n).lapsesOn vs.getLsbD j = s.lapsesOn vs.getLsbD j :=
      fun j hj => State.lapsesOn_of_cue (hcue j fun e => hnot (e ▸ hj)) _
    rw [List.foldl_cons]
    refine ⟨fun j => ?_, ?_, ?_, fun m hm => (h2.others m hm).trans (h1.others m hm), ?_⟩
    · rw [h2.cue]
      by_cases hj : j ∈ cues
      · have hjn : j ≠ n := fun e => hnot (e ▸ hj)
        simp [hj, hsame j hj, hcue j hjn]
      · rw [h1.cue]
        simp [hj]
    · refine raisesSet_congr (raisesSet_trans h1.raised h2.raised) fun j _ => ?_
      by_cases hj : j ∈ cues
      · simp [hj, hsame j hj]
      · simp [hj]
    · have hany : cues.any ((State.lapseCue vs s n).lapsesOn vs.getLsbD) = cues.any (s.lapsesOn vs.getLsbD) := by
        rw [Bool.eq_iff_iff]
        simp only [List.any_eq_true]
        exact exists_congr fun j => and_congr_right fun hj => by rw [hsame j hj]
      rw [h2.cause, h1.cause, hany, List.any_cons, List.any_cons, List.any_nil, Bool.or_false]
      cases cues.any (s.lapsesOn vs.getLsbD) with
      | true => rw [Bool.or_true]; rfl
      | false => rw [Bool.or_false]; rfl
    · obtain ⟨cs, l, d, c, e1⟩ := h1.rest
      obtain ⟨cs', l', d', c', e2⟩ := h2.rest
      rw [e2, e1]
      exact ⟨cs', l', d', c', rfl⟩

/-- R134: the four cues at the end of the uses of a set of voices. -/
theorem State.lapseCues_lapses (s : State) (vs : BitVec 8) : Lapses vs.getLsbD [0, 1, 2, 3] s (s.lapseCues vs) :=
  foldl_lapseCue_lapses vs [0, 1, 2, 3] (by decide) (by decide) s

/-- R134: what the four cues and CUE_LAPSED show after their lapses, said from a state before and a state after that
have the same cues and the same CUE_LAPSED. -/
theorem Lapses.shows {ended : Nat → Bool} {s0 s t u : State} (h : Lapses ended [0, 1, 2, 3] s t)
    (hcue : ∀ j, s.cue j = s0.cue j) (hcue' : ∀ j, u.cue j = t.cue j)
    (h0 : SameMember .cueLapsed (fun d => (d.cueLapsed, d.lapseCause)) s0 s)
    (h1 : SameMember .cueLapsed (fun d => (d.cueLapsed, d.lapseCause)) t u) :
    (∀ j < 4, u.cue j = lapsed s0 ended j) ∧ LapsesByVoice ended s0 u := by
  have hsame : ∀ j, s.lapsesOn ended j = s0.lapsesOn ended j := fun j => State.lapsesOn_of_cue (hcue j) ended
  have hfour : ∀ j, j < 4 → j ∈ [0, 1, 2, 3] := by decide
  have hitem : (fun j => lapsed s0 ended j != s0.cue j) = s0.lapsesOn ended := funext fun j => lapsed_bne s0 ended j
  refine ⟨fun j hj => ?_, ?_, ?_⟩
  · rw [hcue', h.cue, lapsed_eq, hcue, hsame]
    simp only [hfour j hj, true_and]
  · rw [hitem]
    have hr := raisesSet_congr (items' := s0.lapsesOn ended) h.raised fun j hj => by simp [hfour j hj, hsame]
    exact raisesSet_then_same
      (SameMember.then_raises ⟨h0.latch, congrArg Prod.fst h0.detail⟩ hr) ⟨h1.latch, congrArg Prod.fst h1.detail⟩
  · have e0 : s.au.details.lapseCause = s0.au.details.lapseCause := congrArg Prod.snd h0.detail
    have e1 : u.au.details.lapseCause = t.au.details.lapseCause := congrArg Prod.snd h1.detail
    rw [hitem, e1, h.cause, e0, funext hsame]
    rfl

/-- R134: the lapses leave the levels and the details of conditions alone. -/
theorem Lapses.reported {ended : Nat → Bool} {cues : List Nat} {s t : State} (h : Lapses ended cues s t)
    (hr : s.report = s) : t.report = t := by
  obtain ⟨cs, l, d, c, rfl⟩ := h.rest
  exact State.report_of_reported hr rfl rfl rfl rfl rfl rfl id rfl rfl rfl

/-- The close of an event leaves every latch and every detail. -/
theorem Closes.sameMember {α : Type} {s t : State} (h : Closes s t) (m : Member) (detail : Details → α) :
    SameMember m detail s t := ⟨by rw [h.latch], by rw [h.details]⟩

theorem Closes.lapsesByVoice {ended : Nat → Bool} {s u t : State} (h : Closes u t) (hl : LapsesByVoice ended s u) :
    LapsesByVoice ended s t :=
  ⟨raisesSet_then_same hl.1 (h.sameMember _ _), by rw [h.details]; exact hl.2⟩

/-! ### Sets raised at once (R4, R28, R29) -/

/-- R158: a set of items raised, unless it is empty. -/
theorem raisesSet_mask {k : Nat} {m : Member} {detail : Details → BitVec k} {items : BitVec k}
    {merge : Details → Details} (s : State) (hmerge : ∀ d, detail (merge d) = detail d ||| items)
    (hclear : ∀ d : Details, detail (d.clear m) = 0) :
    RaisesSet m detail k items.getLsbD s (if items = 0 then s else s.raise m merge) := by
  split
  · rename_i h0
    exact SameMember.raises ⟨rfl, rfl⟩ fun n _ => by simp [h0]
  · rename_i h0
    refine raisesSet_raise s (fun d n _ => by rw [hmerge, BitVec.getLsbD_or, Bool.or_comm]) hclear ?_
    by_contra hno
    refine h0 (BitVec.eq_of_getLsbD_eq fun n hn => ?_)
    have hbit : items.getLsbD n = false := by
      by_contra hb
      exact hno (List.any_eq_true.mpr ⟨n, List.mem_range.mpr hn, by simpa using hb⟩)
    simp [hbit]

theorem raiseVoiceEnd_raises (s : State) (vs : BitVec 8) :
    RaisesSet .voiceEnd (·.voiceEnd) 8 vs.getLsbD s (s.raiseVoiceEnd vs) :=
  raisesSet_mask s (fun _ => rfl) fun _ => rfl

/-- R158: VOICE_END raised changes its own latch and detail alone. -/
theorem raiseVoiceEnd_eq (s : State) (vs : BitVec 8) :
    ∃ l d, s.raiseVoiceEnd vs
      = { s with au := { s.au with latch := l, details := { s.au.details with voiceEnd := d } } } := by
  unfold State.raiseVoiceEnd State.raise Attention.raise
  split
  · exact ⟨_, _, rfl⟩
  · cases Member.voiceEnd.isIn s.au.latch <;> exact ⟨_, _, rfl⟩

theorem raiseVoiceEnd_same {α : Type} (s : State) (vs : BitVec 8) {m : Member} {detail : Details → α}
    (hm : m ≠ .voiceEnd) (hd : ∀ d e, detail { d with voiceEnd := e } = detail d) :
    SameMember m detail s (s.raiseVoiceEnd vs) := by
  unfold State.raiseVoiceEnd
  split
  · exact ⟨rfl, rfl⟩
  · exact sameMember_raise s hm (fun d => hd d _) fun d => hd d 0

/-! ### Uses that end by a request (R4) -/

/-- R4: the voice records after the uses of a set of voices have ended. -/
def endedVoices (vs : BitVec 8) (voices : List Voice) : List Voice :=
  voices.mapIdx fun n v => if vs.getLsbD n then v.endUse else v

/-- R4, R134: the uses of a set of voices end without an event. -/
theorem State.endVoices_lapses (s : State) (vs : BitVec 8) :
    Lapses vs.getLsbD [0, 1, 2, 3] { s with se := { s.se with voices := endedVoices vs s.se.voices } }
      (s.endVoices vs false) :=
  State.lapseCues_lapses { s with se := { s.se with voices := endedVoices vs s.se.voices } } vs

/-- R4, R134: the uses of a set of voices end with VOICE_END. -/
theorem State.endVoices_event_lapses (s : State) (vs : BitVec 8) :
    Lapses vs.getLsbD [0, 1, 2, 3]
      (({ s with se := { s.se with voices := endedVoices vs s.se.voices } } : State).raiseVoiceEnd vs)
      (s.endVoices vs true) :=
  State.lapseCues_lapses _ vs

theorem Voice.endUse_eq (v : Voice) : v.endUse = endedUse v := rfl

/-- R134: with no voice's use ended no cue lapses. -/
theorem Lapses.none (s : State) (cues : List Nat) : Lapses (fun _ => false) cues s s := by
  have hno : ∀ j, s.lapsesOn (fun _ => false) j = false := fun j => by simp [State.lapsesOn]
  exact ⟨by simp [hno], SameMember.raises ⟨rfl, rfl⟩ (by simp [hno]), by simp [hno], fun _ _ => rfl, ⟨_, _, _, _, rfl⟩⟩

end Sys2Proof.Machine
end

section
/-! VOICE-START: its checks (R5), the voice it takes (R6) and the record it makes (R7). -/

namespace Sys2Proof.Proofs

open Sys2Proof Sys2Proof.Machine Sys2Proof.Safety

/-! ### The checks (R5) -/

/-- R5: the fields of a VOICE-START are in range for a store size. -/
def StartInRange (f : VoiceStartFields) (storeSize : Nat) : Prop :=
  (f.voice.toNat ≤ 7 ∨ f.voice = 0xFF) ∧ f.priority.toNat ≤ 15 ∧ (f.format = 0 ∨ f.format = 1)
    ∧ f.ramp.toNat ≤ 32767 ∧ f.length ≠ 0
    ∧ f.start.toNat + f.length.toNat * (if f.format = 1 then 2 else 1) ≤ storeSize
    ∧ (f.loopLength = 0 ∨ 4 ≤ f.loopLength.toNat ∧ f.loopStart.toNat + f.loopLength.toNat ≤ f.length.toNat)
    ∧ (∀ x ∈ markerOf f.marker0,
      x.index ≤ f.length.toNat ∧ (f.loopLength = 0 ∨ x.index ≤ f.loopStart.toNat + f.loopLength.toNat))
    ∧ ∀ x ∈ markerOf f.marker1,
      x.index ≤ f.length.toNat ∧ (f.loopLength = 0 ∨ x.index ≤ f.loopStart.toNat + f.loopLength.toNat)

theorem formatOf_isNone (b : Byte) : (formatOf b).isNone = true ↔ ¬ (b = 0 ∨ b = 1) := by
  by_cases h0 : b = 0
  · simp [formatOf, h0]
  · by_cases h1 : b = 1
    · simp [formatOf, h1]
    · simp only [formatOf, h0, h1, if_false, Option.isNone_none, or_false, not_false_eq_true]

theorem startBad_iff (f : VoiceStartFields) (storeSize : Nat) :
    startBad f storeSize = true ↔ ¬ StartInRange f storeSize := by
  have hzero : f.loopLength.toNat = 0 ↔ f.loopLength = 0 := by rw [← BitVec.toNat_inj]; rfl
  have hvoice : ¬ (f.voice.toNat ≤ 7 ∨ f.voice = 0xFF) ↔ 7 < f.voice.toNat ∧ f.voice ≠ 0xFF := by
    rw [not_or, Nat.not_le]
  have hloop : ¬ (f.loopLength = 0 ∨ 4 ≤ f.loopLength.toNat
        ∧ f.loopStart.toNat + f.loopLength.toNat ≤ f.length.toNat)
      ↔ f.loopLength ≠ 0 ∧ (f.loopLength.toNat < 4 ∨ f.length.toNat < f.loopStart.toNat + f.loopLength.toNat) := by
    rw [not_or, not_and_or, Nat.not_le, Nat.not_le]
  simp only [startBad, StartInRange, Bool.or_eq_true, Bool.and_eq_true, decide_eq_true_eq, bne_iff_ne, beq_iff_eq,
    formatOf_isNone, markerBad_iff, hzero, not_and_or, hvoice, hloop, Nat.not_le, not_not, ne_eq, or_assoc]

/-! ### The voice taken (R6) -/

/-- R6: candidate `n` is taken before candidate `m`: RELEASING first, then the oldest, then the lowest. -/
def Better (s : State) (n m : Nat) : Prop :=
  (s.voice n).state = .releasing ∧ (s.voice m).state ≠ .releasing
    ∨ ((s.voice n).state = .releasing ↔ (s.voice m).state = .releasing)
      ∧ ((s.voice m).age < (s.voice n).age ∨ (s.voice m).age = (s.voice n).age ∧ n ≤ m)

theorem Better.refl (s : State) (n : Nat) : Better s n n := .inr ⟨Iff.rfl, .inr ⟨rfl, le_rfl⟩⟩

theorem Better.trans {s : State} {a b c : Nat} (h : Better s a b) (h' : Better s b c) : Better s a c := by
  unfold Better at *
  grind

theorem Better.antisymm {s : State} {a b : Nat} (h : Better s a b) (h' : Better s b a) : a = b := by
  unfold Better at *
  grind

/-- R6: of two candidates the higher is taken first exactly when the model's comparison says so. -/
theorem better_of_stealBefore (s : State) {m n : Nat} (hmn : m < n) :
    if stealBefore (s.voice n) (s.voice m) = true then Better s n m else Better s m n := by
  unfold stealBefore Better
  split <;> grind

/-- R6: the comparison of the best candidate so far with the next one. -/
def stealStep (s : State) (best : Option Nat) (n : Nat) : Option Nat :=
  match best with
  | none => some n
  | some m => if stealBefore (s.voice n) (s.voice m) then some n else some m

/-- R6: candidates compared in rising order leave the best of them. -/
theorem foldl_stealStep (s : State) (l : List Nat) (m : Nat) (hs : (m :: l).Pairwise (· < ·)) :
    ∃ r ∈ m :: l, l.foldl (stealStep s) (some m) = some r ∧ ∀ a ∈ m :: l, Better s r a := by
  induction l generalizing m with
  | nil => exact ⟨m, by simp, rfl, by simp [Better.refl]⟩
  | cons n l ih =>
    obtain ⟨hm, hl⟩ := List.pairwise_cons.mp hs
    have hcmp := better_of_stealBefore s (hm n (by simp))
    by_cases hb : stealBefore (s.voice n) (s.voice m) = true
    · rw [if_pos hb] at hcmp
      obtain ⟨r, hr, hfold, hbest⟩ := ih n hl
      refine ⟨r, by simp [List.mem_cons.mp hr], ?_, fun a ha => ?_⟩
      · rw [List.foldl_cons, stealStep, if_pos hb, hfold]
      · rcases List.mem_cons.mp ha with rfl | ha
        · exact (hbest n (by simp)).trans hcmp
        · exact hbest a ha
    · rw [if_neg hb] at hcmp
      obtain ⟨r, hr, hfold, hbest⟩ := ih m
        (List.pairwise_cons.mpr ⟨fun a ha => hm a (by simp [ha]), (List.pairwise_cons.mp hl).2⟩)
      refine ⟨r, ?_, ?_, fun a ha => ?_⟩
      · rcases List.mem_cons.mp hr with rfl | hr
        · simp
        · simp [hr]
      · rw [List.foldl_cons, stealStep, if_neg hb, hfold]
      · rcases List.mem_cons.mp ha with rfl | ha
        · exact hbest a (by simp)
        · rcases List.mem_cons.mp ha with rfl | ha
          · exact (hbest m (by simp)).trans hcmp
          · exact hbest a (by simp [ha])

/-- R6: the candidates at a priority, in rising order. -/
def candidates (s : State) (priority : Nat) : List Nat :=
  (List.range 8).filter fun n => decide ((s.voice n).priority ≤ priority)

theorem mem_candidates {s : State} {priority n : Nat} :
    n ∈ candidates s priority ↔ n < 8 ∧ (s.voice n).priority ≤ priority := by
  simp [candidates]

theorem stealVoice_eq (s : State) (priority : Nat) :
    stealVoice s.se.voices priority = (candidates s priority).foldl (stealStep s) none := rfl

/-- R6: the voice stolen is the candidate that is better than every other. -/
theorem stealVoice_of_best {s : State} {priority n : Nat} (hn : n < 8) (hp : (s.voice n).priority ≤ priority)
    (hbest : ∀ m < 8, (s.voice m).priority ≤ priority → Better s n m) :
    stealVoice s.se.voices priority = some n := by
  have hmem : n ∈ candidates s priority := mem_candidates.mpr ⟨hn, hp⟩
  have hsorted : (candidates s priority).Pairwise (· < ·) := List.pairwise_lt_range.filter _
  rw [stealVoice_eq]
  cases hc : candidates s priority with
  | nil => rw [hc] at hmem; cases hmem
  | cons m l =>
    obtain ⟨r, hr, hfold, hrbest⟩ := foldl_stealStep s l m (hc ▸ hsorted)
    rw [← hc] at hr hrbest
    obtain ⟨hr8, hrp⟩ := mem_candidates.mp hr
    have heq : n = r := (hbest r hr8 hrp).antisymm (hrbest n hmem)
    rw [List.foldl_cons, heq]
    exact hfold

/-- R6: with no candidate no voice is stolen. -/
theorem stealVoice_of_none {s : State} {priority : Nat} (h : ∀ m < 8, priority < (s.voice m).priority) :
    stealVoice s.se.voices priority = none := by
  have hnil : candidates s priority = [] := by
    rw [List.eq_nil_iff_forall_not_mem]
    intro n hn
    obtain ⟨hn8, hp⟩ := mem_candidates.mp hn
    exact absurd hp (Nat.not_le.mpr (h n hn8))
  rw [stealVoice_eq, hnil, List.foldl_nil]

/-- R6: with no voice IDLE an ANY request steals. -/
theorem anyVoice_of_busy {s : State} {priority : Nat} (h : ∀ m < 8, (s.voice m).state ≠ .idle) :
    anyVoice s.se.voices priority = stealVoice s.se.voices priority := by
  have hnone : (List.range 8).find? (fun n => !(s.voice n).busy) = none := by
    rw [List.find?_eq_none]
    intro n hn
    simp [Voice.busy_eq, h n (List.mem_range.mp hn)]
  show (match (List.range 8).find? (fun n => !(s.voice n).busy) with
    | some n => some n
    | none => stealVoice s.se.voices priority) = _
  rw [hnone]

/-- R6: an ANY request takes the lowest IDLE voice. -/
theorem anyVoice_of_idle {s : State} {priority n : Nat} (hn : n < 8) (hi : (s.voice n).state = .idle)
    (hlow : ∀ m < n, (s.voice m).state ≠ .idle) : anyVoice s.se.voices priority = some n := by
  have hfound : (List.range 8).find? (fun n => !(s.voice n).busy) = some n := by
    rw [List.find?_range_eq_some]
    refine ⟨by simp [Voice.busy_eq, hi], List.mem_range.mpr hn, fun m hm => ?_⟩
    simp [Voice.busy_eq, hlow m hm]
  show (match (List.range 8).find? (fun n => !(s.voice n).busy) with
    | some n => some n
    | none => stealVoice s.se.voices priority) = _
  rw [hfound]

/-! ### The record made (R7) -/

/-- R7: of the record that a VOICE-START replaces only the generation counts. -/
theorem load_congr {v w : Voice} (f : VoiceStartFields) (h : v.generation = w.generation) : v.load f = w.load f := by
  simp only [Voice.load, h]

/-- R5, R7: the record of the voice that an accepted VOICE-START takes. -/
theorem load_eq (v : Voice) (f : VoiceStartFields) (hf : f.format = 0 ∨ f.format = 1) :
    v.load f = {
      state := .priming, generation := v.generation + 1, priority := f.priority.toNat, age := 0
      format := if f.format = 1 then .pcm16 else .pcm8, start := f.start.toNat, length := f.length.toNat
      loopStart := if f.loopLength = 0 then 0 else f.loopStart.toNat, loopLength := f.loopLength.toNat
      posInt := 0, posFrac := 0
      step := if f.step = 0 then 1 else if 262144 < f.step.toNat then 262144 else f.step.toNat
      gain := f.startGain.toInt, target := f.targetGain.toInt, ramp := f.ramp.toNat
      marker0 := markerOf f.marker0, marker1 := markerOf f.marker1
      ring := [], owed := 0, fetchAddr := f.start.toNat, request := false, starved := false, priming := 0 } := by
  have hformat : (formatOf f.format).getD .pcm8 = if f.format = 1 then .pcm16 else .pcm8 := by
    rcases hf with h | h <;> rw [h] <;> rfl
  unfold Voice.load
  rw [hformat, clampStep_eq]

/-- R7, R134: the end of the use of the voice taken, if it was busy, and the lapses that it brings. -/
theorem taken_lapses (s : State) {n : Nat} (hn : n < 8) :
    ∃ voices, voices.length = s.se.voices.length
      ∧ (∀ m, m ≠ n → voices.getD m {} = s.voice m) ∧ (voices.getD n {}).generation = (s.voice n).generation
      ∧ Lapses (fun v => decide ((s.voice n).state ≠ .idle ∧ v = n)) [0, 1, 2, 3]
        { s with se := { s.se with voices := voices } }
        (if (s.voice n).busy then s.endVoices (single n) false else s) := by
  have hbits : ∀ m, (single n : BitVec 8).getLsbD m = decide (m = n) := fun m => by
    rw [getLsbD_single]
    congr 1
    rw [eq_iff_iff]
    omega
  by_cases hi : (s.voice n).state = .idle
  · refine ⟨s.se.voices, rfl, fun _ _ => rfl, rfl, ?_⟩
    have hidle : (s.voice n).busy = false := by simp [Voice.busy_eq, hi]
    simp only [hidle, hi, Bool.false_eq_true, if_false, ne_eq, not_true_eq_false, false_and, decide_false]
    exact Lapses.none s _
  · have hbusy : (s.voice n).busy = true := by simp [Voice.busy_eq, hi]
    have hended : (single n : BitVec 8).getLsbD = fun v => decide ((s.voice n).state ≠ .idle ∧ v = n) := by
      funext m
      simp [hbits, hi]
    refine ⟨endedVoices (single n) s.se.voices, by simp [endedVoices], fun m hm => ?_, ?_, ?_⟩
    · simp only [endedVoices, List.getD_eq_getElem?_getD, List.getElem?_mapIdx, hbits, hm, decide_false]
      simp [State.voice]
    · simp only [endedVoices, List.getD_eq_getElem?_getD, List.getElem?_mapIdx, hbits, State.voice]
      cases s.se.voices[n]? <;> simp [Voice.endUse]
    · rw [if_pos hbusy, ← hended]
      exact s.endVoices_lapses (single n)

/-- R5 to R7: VOICE-START's service. -/
theorem serveVoiceStart_accepted {f : VoiceStartFields} {s : State} {n : Nat} (hr : StartInRange f s.storeSize)
    (hc : chooseVoice s.se.voices f = some n) (p : PowerState) :
    serveVoiceStart f p s
      = (s.startVoice n f,
        some ⟨.ok, [BitVec.ofNat 8 n, ((s.startVoice n f).voice n).generation, flagByte (s.voice n).busy]⟩) := by
  have hgood : startBad f s.storeSize = false := by
    rw [Bool.eq_false_iff]
    exact fun hb => (startBad_iff f s.storeSize).mp hb hr
  simp only [serveVoiceStart, hgood, hc]
  rfl

/-- What an accepted VOICE-START on voice `n` makes of a state (R7, R134). -/
structure Starts (f : VoiceStartFields) (n : Nat) (s u : State) : Prop where
  voice : ∀ m, u.voice m = if m = n then (s.voice n).load f else s.voice m
  cues : (∀ j < 4, u.cue j = lapsed s (fun v => decide ((s.voice n).state ≠ .idle ∧ v = n)) j)
    ∧ LapsesByVoice (fun v => decide ((s.voice n).state ≠ .idle ∧ v = n)) s u
  others : ∀ m : Member, m ≠ .cueLapsed → m.isIn u.au.latch = m.isIn s.au.latch
  rest : ∃ vs cs l d c, u = { s with
    se := { s.se with voices := vs, amp := true, idleBlocks := 0 }
    ru := { s.ru with cues := cs }
    au := { s.au with latch := l, details := { s.au.details with cueLapsed := d, lapseCause := c } } }

theorem startVoice_starts (f : VoiceStartFields) {s : State} {n : Nat} (hn : n < 8) (hlen : s.se.voices.length = 8) :
    Starts f n s (s.startVoice n f) := by
  obtain ⟨voices, hvlen, hother, hgen, hl⟩ := taken_lapses s hn
  have hu : s.startVoice n f = (let s1 := if (s.voice n).busy then s.endVoices (single n) false else s
    let s2 := s1.setVoice n ((s1.voice n).load f)
    { s2 with se := { s2.se with amp := true, idleBlocks := 0 } }) := rfl
  rw [hu]
  generalize (if (s.voice n).busy then s.endVoices (single n) false else s) = s1 at hl
  obtain ⟨cs, l, d, c, hrest⟩ := hl.rest
  have hv1 : ∀ m, s1.voice m = voices.getD m {} := fun m => by rw [hrest]; rfl
  have hlen1 : n < s1.se.voices.length := by rw [hrest]; show n < voices.length; omega
  refine ⟨fun m => ?_, hl.shows (fun _ => rfl) (fun _ => rfl) ⟨rfl, rfl⟩ ⟨rfl, rfl⟩, hl.others, ?_⟩
  · refine (State.voice_setVoice s1 hlen1 _ m).trans ?_
    split
    · exact load_congr f (by rw [hv1, hgen])
    · rename_i hm
      rw [hv1, hother m hm]
  · rw [hrest]
    exact ⟨_, cs, l, d, c, rfl⟩

/-- R6: the voice taken, as its premises name it. -/
theorem chooseVoice_of_taken {f : VoiceStartFields} {s : State} {n : Nat} (hn : n < 8)
    (ht : f.voice ≠ 0xFF ∧ n = f.voice.toNat
      ∨ f.voice = 0xFF ∧ (s.voice n).state = .idle ∧ (∀ m < n, (s.voice m).state ≠ .idle)
      ∨ f.voice = 0xFF ∧ (∀ m < 8, (s.voice m).state ≠ .idle) ∧ (s.voice n).priority ≤ f.priority.toNat
        ∧ ∀ m < 8, (s.voice m).priority ≤ f.priority.toNat → Better s n m) :
    chooseVoice s.se.voices f = some n := by
  unfold chooseVoice
  rcases ht with ⟨hv, rfl⟩ | ⟨hv, hi, hlow⟩ | ⟨hv, hbusy, hp, hbest⟩
  · rw [if_neg hv]
  · rw [if_pos hv, anyVoice_of_idle hn hi hlow]
  · rw [if_pos hv, anyVoice_of_busy hbusy, stealVoice_of_best hn hp hbest]

/-- Settles O18: the checks refuse what the statement names, ANY with no candidate is FULL, and the voice taken is the
one its premises name; the rest of the next state is that of an accepted start at the close of its request. -/
theorem voiceStartTakesAVoice : Obligations.VoiceStartTakesAVoice := by
  unfold Obligations.VoiceStartTakesAVoice
  intro h f s hl hlen b loopEnd markerOk inRange better taken
  refine ⟨fun hr => ?_, fun hr hv hnone => ?_, fun n hn hr ht => ?_⟩
  · refine request_refused hl (if_pos ?_)
    exact (startBad_iff f s.storeSize).mpr hr
  · refine request_refused hl ?_
    have hgood : startBad f s.storeSize = false := by
      rw [Bool.eq_false_iff]
      exact fun hb => (startBad_iff f s.storeSize).mp hb hr
    have hchoose : chooseVoice s.se.voices f = none := by
      rw [chooseVoice, if_pos hv, anyVoice_of_busy fun m hm => (hnone m hm).1,
        stealVoice_of_none fun m hm => (hnone m hm).2]
    have hstore : startBad f (State.storeSize { s with lp := s.lp.idleParser }) = false := hgood
    simp only [serveVoiceStart, hstore, hchoose]
    rfl
  · have hformat : f.format = 0 ∨ f.format = 1 := hr.2.2.1
    have hu := serveVoiceStart_accepted (s := { s with lp := s.lp.idleParser }) hr (chooseVoice_of_taken hn ht) .active
    have hst := startVoice_starts f (s := { s with lp := s.lp.idleParser }) hn hlen
    generalize State.startVoice { s with lp := s.lp.idleParser } n f = u at hu hst
    obtain ⟨vs, cs, l, d, c, hrest⟩ := hst.rest
    have hreport : u.report = u := by
      rw [hrest]
      exact State.report_of_reported hl.1.1 rfl rfl rfl rfl rfl rfl id rfl rfl rfl
    obtain ⟨t, ht, hlp, hc⟩ := request_closes (h := h) (k := Kind.voiceStart) hl hu (by rw [hrest]) hreport
    have hvoice : ∀ m, SameUse (t.voice m) (if m = n then (s.voice n).load f else s.voice m) :=
      fun m => sameUse_of_eq (hc.voice m) (hst.voice m)
    have hend := hst.others .voiceEnd (by decide)
    have hloaded := load_eq (s.voice n) f hformat
    have hgen : (u.voice n).generation = (s.voice n).generation + 1 :=
      congrArg Voice.generation ((hst.voice n).trans (if_pos rfl))
    have hbusy : flagByte (s.voice n).busy = if (s.voice n).state = .idle then 0 else 1 := by
      rw [Voice.busy_eq]
      by_cases hi : (s.voice n).state = .idle <;> simp [hi, flagByte]
    obtain ⟨hmaster, hhold, hamp, hidle, -, -, -⟩ := hc.engine
    subst hrest
    refine ⟨t, ht, ?_, fun m _ hm => ?_, fun j hj => ?_, hc.lapsesByVoice hst.cues.2, ?_, ?_, ?_, ?_, ?_, ?_, ?_, ?_, ?_,
      ?_, ?_, ?_⟩
    · exact sameUse_of_eq (hvoice n) ((if_pos rfl).trans hloaded)
    · exact sameUse_of_eq (hvoice m) (if_neg hm)
    · exact (hc.cue j).trans (hst.cues.1 j hj)
    · exact hamp
    · exact hidle
    · exact hc.share
    · exact hmaster
    · exact hhold
    · rw [hc.details]
    · rw [hc.latch, hend]
    · exact hc.layers
    · exact hc.sc
    · exact hc.store
    · exact hc.keep
    · rw [hlp, ← hgen, ← hbusy]
      rfl

end Sys2Proof.Proofs
end

section
/-! VOICE-STOP: its checks (R12), the voices it acts on, and the ends and releases it brings (R13, R14). -/

namespace Sys2Proof.Proofs

open Sys2Proof Sys2Proof.Machine Sys2Proof.Safety

/-- R12: the checks of a VOICE-STOP in their order, for the two modes that there are. -/
theorem stopRefused_eq (voice : Byte) (generation : Half) {mode : Byte} (ramp : Half) (v : Voice)
    (hm : mode = 0 ∨ mode = 1) :
    stopRefused voice generation mode ramp v =
      if (7 < voice.toNat ∧ voice ≠ 0xFF) ∨ (256 ≤ generation.toNat ∧ generation ≠ 0xFFFF) ∨ 32767 < ramp.toNat then
        some .range
      else if voice ≠ 0xFF ∧ v.state = .idle then some .state
      else if voice ≠ 0xFF ∧ generation ≠ 0xFFFF ∧ generation.toNat ≠ v.generation.toNat then some .stale
      else none := by
  have hidle : (!v.busy) = true ↔ v.state = .idle := by simp [Voice.busy_eq]
  have hmode : ¬ (mode ≠ 0 ∧ mode ≠ 1) := by tauto
  simp only [stopRefused, generationBad_iff, hidle, generationStale_iff, hmode, false_or]

/-- R12: the voices that a VOICE-STOP acts on. -/
def stops (s : State) (voice : Byte) (n : Nat) : Bool :=
  if voice = 0xFF then decide ((s.voice n).state ≠ .idle) else decide (n = voice.toNat)

theorem getLsbD_stopSet (s : State) (voice : Byte) (n : Nat) :
    (s.stopSet voice).getLsbD n = (decide (n < 8) && stops s voice n) := by
  unfold State.stopSet stops
  split
  · rw [byteSet, getLsbD_maskOf]
    simp [Voice.busy_eq, and_comm]
  · rw [getLsbD_single, Bool.and_comm, Bool.decide_and]

/-- What an accepted VOICE-STOP makes of a state (R4, R12 to R14, R134): `acted` are the voices it acts on, and
`primed` those of them that a release ends. -/
structure Stopped (release : Bool) (acted primed : Nat → Bool) (ramp : Nat) (s u : State) : Prop where
  voice : ∀ n < 8, u.voice n = if acted n = false then s.voice n
    else if release = false ∨ (s.voice n).state = .priming then endedUse (s.voice n)
    else { s.voice n with target := 0, ramp := ramp, state := .releasing }
  cues : (∀ j < 4, u.cue j = lapsed s (fun n => decide (n < 8) && if release then primed n else acted n) j)
    ∧ LapsesByVoice (fun n => decide (n < 8) && if release then primed n else acted n) s u
  ended : RaisesSet .voiceEnd (·.voiceEnd) 8 (fun n => release && primed n) s u
  rest : ∃ vs cs l e d c, u = { s with
    se := { s.se with voices := vs }
    ru := { s.ru with cues := cs }
    au := { s.au with latch := l, details := { s.au.details with voiceEnd := e, cueLapsed := d, lapseCause := c } } }

/-- R4: a record of the voices whose uses have ended. -/
theorem endedVoices_getD (vs : BitVec 8) (voices : List Voice) {n : Nat} (hn : n < voices.length) :
    (endedVoices vs voices).getD n {} = if vs.getLsbD n then endedUse (voices.getD n {}) else voices.getD n {} := by
  simp [endedVoices, hn, Voice.endUse_eq]

/-- R13: an IMMEDIATE stop. -/
theorem stopped_immediate {s : State} {vs : BitVec 8} {acted primed : Nat → Bool} (ramp : Nat)
    (hlen : s.se.voices.length = 8) (hvs : ∀ n, vs.getLsbD n = (decide (n < 8) && acted n)) :
    Stopped false acted primed ramp s (s.endVoices vs false) := by
  have hl := s.endVoices_lapses vs
  have hbits : vs.getLsbD = fun n => decide (n < 8) && acted n := funext hvs
  rw [hbits] at hl
  obtain ⟨cs, l, d, c, hrest⟩ := hl.rest
  refine ⟨fun n hn => ?_, hl.shows (fun _ => rfl) (fun _ => rfl) ⟨rfl, rfl⟩ ⟨rfl, rfl⟩,
    SameMember.raises ⟨hl.others _ (by decide), by rw [hrest]⟩ fun n _ => Bool.false_and _, ?_⟩
  · rw [hrest]
    refine (endedVoices_getD vs s.se.voices (by omega)).trans ?_
    rw [hvs]
    cases acted n <;> simp [hn, State.voice]
  · rw [hrest]
    exact ⟨_, cs, l, _, d, c, rfl⟩

/-- R14: the effect of a release on a busy voice. -/
theorem release_eq {v : Voice} (ramp : Nat) (hb : v.state ≠ .idle) :
    v.release ramp = if v.state = .priming then v else { v with target := 0, ramp := ramp, state := .releasing } := by
  unfold Voice.release
  cases h : v.state <;> first | rfl | exact absurd h hb

/-- R14: a RELEASE. -/
theorem stopped_release {s : State} {vs : BitVec 8} {acted primed : Nat → Bool} (ramp : Nat)
    (hlen : s.se.voices.length = 8) (hvs : ∀ n, vs.getLsbD n = (decide (n < 8) && acted n))
    (hbusy : ∀ n < 8, acted n = true → (s.voice n).state ≠ .idle)
    (hprimed : ∀ n, primed n = (acted n && decide ((s.voice n).state = .priming))) :
    Stopped true acted primed ramp s (s.releaseVoices vs ramp) := by
  let priming := byteSet fun n => vs.getLsbD n && (s.voice n).state == .priming
  let s1 := s.mapVoices fun n v => if vs.getLsbD n then v.release ramp else v
  let s0 : State := { s1 with se := { s1.se with voices := endedVoices priming s1.se.voices } }
  have hbits : priming.getLsbD = fun n => decide (n < 8) && primed n := by
    funext n
    by_cases hn : n < 8
    · rw [getLsbD_byteSet _ hn, hvs, hprimed]
      simp [hn, beq_eq_decide]
    · simp [hn, BitVec.getLsbD_of_ge priming n (by omega)]
  have hl : Lapses _ [0, 1, 2, 3] (s0.raiseVoiceEnd priming) (s.releaseVoices vs ramp) :=
    s1.endVoices_event_lapses priming
  have hraise := raiseVoiceEnd_raises s0 priming
  have hsame := raiseVoiceEnd_same (m := .cueLapsed) (detail := fun d => (d.cueLapsed, d.lapseCause)) s0 priming
    (by decide) fun _ _ => rfl
  obtain ⟨l', e, hev⟩ := raiseVoiceEnd_eq s0 priming
  obtain ⟨cs, l, d, c, hrest⟩ := hl.rest
  rw [hbits] at hl hraise
  have hused : SameMember .voiceEnd (·.voiceEnd) (s0.raiseVoiceEnd priming) (s.releaseVoices vs ramp) :=
    ⟨hl.others _ (by decide), by rw [hrest]⟩
  have hraised := raisesSet_then_same hraise hused
  rw [hev] at hrest
  refine ⟨fun n hn => ?_, hl.shows (s0 := s) (fun _ => by rw [hev]; rfl) (fun _ => rfl)
    ⟨hsame.latch, hsame.detail⟩ ⟨rfl, rfl⟩, ?_, ?_⟩
  · have hlen1 : n < s1.se.voices.length := by
      show n < (s.se.voices.mapIdx _).length
      rw [List.length_mapIdx]
      omega
    have hvoice : (s.releaseVoices vs ramp).voice n = if primed n then endedUse (s1.voice n) else s1.voice n := by
      rw [hrest]
      refine (endedVoices_getD priming s1.se.voices hlen1).trans ?_
      rw [hbits]
      simp [hn, State.voice]
    have hreleased : s1.voice n = if acted n then (s.voice n).release ramp else s.voice n := by
      refine (State.voice_mapVoices s _ (by omega)).trans ?_
      rw [hvs]
      simp [hn]
    rw [hvoice, hreleased, hprimed]
    cases ha : acted n with
    | false => simp
    | true =>
      rw [release_eq ramp (hbusy n hn ha)]
      by_cases hp : (s.voice n).state = .priming <;> simp [hp]
  · exact raisesSet_congr hraised fun n hn => by simp [hn]
  · exact ⟨_, cs, l, e, d, c, hrest⟩

/-- R12 to R14: VOICE-STOP's service, for the two modes that there are. -/
theorem serveVoiceStop_accepted {voice : Byte} {generation ramp : Half} {mode : Byte} {s : State} (p : PowerState)
    (hc : stopRefused voice generation mode ramp (s.voice voice.toNat) = none) :
    serveVoiceStop voice generation mode ramp p s
      = (if mode = 0 then s.endVoices (s.stopSet voice) false else s.releaseVoices (s.stopSet voice) ramp.toNat,
        some ⟨.ok, [s.stopSet voice]⟩) := by
  simp only [serveVoiceStop, hc]
  rfl

theorem serveVoiceStop_refused {voice : Byte} {generation ramp : Half} {mode : Byte} {s : State} {c : Code}
    (p : PowerState) (hc : stopRefused voice generation mode ramp (s.voice voice.toNat) = some c) :
    serveVoiceStop voice generation mode ramp p s = refuse s c := by
  simp only [serveVoiceStop, hc]

/-- R12: the mode byte of a VOICE-STOP. -/
def stopMode (release : Bool) : Byte := if release then 1 else 0

/-- Settles O20: the checks stand in the statement's order, and an accepted request makes the voices, the cues and the
events that R13 and R14 give for its mode. -/
theorem voiceStopEndsOrReleases : Obligations.VoiceStopEndsOrReleases := by
  unfold Obligations.VoiceStopEndsOrReleases
  intro h voice generation ramp s hl hlen v acted primed release c
  let s' : State := { s with lp := s.lp.idleParser }
  have hmode : stopMode release = 0 ∨ stopMode release = 1 := by cases release <;> simp [stopMode]
  have hexec : exec c s = request h Kind.voiceStop (serveVoiceStop voice generation (stopMode release) ramp) s := by
    cases release <;> rfl
  have hchecks := stopRefused_eq voice generation ramp v hmode
  rw [hexec]
  split
  · rename_i h1
    exact request_refused hl (serveVoiceStop_refused _ (hchecks.trans (if_pos h1)))
  rename_i h1
  rw [if_neg h1] at hchecks
  split
  · rename_i h2
    exact request_refused hl (serveVoiceStop_refused _ (hchecks.trans (if_pos h2)))
  rename_i h2
  rw [if_neg h2] at hchecks
  split
  · rename_i h3
    exact request_refused hl (serveVoiceStop_refused _ (hchecks.trans (if_pos h3)))
  rename_i h3
  rw [if_neg h3] at hchecks
  have hu := serveVoiceStop_accepted (s := s') .active hchecks
  have hbusy : ∀ n < 8, acted n = true → (s.voice n).state ≠ .idle := by
    intro n hn ha
    by_cases hv : voice = 0xFF
    · rw [show acted n = decide ((s.voice n).state ≠ .idle) from if_pos hv] at ha
      exact of_decide_eq_true ha
    · rw [show acted n = decide (n = voice.toNat) from if_neg hv] at ha
      rw [of_decide_eq_true ha]
      exact fun hi => h2 ⟨hv, hi⟩
  have hst : Stopped release acted primed ramp.toNat s'
      (if stopMode release = 0 then s'.endVoices (s'.stopSet voice) false
        else s'.releaseVoices (s'.stopSet voice) ramp.toNat) := by
    have hset : ∀ n, (s'.stopSet voice).getLsbD n = (decide (n < 8) && acted n) := getLsbD_stopSet s' voice
    cases release with
    | false => exact stopped_immediate ramp.toNat hlen hset
    | true => exact stopped_release ramp.toNat hlen hset hbusy fun _ => rfl
  generalize (if stopMode release = 0 then s'.endVoices (s'.stopSet voice) false
        else s'.releaseVoices (s'.stopSet voice) ramp.toNat) = u at hu hst
  obtain ⟨vs, cs, l, e, d, cause, rfl⟩ := hst.rest
  obtain ⟨t, ht, hlp, hc⟩ := request_closes (h := h) (k := Kind.voiceStop) hl hu rfl
    (State.report_of_reported hl.1.1 rfl rfl rfl rfl rfl rfl id rfl rfl rfl)
  refine ⟨t, ht, fun n hn => sameUse_of_eq (hc.voice n) (hst.voice n hn), fun j hj => (hc.cue j).trans (hst.cues.1 j hj),
    hc.lapsesByVoice hst.cues.2, ?_, hc.engine, hc.layers, hc.sc, hc.store, hc.keep, s'.stopSet voice, fun n hn => ?_,
    hlp⟩
  · have hended := raisesSet_then_same hst.ended (hc.sameMember _ _)
    cases release with
    | false =>
      rw [if_neg fun hno => Bool.false_ne_true hno.1]
      rw [RaisesSet, if_neg (by simp)] at hended
      exact hended
    | true =>
      simp only [Bool.true_and] at hended
      simp only [true_and]
      exact hended
  · rw [getLsbD_stopSet]
    simp [hn]
    rfl

end Sys2Proof.Proofs
end

section
/-! SUPPORT. The rendering of a mix block, said once: what the model does with one voice and with one output sample is
what the rules say (R8, R20 to R29), and what a block has gathered after some of its samples. -/

namespace Sys2Proof.Machine

open Sys2Proof.Safety

/-! ### One voice -/

theorem Voice.width_eq (v : Voice) : v.width = sampleBytes v := by
  unfold Voice.width sampleBytes
  cases v.format <;> rfl

theorem Voice.looped_eq (v : Voice) : v.looped = decide (v.loopLength ≠ 0) := by
  unfold Voice.looped
  rw [bne, beq_eq_decide, decide_not]

theorem Voice.threshold_eq (v : Voice) :
    v.threshold = if v.loopLength ≠ 0 then 64 else min 64 (v.length * sampleBytes v) := by
  simp only [Voice.threshold, Voice.looped_eq, decide_eq_true_eq, Voice.width_eq]

/-- R8: a voice after its priming has been examined. -/
theorem Voice.examine_eq (v : Voice) :
    v.examine = { v with
      state := if v.state = .priming ∧ (v.threshold ≤ v.ring.length ∨ v.priming = 31) then .playing else v.state
      priming := if v.state = .priming ∧ v.ring.length < v.threshold then v.priming + 1 else v.priming } := by
  unfold Voice.examine
  by_cases hs : v.state = .priming
  · by_cases ht : v.threshold ≤ v.ring.length
    · simp [hs, ht, Nat.not_lt.mpr ht]
    · by_cases hp : v.priming = 31 <;> simp [hs, ht, Nat.not_le.mp ht, hp]
  · simp [hs]

/-- R20 (2): the gain of a voice after its slew. -/
def slewed (v : Voice) : Int :=
  if v.state = .idle ∨ v.state = .paused then v.gain
  else if v.ramp = 0 ∨ (v.target - v.gain).natAbs ≤ v.ramp then v.target
  else if v.gain < v.target then v.gain + v.ramp
  else v.gain - v.ramp

theorem Voice.slew_eq (v : Voice) : v.slew = { v with gain := slewed v } := by
  by_cases h : v.state = .idle ∨ v.state = .paused
  · have hstays : v.slew = v := by
      unfold Voice.slew
      rcases h with h | h <;> rw [h]
    rw [slewed, if_pos h]
    exact hstays
  · rw [slewed, if_neg h]
    rw [not_or] at h
    unfold Voice.slew
    cases hs : v.state <;> first | rfl | exact absurd hs h.1 | exact absurd hs h.2

/-- R8: an examination moves PRIMING to PLAYING alone, so it changes nothing of the slew that follows. -/
theorem slewed_examine (v : Voice) : slewed v.examine = slewed v := by
  have hrest : ∀ st : VoiceState, (if v.state = .priming ∧ (v.threshold ≤ v.ring.length ∨ v.priming = 31) then .playing
      else v.state) = st → (st = .idle ∨ st = .paused ↔ v.state = .idle ∨ v.state = .paused) := by
    rintro st rfl
    split
    · rename_i h
      simp [h.1]
    · rfl
  rw [Voice.examine_eq]
  simp only [slewed, hrest _ rfl]

/-- R8, R20: the boundary updates of a voice. -/
theorem Voice.boundary_eq (v : Voice) : v.boundary = atBoundary v := by
  have hreleasing : (if v.state = .priming ∧ (v.threshold ≤ v.ring.length ∨ v.priming = 31) then VoiceState.playing
      else v.state) = .releasing ↔ v.state = .releasing := by
    split
    · rename_i h
      simp [h.1]
    · rfl
  have hends : (v.examine.slew).releaseEnds = true ↔ v.state = .releasing ∧ slewed v = 0 := by
    rw [Voice.slew_eq, slewed_examine, Voice.examine_eq]
    simp only [Voice.releaseEnds, Bool.and_eq_true, beq_iff_eq, hreleasing]
  have hboundary : v.boundary = if v.state = .releasing ∧ slewed v = 0 then endedUse { v with gain := slewed v }
      else { v with
        gain := slewed v
        state := if v.state = .priming ∧ (v.threshold ≤ v.ring.length ∨ v.priming = 31) then .playing else v.state
        priming := if v.state = .priming ∧ v.ring.length < v.threshold then v.priming + 1 else v.priming } := by
    unfold Voice.boundary
    simp only [hends]
    rw [Voice.slew_eq, slewed_examine, Voice.examine_eq]
    split
    · simp [Voice.endUse, endedUse]
    · rfl
  rw [hboundary, Voice.threshold_eq]
  rfl

/-- R21: a voice that has a term and advances. -/
theorem Voice.sounding_eq (v : Voice) : v.sounding = sounds v := by
  rw [Bool.eq_iff_iff]
  simp [Voice.sounding, Voice.reached, sounds, Voice.looped_eq]

theorem Voice.lastSample_eq (v : Voice) : v.lastSample = atLast v := by
  rw [Bool.eq_iff_iff]
  simp [Voice.lastSample, atLast, Voice.looped_eq]

theorem Voice.starves_eq (v : Voice) : v.starves = lacksBytes v := by
  rw [Bool.eq_iff_iff]
  simp only [Voice.starves, Voice.needed, lacksBytes, Voice.lastSample_eq, Voice.width_eq, Bool.or_eq_true,
    decide_eq_true_eq, bne_iff_ne]
  omega

theorem byteAt_drop (p : List Byte) (n i : Nat) : byteAt (p.drop n) i = byteAt p (n + i) := by
  simp [byteAt, List.getElem?_drop]

/-- R22: a sample at a place of the ring. -/
theorem sampleOf_drop (v : Voice) (n : Nat) : sampleOf v.format (v.ring.drop n) = ringSample v n := by
  unfold ringSample sampleOf half
  cases v.format <;> simp [byteAt_drop, Int.mul_comm]

theorem Voice.term_eq (v : Voice) : v.term = termOf v := by
  have hhere : v.sampleHere = ringSample v 0 := by rw [← sampleOf_drop, List.drop_zero]; rfl
  have hnext : v.sampleNext = if atLast v then 0 else ringSample v (sampleBytes v) := by
    rw [Voice.sampleNext, Voice.lastSample_eq, sampleOf_drop, Voice.width_eq]
  simp only [Voice.term, termOf, Voice.sounding_eq, Voice.starves_eq, hhere, hnext, Bool.and_eq_true, Bool.not_eq_true',
    Bool.not_eq_true, interpolate, scaleTerm]

theorem Voice.unwrapped_eq (v : Voice) : v.unwrapped = steppedTo v := by
  simp only [Voice.unwrapped, steppedTo]
  omega

theorem Voice.wraps_eq (v : Voice) : v.wraps = wrapsTo v := by
  simp only [Voice.wraps, wrapsTo, Voice.looped_eq, Voice.loopEnd, Voice.unwrapped_eq, Bool.decide_and]

/-- R27: the samples that an advance passes. -/
theorem Voice.passed_eq (v : Voice) :
    v.passed = (if v.loopLength = 0 then min (steppedTo v) v.length else steppedTo v) - v.posInt := by
  simp only [Voice.passed, Voice.looped_eq, Voice.unwrapped_eq, decide_eq_true_eq, ne_eq, ite_not]

/-- R27: the position after an advance. -/
theorem Voice.movePosition_eq (v : Voice) :
    v.movePosition = { v with
      posInt := if v.loopLength = 0 then min (steppedTo v) v.length
        else if wrapsTo v then steppedTo v - v.loopLength else steppedTo v
      posFrac := if v.loopLength = 0 ∧ v.length ≤ steppedTo v then 0 else (v.posFrac + v.step) % 65536 } := by
  have hfrac : (v.posFrac + v.step % 65536) % 65536 = (v.posFrac + v.step) % 65536 := Nat.add_mod_mod _ _ _
  unfold Voice.movePosition
  simp only [Voice.looped_eq, Voice.unwrapped_eq, Voice.wraps_eq, decide_eq_true_eq, hfrac]
  by_cases hl : v.loopLength = 0
  · by_cases hu : v.length ≤ steppedTo v
    · simp [hl, hu]
    · simp [hl, hu, Nat.le_of_not_le hu]
  · simp [hl]

/-- R21, R22, R27: a voice after one output sample. -/
theorem Voice.afterSample_eq (v : Voice) : v.afterSample = nextSample v := by
  unfold Voice.afterSample nextSample
  rw [Voice.sounding_eq, Voice.movePosition_eq, Voice.passed_eq, Voice.starves_eq, Voice.width_eq]
  rfl

/-- R28: the markers that one advance crosses. -/
theorem Voice.crossed_eq (v : Voice) : v.crossed = crossesMarkers v := by
  have hbefore : (fun m : Nat × Marker => v.crossedBefore m.2)
      = fun x => decide (v.posInt < x.2.index ∧ x.2.index ≤ steppedTo v) := by
    funext x
    simp only [Voice.crossedBefore, Voice.unwrapped_eq, Bool.decide_and]
  have hafter : (fun m : Nat × Marker => v.crossedAfter m.2)
      = fun x => wrapsTo v && decide (v.loopStart ≤ x.2.index ∧ x.2.index ≤ steppedTo v - v.loopLength) := by
    funext x
    simp only [Voice.crossedAfter, Voice.wraps_eq, Voice.unwrapped_eq, Bool.decide_and, Bool.and_assoc]
  have horder : byIndex = fun l => match l with
      | [x, y] => if y.2.index < x.2.index then [y, x] else [x, y]
      | l => l := by
    funext l
    rcases l with _ | ⟨x, _ | ⟨y, _ | ⟨z, l⟩⟩⟩ <;> rfl
  unfold Voice.crossed crossesMarkers
  rw [Voice.sounding_eq, hbefore, hafter, horder]
  rfl

/-- R29: the bytes owed that a fetch in flight still brings. -/
def stillOwed (f : Option Fetch) (n : Nat) (v : Voice) : Nat :=
  match f with
  | some g => if g.requester = .voice n ∧ g.generation = v.generation then min v.owed g.size else 0
  | none => 0

theorem stillOwed_zero (f : Option Fetch) (n : Nat) {v : Voice} (h : v.owed = 0) : stillOwed f n v = 0 := by
  cases f with
  | none => rfl
  | some g => simp [stillOwed, h]

/-- R29: the bytes owed that stay owed at the close. -/
theorem Voice.settleOwed_eq (f : Option Fetch) (n : Nat) (v : Voice) :
    v.settleOwed f n =
      { v.advanceFetch (v.owed - stillOwed f n v) with owed := stillOwed f n v } := by
  unfold Voice.settleOwed stillOwed
  cases f with
  | none => rfl
  | some g =>
    by_cases hg : g.requester = .voice n ∧ g.generation = v.generation
    · simp [fetchFor, hg]
    · have hno : fetchFor (some g) n v.generation = false := by
        rw [Bool.eq_false_iff]
        simpa [fetchFor] using hg
      simp [hno, hg]

/-- R32: the fetch address moved past some bytes. -/
theorem Voice.advanceFetch_eq (v : Voice) (n : Nat) :
    v.advanceFetch n = { v with
      fetchAddr :=
        if v.loopLength ≠ 0 ∧ v.start + (v.loopStart + v.loopLength) * sampleBytes v ≤ v.fetchAddr + n then
          v.start + v.loopStart * sampleBytes v
            + (v.fetchAddr + n - (v.start + (v.loopStart + v.loopLength) * sampleBytes v))
              % (v.loopLength * sampleBytes v)
        else v.fetchAddr + n } := by
  unfold Voice.advanceFetch Voice.fetchEnd
  simp only [Voice.looped_eq, Voice.width_eq, Voice.loopEnd, Bool.and_eq_true, decide_eq_true_eq]
  by_cases hl : v.loopLength = 0
  · simp [hl]
  · simp only [ne_eq, hl, not_false_eq_true, true_and, if_true]
    split <;> rfl

/-- R3, R29: a voice at the close of a block. -/
theorem Voice.close_eq (f : Option Fetch) (n : Nat) (v : Voice) : v.close f n = atClose f n v := by
  have hbusy : ({ v with starved := false } : Voice).busy = decide (v.state ≠ .idle) := Voice.busy_eq _
  have hends : (({ v with starved := false } : Voice).reached
        && (v.state == .playing || v.state == .releasing)) = true
      ↔ (v.state = .playing ∨ v.state = .releasing) ∧ v.loopLength = 0 ∧ v.length ≤ v.posInt := by
    simp only [Voice.reached, Voice.looped, Bool.and_eq_true, Bool.or_eq_true, beq_iff_eq, Bool.not_eq_true',
      bne_eq_false_iff_eq, decide_eq_true_eq]
    tauto
  unfold Voice.close atClose
  simp only [hbusy, decide_eq_true_eq, hends, ite_not]
  split
  · rfl
  · split
    · rfl
    · have howed : (if 0 < v.owed then ({ v with starved := false } : Voice).settleOwed f n
          else { v with starved := false })
        = { v with
          starved := false, owed := stillOwed f n v
          fetchAddr :=
            if v.owed ≠ 0 ∧ v.loopLength ≠ 0
                ∧ v.start + (v.loopStart + v.loopLength) * sampleBytes v
                  ≤ v.fetchAddr + (v.owed - stillOwed f n v) then
              v.start + v.loopStart * sampleBytes v
                + (v.fetchAddr + (v.owed - stillOwed f n v)
                  - (v.start + (v.loopStart + v.loopLength) * sampleBytes v)) % (v.loopLength * sampleBytes v)
            else v.fetchAddr + (v.owed - stillOwed f n v) } := by
        by_cases h0 : v.owed = 0
        · rw [if_neg (by omega), stillOwed_zero f n h0]
          simp [h0]
        · rw [if_pos (by omega), Voice.settleOwed_eq, Voice.advanceFetch_eq]
          simp only [h0, ne_eq, not_false_eq_true, true_and]
          rfl
      rw [howed]
      rfl

end Sys2Proof.Machine
end

section
/-! SUPPORT. A whole mix block (R19, R21 to R28): what it has gathered after some of its samples. -/

namespace Sys2Proof.Machine

open Sys2Proof.Safety

/-! ### The voices of a block -/

theorem voicesAt_succ (voices : List Voice) (k : Nat) :
    voicesAt voices (k + 1) = (voicesAt voices k).map nextSample := rfl

@[simp] theorem length_voicesAt (voices : List Voice) (k : Nat) : (voicesAt voices k).length = voices.length := by
  induction k with
  | zero => rfl
  | succ k ih => rw [voicesAt_succ, List.length_map, ih]

/-- What one output sample, and any number of them, leaves of a voice (R21, R27). -/
structure Advanced (v w : Voice) : Prop where
  rest : ∃ ring owed pos frac starved, w = { v with
    ring := ring, owed := owed, posInt := pos, posFrac := frac, starved := starved }
  silent : (v.state ≠ .playing ∧ v.state ≠ .releasing) → w = v

theorem Advanced.refl (v : Voice) : Advanced v v := ⟨⟨_, _, _, _, _, rfl⟩, fun _ => rfl⟩

theorem Advanced.state {v w : Voice} (h : Advanced v w) : w.state = v.state := by
  obtain ⟨_, _, _, _, _, rfl⟩ := h.rest
  rfl

theorem Advanced.trans {u v w : Voice} (h : Advanced u v) (h' : Advanced v w) : Advanced u w := by
  refine ⟨?_, fun hs => (h'.silent (by rw [h.state]; exact hs)).trans (h.silent hs)⟩
  obtain ⟨_, _, _, _, _, rfl⟩ := h.rest
  obtain ⟨r, o, p, f, st, rfl⟩ := h'.rest
  exact ⟨r, o, p, f, st, rfl⟩

theorem nextSample_advanced (v : Voice) : Advanced v (nextSample v) := by
  unfold nextSample
  split
  · rename_i h
    refine ⟨⟨_, _, _, _, _, rfl⟩, fun hs => ?_⟩
    obtain ⟨hp | hr, -⟩ := of_decide_eq_true h
    · exact absurd hp hs.1
    · exact absurd hr hs.2
  · exact Advanced.refl v

/-- A block advances each voice by itself, wherever it stands in the table. -/
theorem voicesAt_advanced (voices : List Voice) (k n : Nat) :
    Advanced (voices.getD n {}) ((voicesAt voices k).getD n {}) := by
  induction k with
  | zero => exact Advanced.refl _
  | succ k ih =>
    have hnext : (voicesAt voices (k + 1)).getD n {} = nextSample ((voicesAt voices k).getD n {}) := by
      rw [voicesAt_succ]
      simp only [List.getD_eq_getElem?_getD, List.getElem?_map]
      cases (voicesAt voices k)[n]? <;> rfl
    rw [hnext]
    exact ih.trans (nextSample_advanced _)

/-! ### The samples of a block -/

/-- The map of a table by place and record, said of the places. -/
theorem mapIdx_eq_map_range {β : Type} (f : Nat → Voice → β) (voices : List Voice) :
    voices.mapIdx f = (List.range voices.length).map fun n => f n (voices.getD n {}) := by
  apply List.ext_getElem
  · simp
  · intro i h1 h2
    have hi : i < voices.length := by simpa using h1
    simp [hi]

/-- What the render has gathered before output sample `k` (R21 to R28). -/
def gathered (e : Nat) (voices : List Voice) (k : Nat) : Rendered :=
  (List.range k).foldl (renderSample e) { voices := voices, report := [], pairs := 0, clipped := false, codes := [] }

theorem gathered_succ (e : Nat) (voices : List Voice) (k : Nat) :
    gathered e voices (k + 1) = renderSample e (gathered e voices k) k := by
  rw [gathered, List.range_succ, List.foldl_append]
  rfl

theorem gathered_voices (e : Nat) (voices : List Voice) (k : Nat) :
    (gathered e voices k).voices = voicesAt voices k := by
  have hstep : List.map Voice.afterSample = List.map nextSample := by rw [funext Voice.afterSample_eq]
  induction k with
  | zero => rfl
  | succ k ih => rw [gathered_succ, voicesAt_succ, ← ih, ← hstep]; rfl

/-- R24, R25: an output sample before saturation. -/
theorem masterOut_gathered (e : Nat) (voices : List Voice) (k : Nat) :
    masterOut ((gathered e voices k).voices.map Voice.term).sum e = mixedAt voices e k := by
  rw [gathered_voices, funext Voice.term_eq]
  rfl

theorem gathered_codes (e : Nat) (voices : List Voice) (k : Nat) :
    (gathered e voices k).codes = (List.range k).map fun i => dacOf (saturate (mixedAt voices e i)) := by
  induction k with
  | zero => rfl
  | succ k ih =>
    rw [List.range_succ, List.map_append, ← ih, gathered_succ, List.map_singleton, ← masterOut_gathered]
    rfl

theorem gathered_clipped (e : Nat) (voices : List Voice) (k : Nat) :
    (gathered e voices k).clipped
      = (List.range k).any fun i => mixedAt voices e i != saturate (mixedAt voices e i) := by
  induction k with
  | zero => rfl
  | succ k ih =>
    rw [List.range_succ, List.any_append, ← ih, gathered_succ, List.any_cons, List.any_nil, Bool.or_false,
      ← masterOut_gathered]
    rfl

theorem gathered_report (e : Nat) (voices : List Voice) (k : Nat) :
    (gathered e voices k).report = (List.range k).flatMap fun i => crossingsAt (voicesAt voices i) i := by
  induction k with
  | zero => rfl
  | succ k ih =>
    rw [List.range_succ, List.flatMap_append, ← ih, gathered_succ, List.flatMap_cons, List.flatMap_nil,
      List.append_nil, ← gathered_voices e]
    rfl

theorem gathered_pairs (e : Nat) (voices : List Voice) (k j : Nat) :
    (gathered e voices k).pairs.getLsbD j
      = (List.range k).any fun i => decide (j ∈ reportedPairs (voicesAt voices i) ∧ j < 16) := by
  induction k with
  | zero => exact BitVec.getLsbD_zero
  | succ k ih =>
    rw [List.range_succ, List.any_append, ← ih, gathered_succ, List.any_cons, List.any_nil, Bool.or_false,
      ← gathered_voices e, ← getLsbD_maskOf]
    exact BitVec.getLsbD_or

/-! ### The crossing report (R28) -/

theorem crossingsAt_eq (voices : List Voice) (k : Nat) :
    crossingsAt voices k = (List.range voices.length).flatMap fun n =>
      (crossesMarkers (voices.getD n {})).map fun x =>
        { voice := n, marker := x.1, generation := (voices.getD n {}).generation, sample := k } := by
  rw [crossingsAt, mapIdx_eq_map_range, ← List.flatMap_def, funext Voice.crossed_eq]

/-- R28: the crossing report of a block. -/
theorem report_eq (e : Nat) {voices : List Voice} (h : voices.length = 8) :
    (renderBlock e voices).report = blockReport voices := by
  refine (gathered_report e voices 64).trans ?_
  unfold blockReport
  congr 1
  funext k
  rw [crossingsAt_eq, length_voicesAt, h]

/-- R28: markers are numbered 0 and 1. -/
theorem crossesMarkers_number {v : Voice} {x : Nat × Marker} (h : x ∈ crossesMarkers v) : x.1 < 2 := by
  rw [← Voice.crossed_eq] at h
  have hordered : ∀ l : List (Nat × Marker), x ∈ byIndex l → x ∈ l := by
    intro l hx
    unfold byIndex at hx
    split at hx
    · split at hx
      · simpa [or_comm] using hx
      · exact hx
    · exact hx
  have hmem : x ∈ v.markers := by
    unfold Voice.crossed at h
    split at h
    · rcases List.mem_append.mp h with h | h <;> exact (List.mem_filter.mp (hordered _ h)).1
    · cases h
  rcases List.mem_append.mp hmem with h | h <;> obtain ⟨m, -, rfl⟩ := List.mem_map.mp h <;> simp

/-- R28: the pairs reported, by voice and marker. -/
theorem mem_reportedPairs {voices : List Voice} (h : voices.length = 8) (j : Nat) :
    (j ∈ reportedPairs voices ∧ j < 16)
      ↔ j < 16 ∧ ((crossesMarkers (voices.getD (j / 2) {})).any fun x => x.1 == j % 2 && x.2.report) = true := by
  rw [and_comm, reportedPairs, mapIdx_eq_map_range, h, funext Voice.crossed_eq]
  refine and_congr_right fun hj => ?_
  simp only [List.mem_flatten, List.mem_map, List.mem_range, List.any_eq_true, Bool.and_eq_true, beq_iff_eq]
  constructor
  · rintro ⟨_, ⟨n, hn, rfl⟩, hj⟩
    obtain ⟨x, hx, rfl⟩ := List.mem_map.mp hj
    obtain ⟨hx, hr⟩ := List.mem_filter.mp hx
    have hlt := crossesMarkers_number hx
    rw [show (2 * n + x.1) / 2 = n by omega, show (2 * n + x.1) % 2 = x.1 by omega]
    exact ⟨x, hx, rfl, hr⟩
  · rintro ⟨x, hx, hn, hr⟩
    refine ⟨_, ⟨j / 2, by omega, rfl⟩, List.mem_map.mpr ⟨x, List.mem_filter.mpr ⟨hx, hr⟩, by omega⟩⟩

end Sys2Proof.Machine
end

section
/-! SUPPORT. Layer starts (R39, R40, R122, R123): what they look at, and what they leave of a state. -/

namespace Sys2Proof.Machine

open Sys2Proof.Safety

/-! ### What a layer start looks at -/

/-- The layers, the host slots, the cache and the store port of two states are the same. -/
structure SameLoader (s t : State) : Prop where
  layers : t.ru.layers = s.ru.layers
  host : t.ru.host = s.ru.host
  cache : t.ru.cache = s.ru.cache
  port : t.sp = s.sp

namespace SameLoader

variable {s t : State}

theorem layer (h : SameLoader s t) (n : Nat) : t.layer n = s.layer n := by rw [State.layer, h.layers]; rfl

theorem findPattern (h : SameLoader s t) (id : Nat) : t.findPattern id = s.findPattern id := by
  simp only [State.findPattern, State.hostPattern, State.cached, h.host, h.cache]

theorem startRefused (h : SameLoader s t) (layer id priority : Nat) :
    t.startRefused layer id priority = s.startRefused layer id priority := by
  simp only [State.startRefused, h.findPattern, h.layer]

theorem setLayer (h : SameLoader s t) (n : Nat) (l : Layer) : SameLoader (s.setLayer n l) (t.setLayer n l) :=
  ⟨congrArg (·.set n l) h.layers, h.host, h.cache, h.port⟩

theorem purgeQueue (h : SameLoader s t) : SameLoader s.purgeQueue t.purgeQueue := by
  refine ⟨h.layers, h.host, h.cache, ?_⟩
  simp only [State.purgeQueue, h.layers, h.port]

theorem enqueue (h : SameLoader s t) (id : Nat) : SameLoader (s.enqueue id) (t.enqueue id) := by
  unfold State.enqueue
  rw [h.port]
  split
  · exact h
  · exact ⟨h.layers, h.host, h.cache, rfl⟩

theorem loadFailed (h : SameLoader s t) (id : Nat) : SameLoader (s.loadFailed id) (t.loadFailed id) :=
  ⟨congrArg (List.mapIdx _) h.layers, h.host, h.cache, h.port⟩

theorem loadFor (h : SameLoader s t) (id : Nat) : t.loadFor id = s.loadFor id := by
  have hentry : t.dirEntry id = s.dirEntry id := by unfold State.dirEntry; rw [h.port]
  have hsize : t.storeSize = s.storeSize := by unfold State.storeSize; rw [h.port]
  unfold State.loadFor
  rw [hentry, hsize]

theorem beginFrom (h : SameLoader s t) (ids : List Nat) : SameLoader (s.beginFrom ids) (t.beginFrom ids) := by
  induction ids generalizing s t with
  | nil => exact ⟨h.layers, h.host, h.cache, by rw [State.beginFrom, State.beginFrom, h.port]⟩
  | cons id rest ih =>
    rw [State.beginFrom, State.beginFrom, h.loadFor]
    cases s.loadFor id with
    | some l => exact ⟨h.layers, h.host, h.cache, by simp only [h.port]⟩
    | none => exact ih (h.loadFailed id)

theorem beginLoad (h : SameLoader s t) : SameLoader s.beginLoad t.beginLoad := by
  unfold State.beginLoad
  rw [h.port]
  cases s.sp.load with
  | some l => exact h
  | none => exact h.beginFrom _

/-- R123: a layer start makes the same of the layers, the cache and the store port of two states that have the same. -/
theorem startLayer (h : SameLoader s t) (layer id priority scale : Nat) :
    SameLoader (s.startLayer layer id priority scale) (t.startLayer layer id priority scale) := by
  unfold State.startLayer
  simp only [h.findPattern, h.layer]
  cases s.findPattern id with
  | missing => exact h
  | ready p =>
    have h' := (h.setLayer layer
      (({ s.layer layer with id := id, priority := priority, scale := scale } : Layer).run p)).purgeQueue
    exact ⟨h'.layers, h'.host, by simp only [h'.cache], h'.port⟩
  | load => exact (((h.setLayer layer _).purgeQueue).enqueue id).beginLoad

end SameLoader

/-! ### What a layer start leaves -/

/-- What layer starts and load ends leave of a state: all but the layers, the cache, the load list and the current load,
and PATTERN_MISSING. -/
structure LayerWork (s t : State) : Prop where
  rest : ∃ ls ca ll ld l p, t = { s with
    ru := { s.ru with layers := ls, cache := ca }
    sp := { s.sp with loadList := ll, load := ld }
    au := { s.au with latch := l, details := { s.au.details with patternMissing := p } } }
  others : ∀ m : Member, m ≠ .patternMissing → m.isIn t.au.latch = m.isIn s.au.latch

namespace LayerWork

theorem refl (s : State) : LayerWork s s := ⟨⟨_, _, _, _, _, _, rfl⟩, fun _ _ => rfl⟩

theorem trans {s t u : State} (h : LayerWork s t) (h' : LayerWork t u) : LayerWork s u := by
  refine ⟨?_, fun m hm => (h'.others m hm).trans (h.others m hm)⟩
  obtain ⟨_, _, _, _, _, _, rfl⟩ := h.rest
  obtain ⟨ls, ca, ll, ld, l, p, rfl⟩ := h'.rest
  exact ⟨ls, ca, ll, ld, l, p, rfl⟩

theorem setLayer (s : State) (n : Nat) (l : Layer) : LayerWork s (s.setLayer n l) :=
  ⟨⟨_, _, _, _, _, _, rfl⟩, fun _ _ => rfl⟩

theorem purgeQueue (s : State) : LayerWork s s.purgeQueue := ⟨⟨_, _, _, _, _, _, rfl⟩, fun _ _ => rfl⟩

theorem enqueue (s : State) (id : Nat) : LayerWork s (s.enqueue id) := by
  unfold State.enqueue
  split
  · exact refl s
  · exact ⟨⟨_, _, _, _, _, _, rfl⟩, fun _ _ => rfl⟩

theorem loadFailed (s : State) (id : Nat) : LayerWork s (s.loadFailed id) := by
  refine ⟨?_, fun m hm => (sameMember_raise (detail := fun _ => ()) _ hm (fun _ => rfl) fun _ => rfl).latch⟩
  unfold State.loadFailed State.raisePatternMissing State.raise Attention.raise
  cases Member.patternMissing.isIn (s.mapLayers _).au.latch <;> exact ⟨_, _, _, _, _, _, rfl⟩

theorem beginFrom (s : State) (ids : List Nat) : LayerWork s (s.beginFrom ids) := by
  induction ids generalizing s with
  | nil => exact ⟨⟨_, _, _, _, _, _, rfl⟩, fun _ _ => rfl⟩
  | cons id rest ih =>
    rw [State.beginFrom]
    cases s.loadFor id with
    | some l => exact ⟨⟨_, _, _, _, _, _, rfl⟩, fun _ _ => rfl⟩
    | none => exact (loadFailed s id).trans (ih _)

theorem beginLoad (s : State) : LayerWork s s.beginLoad := by
  unfold State.beginLoad
  cases s.sp.load with
  | some l => exact refl s
  | none => exact beginFrom s _

theorem startLayer (s : State) (layer id priority scale : Nat) :
    LayerWork s (s.startLayer layer id priority scale) := by
  unfold State.startLayer
  simp only
  cases s.findPattern id with
  | missing => exact refl s
  | ready p => exact ⟨⟨_, _, _, _, _, _, rfl⟩, fun _ _ => rfl⟩
  | load => exact (((setLayer s layer _).trans (purgeQueue _)).trans (enqueue _ id)).trans (beginLoad _)

theorem same {α : Type} {s t : State} (h : LayerWork s t) {m : Member} {detail : Details → α} (hm : m ≠ .patternMissing)
    (hd : ∀ d p, detail { d with patternMissing := p } = detail d) : SameMember m detail s t := by
  refine ⟨h.others m hm, ?_⟩
  obtain ⟨_, _, _, _, _, _, rfl⟩ := h.rest
  exact hd _ _

end LayerWork

end Sys2Proof.Machine
end

section
/-! SUPPORT. Cues at a crossing report (R129, R132, R133): what becomes of each cue by itself, and what the cues that
fire do in their order. -/

namespace Sys2Proof.Machine

open Sys2Proof.Safety

/-! ### One cue -/

/-- R132, R133: a cue fires at a crossing. -/
def Cue.firesAt (c : Cue) (x : Crossing) : Bool :=
  match c.state, c.second with
  | .waitFirst, none => c.first.matchesCrossing x
  | .waitSecond, some q => q.matchesCrossing x
  | _, _ => false

/-- R132: a cue begins at a crossing to wait for its second trigger. -/
def Cue.movesAt (c : Cue) (x : Crossing) : Bool :=
  match c.state, c.second with
  | .waitFirst, some _ => c.first.matchesCrossing x
  | _, _ => false

/-- R132, R133: a cue after a crossing. -/
def Cue.after (c : Cue) (x : Crossing) : Cue :=
  if c.firesAt x then c.unarm else if c.movesAt x then { c with state := .waitSecond } else c

/-- R132: a cue fires at some crossing of a report. -/
def Cue.firesIn (c : Cue) : List Crossing → Bool
  | [] => false
  | x :: xs => c.firesAt x || (c.after x).firesIn xs

/-- R132: the crossings of a report behind the first one that matches a trigger. -/
def laterThan (q : Trigger) (report : List Crossing) : List Crossing :=
  (report.dropWhile fun x => !q.matchesCrossing x).drop 1

/-- R132: a cue that waits for its first trigger meets it in a report. -/
def Cue.begins (c : Cue) (report : List Crossing) : Bool :=
  decide (c.state = .waitFirst) && report.any c.first.matchesCrossing

/-- R132, R133: a cue meets in a report all that it waits for. -/
def Cue.fires (c : Cue) (report : List Crossing) : Bool :=
  match c.second with
  | none => c.begins report
  | some q => c.begins report && (laterThan c.first report).any q.matchesCrossing
      || decide (c.state = .waitSecond) && report.any q.matchesCrossing

theorem laterThan_cons (q : Trigger) (x : Crossing) (xs : List Crossing) :
    laterThan q (x :: xs) = if q.matchesCrossing x then xs else laterThan q xs := by
  unfold laterThan
  rw [List.dropWhile_cons]
  cases q.matchesCrossing x <;> rfl

/-- R132: what the crossings of a report, one after another, make of a cue. -/
theorem Cue.report_eq (c : Cue) (report : List Crossing) :
    c.firesIn report = c.fires report
      ∧ report.foldl Cue.after c = if c.fires report then c.unarm
        else if c.begins report then { c with state := .waitSecond } else c := by
  induction report generalizing c with
  | nil =>
    have hb : c.begins [] = false := by simp [Cue.begins]
    have hf : c.fires [] = false := by
      unfold Cue.fires
      rw [hb]
      cases c.second <;> simp
    simp [hb, hf, Cue.firesIn]
  | cons x xs ih =>
    obtain ⟨hfires, hfold⟩ := ih (c.after x)
    rw [Cue.firesIn, List.foldl_cons, hfires, hfold]
    obtain ⟨state, first, second, pattern, layer, priority, scale⟩ := c
    cases state with
    | unarmed => cases second <;> simp [Cue.after, Cue.firesAt, Cue.movesAt, Cue.fires, Cue.begins]
    | waitFirst =>
      cases hx : first.matchesCrossing x <;> cases second <;>
        simp [Cue.after, Cue.firesAt, Cue.movesAt, Cue.fires, Cue.begins, Cue.unarm, laterThan_cons, hx]
    | waitSecond =>
      cases second with
      | none => simp [Cue.after, Cue.firesAt, Cue.movesAt, Cue.fires, Cue.begins]
      | some q =>
        cases hx : q.matchesCrossing x <;>
          simp [Cue.after, Cue.firesAt, Cue.movesAt, Cue.fires, Cue.begins, Cue.unarm, hx]

/-! ### The layer start of a cue that fires -/

/-- R133: what cue `n`, with its record `c`, does when it fires, but for its own state. -/
def State.fireEffect (s : State) (c : Cue) (n : Nat) : State :=
  match s.startRefused c.layer c.pattern c.priority with
  | some _ => s.raiseCueLapsed n .blocked
  | none => (s.startLayer c.layer c.pattern c.priority c.scale).raiseCueFired n

theorem State.beginFrom_withCues (s : State) (cs : List Cue) (ids : List Nat) :
    (s.withCues cs).beginFrom ids = (s.beginFrom ids).withCues cs := by
  induction ids generalizing s with
  | nil => rfl
  | cons id rest ih =>
    have hload : (s.withCues cs).loadFor id = s.loadFor id := rfl
    rw [State.beginFrom, State.beginFrom, hload]
    cases s.loadFor id with
    | some l => rfl
    | none => exact ih (s.loadFailed id)

theorem State.beginLoad_withCues (s : State) (cs : List Cue) : (s.withCues cs).beginLoad = s.beginLoad.withCues cs := by
  have hload : (s.withCues cs).sp.load = s.sp.load := rfl
  unfold State.beginLoad
  rw [hload]
  cases s.sp.load with
  | some l => rfl
  | none => exact s.beginFrom_withCues cs _

theorem State.enqueue_withCues (s : State) (cs : List Cue) (id : Nat) :
    (s.withCues cs).enqueue id = (s.enqueue id).withCues cs := by
  have hlist : (s.withCues cs).sp.loadList = s.sp.loadList := rfl
  unfold State.enqueue
  rw [hlist]
  cases s.sp.loadList.contains id <;> rfl

/-- R123: a layer that waits for its load. -/
def Layer.waiting (l : Layer) (id priority scale : Nat) : Layer :=
  { l with
    id := id, priority := priority, scale := scale, state := .loading, step := 0, tick := 0, passes := .left 0
    start := 0, value := 0, output := 0 }

/-- R123: a layer start on a pattern that has to be loaded. -/
theorem State.startLayer_of_load {s : State} {id : Nat} (h : s.findPattern id = .load) (layer priority scale : Nat) :
    s.startLayer layer id priority scale
      = ((s.setLayer layer ((s.layer layer).waiting id priority scale)).purgeQueue.enqueue id).beginLoad := by
  simp only [State.startLayer, h]
  rfl

/-- R123: the cues take no part in a layer start. -/
theorem State.startLayer_withCues (s : State) (cs : List Cue) (layer id priority scale : Nat) :
    (s.withCues cs).startLayer layer id priority scale = (s.startLayer layer id priority scale).withCues cs := by
  have hfind : (s.withCues cs).findPattern id = s.findPattern id := rfl
  cases hf : s.findPattern id with
  | load =>
    let u := (s.setLayer layer ((s.layer layer).waiting id priority scale)).purgeQueue
    calc (s.withCues cs).startLayer layer id priority scale = ((u.withCues cs).enqueue id).beginLoad :=
          State.startLayer_of_load (hfind.trans hf) layer priority scale
      _ = (u.enqueue id).beginLoad.withCues cs := by rw [State.enqueue_withCues, State.beginLoad_withCues]
      _ = (s.startLayer layer id priority scale).withCues cs := by rw [State.startLayer_of_load hf]
  | missing =>
    unfold State.startLayer
    simp only [hfind, hf]
  | ready p =>
    unfold State.startLayer
    simp only [hfind, hf]
    rfl

theorem State.fireEffect_withCues (s : State) (cs : List Cue) (c : Cue) (n : Nat) :
    (s.withCues cs).fireEffect c n = (s.fireEffect c n).withCues cs := by
  have hrefused : (s.withCues cs).startRefused c.layer c.pattern c.priority
      = s.startRefused c.layer c.pattern c.priority := rfl
  unfold State.fireEffect
  rw [hrefused, State.startLayer_withCues]
  cases s.startRefused c.layer c.pattern c.priority <;> rfl

/-- R132: a cue that a crossing neither fires nor moves stays as it is. -/
theorem Cue.after_of_not {c : Cue} {x : Crossing} (h1 : c.firesAt x = false) (h2 : c.movesAt x = false) :
    c.after x = c := by simp [Cue.after, h1, h2]

/-- R132, R133: cue `n` at one crossing. -/
theorem State.cueAt_eq (x : Crossing) (s : State) (n : Nat) :
    State.cueAt x s n = (if (s.cue n).firesAt x then s.fireEffect (s.cue n) n else s).withCues
      (s.ru.cues.set n ((s.cue n).after x)) := by
  have hstay : s.withCues (s.ru.cues.set n (s.cue n)) = s := s.setCue_self n
  have hfire : s.fireCue n = (s.fireEffect (s.cue n) n).withCues (s.ru.cues.set n (s.cue n).unarm) :=
    State.fireEffect_withCues s (s.ru.cues.set n (s.cue n).unarm) (s.cue n) n
  have stays : (s.cue n).firesAt x = false → (s.cue n).movesAt x = false →
      s = (if (s.cue n).firesAt x then s.fireEffect (s.cue n) n else s).withCues
        (s.ru.cues.set n ((s.cue n).after x)) := by
    intro h1 h2
    rw [h1, Cue.after_of_not h1 h2, if_neg Bool.false_ne_true, hstay]
  have fires : (s.cue n).firesAt x = true →
      s.fireCue n = (if (s.cue n).firesAt x then s.fireEffect (s.cue n) n else s).withCues
        (s.ru.cues.set n ((s.cue n).after x)) := by
    intro h1
    rw [Cue.after, h1, if_pos rfl, if_pos rfl, hfire]
  have arms : State.cueAt x s n = match (s.cue n).state with
      | .unarmed => s
      | .waitFirst =>
        if (s.cue n).first.matchesCrossing x then
          match (s.cue n).second with
          | none => s.fireCue n
          | some _ => s.setCue n { s.cue n with state := .waitSecond }
        else s
      | .waitSecond =>
        match (s.cue n).second with
        | some t => if t.matchesCrossing x then s.fireCue n else s
        | none => s := rfl
  cases hst : (s.cue n).state with
  | unarmed =>
    rw [hst] at arms
    exact arms.trans (stays (by simp [Cue.firesAt, hst]) (by simp [Cue.movesAt, hst]))
  | waitFirst =>
    rw [hst] at arms
    cases hx : (s.cue n).first.matchesCrossing x with
    | false =>
      have hnone : State.cueAt x s n = s := by simpa [hx] using arms
      exact hnone.trans (stays (by cases hq : (s.cue n).second <;> simp [Cue.firesAt, hst, hq, hx])
        (by cases hq : (s.cue n).second <;> simp [Cue.movesAt, hst, hq, hx]))
    | true =>
      cases hq : (s.cue n).second with
      | none =>
        have hfires : State.cueAt x s n = s.fireCue n := by simpa [hx, hq] using arms
        exact hfires.trans (fires (by simp [Cue.firesAt, hst, hq, hx]))
      | some q =>
        have hmoves : State.cueAt x s n = s.setCue n { s.cue n with state := .waitSecond } := by
          simpa [hx, hq] using arms
        have h1 : (s.cue n).firesAt x = false := by simp [Cue.firesAt, hst, hq]
        have h2 : (s.cue n).movesAt x = true := by simp [Cue.movesAt, hst, hq, hx]
        rw [hmoves, Cue.after, h1, h2, if_neg Bool.false_ne_true, if_neg Bool.false_ne_true, if_pos rfl]
        rfl
  | waitSecond =>
    rw [hst] at arms
    cases hq : (s.cue n).second with
    | none =>
      have hnone : State.cueAt x s n = s := by simpa [hq] using arms
      exact hnone.trans (stays (by simp [Cue.firesAt, hst, hq]) (by simp [Cue.movesAt, hst]))
    | some q =>
      cases hx : q.matchesCrossing x with
      | true =>
        have hfires : State.cueAt x s n = s.fireCue n := by simpa [hx, hq] using arms
        exact hfires.trans (fires (by simp [Cue.firesAt, hst, hq, hx]))
      | false =>
        have hnone : State.cueAt x s n = s := by simpa [hx, hq] using arms
        exact hnone.trans (stays (by simp [Cue.firesAt, hst, hq, hx]) (by simp [Cue.movesAt, hst]))

end Sys2Proof.Machine
end

section
/-! SUPPORT. A crossing report taken (R132): which cues it fires, and what it leaves of the four cue records. -/

namespace Sys2Proof.Machine

open Sys2Proof.Safety

/-- R132: a cue after a crossing keeps the fields that its layer start takes. -/
theorem State.fireEffect_after (s : State) (c : Cue) (x : Crossing) (n : Nat) :
    s.fireEffect (c.after x) n = s.fireEffect c n := by
  unfold Cue.after
  split
  · rfl
  · split <;> rfl

theorem Cue.not_firesAt_of_unarmed {c : Cue} (h : c.state = .unarmed) (x : Crossing) : c.firesAt x = false := by
  simp [Cue.firesAt, h]

/-- R129: a cue record that is none has nothing to meet. -/
theorem State.cue_set_after (s : State) (n : Nat) (x : Crossing) (j : Nat) :
    (s.withCues (s.ru.cues.set n ((s.cue n).after x))).cue j = if j = n then (s.cue j).after x else s.cue j := by
  by_cases hn : n < s.ru.cues.length
  · refine (State.cue_setCue s hn _ j).trans ?_
    split
    · rename_i h
      rw [h]
    · rfl
  · have hnone : s.cue n = {} := by simp [State.cue, List.getElem?_eq_none (Nat.le_of_not_lt hn)]
    rw [List.set_eq_of_length_le (Nat.le_of_not_lt hn)]
    split
    · rename_i h
      rw [h, State.withCues_self, hnone]
      rfl
    · rfl

/-- R132, R133: the layer starts of the cues of a list, one after another. -/
def State.fireEffects (s : State) (fired : List Nat) : State :=
  fired.foldl (fun u n => u.fireEffect (s.cue n) n) s

theorem State.fireEffects_append (s : State) (fired : List Nat) (n : Nat) :
    s.fireEffects (fired ++ [n]) = (s.fireEffects fired).fireEffect (s.cue n) n := by
  simp [State.fireEffects]

/-- From state `s` a crossing report, so far as it is taken, has fired the cues of a list and made of the cues what
`cs` says, and nothing else. -/
structure Met (s : State) (cs : Nat → Cue) (fired : List Nat) (t : State) : Prop where
  cue : ∀ j, t.cue j = cs j
  effects : t = (s.fireEffects fired).withCues t.ru.cues
  start : ∀ (u : State) (j n : Nat), u.fireEffect (cs j) n = u.fireEffect (s.cue j) n
  passed : ∀ j ∈ fired, (cs j).state = .unarmed
  nodup : fired.Nodup

theorem Met.refl (s : State) : Met s s.cue [] s := ⟨fun _ => rfl, rfl, fun _ _ _ => rfl, by simp, List.nodup_nil⟩

variable {s t : State} {cs : Nat → Cue} {fired : List Nat}

/-- R132: one crossing met by one cue. -/
theorem Met.cueAt (h : Met s cs fired t) (x : Crossing) (n : Nat) :
    Met s (fun j => if j = n then (cs j).after x else cs j) (if (cs n).firesAt x then fired ++ [n] else fired)
      (State.cueAt x t n) := by
  rw [State.cueAt_eq, h.cue n]
  have hcue : ∀ j, (t.withCues (t.ru.cues.set n ((cs n).after x))).cue j = if j = n then (cs j).after x else cs j := by
    intro j
    rw [← h.cue n, State.cue_set_after, h.cue j]
  have hstart : ∀ (u : State) (j m : Nat),
      u.fireEffect (if j = n then (cs j).after x else cs j) m = u.fireEffect (s.cue j) m := by
    intro u j m
    split
    · rw [State.fireEffect_after, h.start]
    · exact h.start u j m
  have hover : ∀ j ∈ fired, (if j = n then (cs j).after x else cs j).state = .unarmed := by
    intro j hj
    have hun := h.passed j hj
    split
    · rw [Cue.after_of_not (Cue.not_firesAt_of_unarmed hun x) (by simp [Cue.movesAt, hun]), hun]
    · exact hun
  cases hf : (cs n).firesAt x with
  | false =>
    have heffects := congrArg (fun u : State => u.withCues (t.ru.cues.set n ((cs n).after x))) h.effects
    exact ⟨hcue, heffects, hstart, hover, h.nodup⟩
  | true =>
    have hnot : n ∉ fired := fun hn => by
      rw [Cue.not_firesAt_of_unarmed (h.passed n hn) x] at hf
      exact Bool.false_ne_true hf
    refine ⟨hcue, ?_, hstart, fun j hj => ?_, ?_⟩
    · have hfire : t.fireEffect (s.cue n) n
          = ((s.fireEffects fired).fireEffect (s.cue n) n).withCues t.ru.cues := by
        rw [← State.fireEffect_withCues, ← h.effects]
      rw [if_pos rfl, if_pos rfl, h.start, hfire, State.fireEffects_append]
      rfl
    · rcases List.mem_append.mp (by simpa using hj : j ∈ fired ++ [n]) with hj | hj
      · exact hover j hj
      · rw [List.mem_singleton.mp hj, if_pos rfl, Cue.after, hf]
        rfl
    · rw [if_pos rfl]
      exact List.nodup_append.mpr ⟨h.nodup, by simp, by simpa using fun a ha e => hnot (by rw [← e]; exact ha)⟩

/-- R132: one crossing met by the cues of a list in their order. -/
theorem Met.crossing (h : Met s cs fired t) (x : Crossing) (ns : List Nat) (hn : ns.Nodup) :
    ∃ fired', Met s (fun j => if j ∈ ns then (cs j).after x else cs j) fired' (ns.foldl (State.cueAt x) t)
      ∧ ∀ j, j ∈ fired' ↔ j ∈ fired ∨ j ∈ ns ∧ (cs j).firesAt x = true := by
  induction ns generalizing cs fired t with
  | nil => exact ⟨fired, by simpa using h, by simp⟩
  | cons n ns ih =>
    obtain ⟨hnot, hnodup⟩ := List.nodup_cons.mp hn
    obtain ⟨fired', hmet, hmem⟩ := ih (h.cueAt x n) hnodup
    have hother : ∀ j ∈ ns, j ≠ n := fun j hj e => hnot (e ▸ hj)
    have hcs : (fun j => if j ∈ ns then (if j = n then (cs j).after x else cs j).after x
        else if j = n then (cs j).after x else cs j) = fun j => if j ∈ n :: ns then (cs j).after x else cs j := by
      funext j
      by_cases hj : j ∈ ns
      · simp [hj, hother j hj]
      · simp [hj]
    rw [hcs] at hmet
    refine ⟨fired', hmet, fun j => ?_⟩
    rw [hmem]
    by_cases hj : j ∈ ns
    · cases hf : (cs n).firesAt x <;> simp [hj, hother j hj]
    · by_cases hjn : j = n
      · subst hjn
        cases hf : (cs j).firesAt x <;> simp [hj]
      · cases hf : (cs n).firesAt x <;> simp [hj, hjn]

/-- R132: a crossing report taken, from any stage of it on. -/
theorem Met.report (h : Met s cs fired t) (report : List Crossing) :
    ∃ fired', Met s (fun j => if j < 4 then report.foldl Cue.after (cs j) else cs j) fired' (t.takeReport report)
      ∧ ∀ j, j ∈ fired' ↔ j ∈ fired ∨ j < 4 ∧ (cs j).firesIn report = true := by
  have hfour : ∀ j, j ∈ [0, 1, 2, 3] ↔ j < 4 := by simp; omega
  induction report generalizing cs fired t with
  | nil => exact ⟨fired, by simpa [State.takeReport] using h, by simp [Cue.firesIn]⟩
  | cons x xs ih =>
    obtain ⟨fired1, hmet1, hmem1⟩ := h.crossing x [0, 1, 2, 3] (by decide)
    obtain ⟨fired', hmet, hmem⟩ := ih hmet1
    have hcs : (fun j => if j < 4 then xs.foldl Cue.after (if j ∈ [0, 1, 2, 3] then (cs j).after x else cs j)
        else if j ∈ [0, 1, 2, 3] then (cs j).after x else cs j)
        = fun j => if j < 4 then (x :: xs).foldl Cue.after (cs j) else cs j := by
      funext j
      by_cases hj : j < 4 <;> simp only [hfour, hj, if_true, if_false, List.foldl_cons]
    rw [hcs] at hmet
    refine ⟨fired', hmet, fun j => ?_⟩
    simp only [hmem, hmem1, hfour]
    by_cases hj : j < 4
    · simp [hj, Cue.firesIn, or_assoc]
    · simp [hj]

/-- R132, R133: what a crossing report makes of the cues, and which of them fire. -/
theorem State.takeReport_met (s : State) (report : List Crossing) :
    ∃ fired, Met s (fun j => if j < 4 then (if (s.cue j).fires report then (s.cue j).unarm
          else if (s.cue j).begins report then { s.cue j with state := .waitSecond } else s.cue j) else s.cue j)
        fired (s.takeReport report)
      ∧ ∀ j, j ∈ fired ↔ j < 4 ∧ (s.cue j).fires report = true := by
  obtain ⟨fired, hmet, hmem⟩ := (Met.refl s).report report
  simp only [(Cue.report_eq _ _).2] at hmet
  simp only [(Cue.report_eq _ _).1, List.not_mem_nil, false_or] at hmem
  exact ⟨fired, hmet, hmem⟩

end Sys2Proof.Machine
end

section
/-! SUPPORT. The render event of a mix block boundary (R19, R29, R132): what it leaves of a state, and what it raises. -/

namespace Sys2Proof.Machine

open Sys2Proof.Safety

/-! ### What events and layer starts leave -/

/-- What the events and the layer starts of a boundary leave of a state: all but the layers, the cache, the cues, the
load list and the current load, and the latches and details. -/
structure BlockWork (s t : State) : Prop where
  rest : ∃ ls ca cs ll ld l d, t = { s with
    ru := { s.ru with layers := ls, cache := ca, cues := cs }
    sp := { s.sp with loadList := ll, load := ld }
    au := { s.au with latch := l, details := d } }

theorem BlockWork.refl (s : State) : BlockWork s s := ⟨_, _, _, _, _, _, _, rfl⟩

theorem BlockWork.trans {s t u : State} (h : BlockWork s t) (h' : BlockWork t u) : BlockWork s u := by
  obtain ⟨_, _, _, _, _, _, _, rfl⟩ := h.rest
  obtain ⟨ls, ca, cs, ll, ld, l, d, rfl⟩ := h'.rest
  exact ⟨ls, ca, cs, ll, ld, l, d, rfl⟩

theorem State.raise_works (s : State) (m : Member) (merge : Details → Details) : BlockWork s (s.raise m merge) :=
  ⟨_, _, _, _, _, _, _, rfl⟩

theorem State.raiseUnless_works (s : State) (p : Prop) [Decidable p] (m : Member) (merge : Details → Details) :
    BlockWork s (if p then s else s.raise m merge) := by
  split
  · exact BlockWork.refl s
  · exact s.raise_works m merge

theorem LayerWork.works {s t : State} (h : LayerWork s t) : BlockWork s t := by
  obtain ⟨_, _, _, _, _, _, rfl⟩ := h.rest
  exact ⟨_, _, _, _, _, _, _, rfl⟩

theorem Lapses.works {ended : Nat → Bool} {cues : List Nat} {s t : State} (h : Lapses ended cues s t) :
    BlockWork s t := by
  obtain ⟨_, _, _, _, rfl⟩ := h.rest
  exact ⟨_, _, _, _, _, _, _, rfl⟩

theorem State.fireEffect_works (s : State) (c : Cue) (n : Nat) : BlockWork s (s.fireEffect c n) := by
  unfold State.fireEffect
  cases s.startRefused c.layer c.pattern c.priority with
  | some _ => exact s.raise_works _ _
  | none => exact (LayerWork.startLayer s _ _ _ _).works.trans (State.raise_works _ _ _)

theorem foldl_fireEffect_works (f : Nat → Cue) (fired : List Nat) (s : State) :
    BlockWork s (fired.foldl (fun u n => u.fireEffect (f n) n) s) := by
  induction fired generalizing s with
  | nil => exact BlockWork.refl s
  | cons n fired ih => exact (s.fireEffect_works (f n) n).trans (ih _)

theorem State.takeReport_works (s : State) (report : List Crossing) : BlockWork s (s.takeReport report) := by
  obtain ⟨fired, hmet, -⟩ := s.takeReport_met report
  rw [hmet.effects]
  exact (foldl_fireEffect_works s.cue fired s).trans ⟨_, _, _, _, _, _, _, rfl⟩

/-! ### The other members -/

section Others

variable {α : Type} {m : Member} {detail : Details → α}

theorem sameMember_raiseUnless (s : State) (p : Prop) [Decidable p] {m' : Member} {merge : Details → Details}
    (hne : m ≠ m') (hmerge : ∀ d, detail (merge d) = detail d) (hclear : ∀ d : Details, detail (d.clear m') = detail d) :
    SameMember m detail s (if p then s else s.raise m' merge) := by
  split
  · exact ⟨rfl, rfl⟩
  · exact sameMember_raise s hne hmerge hclear

/-- R133: a cue that fires leaves every member but the three that it can raise. -/
theorem State.fireEffect_same (hm : m ∉ [Member.cueFired, .cueLapsed, .patternMissing])
    (hd : ∀ d f l c p, detail { d with cueFired := f, cueLapsed := l, lapseCause := c, patternMissing := p } = detail d)
    (s : State) (c : Cue) (n : Nat) : SameMember m detail s (s.fireEffect c n) := by
  simp only [List.mem_cons, List.not_mem_nil, or_false, not_or] at hm
  obtain ⟨hfired, hlapsed, hmissing⟩ := hm
  unfold State.fireEffect
  cases s.startRefused c.layer c.pattern c.priority with
  | some _ => exact sameMember_raise s hlapsed (fun d => hd d _ _ _ _) fun d => hd d _ _ _ _
  | none =>
    exact ((LayerWork.startLayer s _ _ _ _).same hmissing fun d p => hd d _ _ _ p).trans
      (sameMember_raise _ hfired (fun d => hd d _ _ _ _) fun d => hd d _ _ _ _)

theorem foldl_fireEffect_same (hm : m ∉ [Member.cueFired, .cueLapsed, .patternMissing])
    (hd : ∀ d f l c p, detail { d with cueFired := f, cueLapsed := l, lapseCause := c, patternMissing := p } = detail d)
    (f : Nat → Cue) (fired : List Nat) (s : State) :
    SameMember m detail s (fired.foldl (fun u n => u.fireEffect (f n) n) s) := by
  induction fired generalizing s with
  | nil => exact ⟨rfl, rfl⟩
  | cons n fired ih => exact (State.fireEffect_same hm hd s (f n) n).trans (ih _)

/-- R132: a crossing report leaves every member but the three that a cue can raise. -/
theorem State.takeReport_same (hm : m ∉ [Member.cueFired, .cueLapsed, .patternMissing])
    (hd : ∀ d f l c p, detail { d with cueFired := f, cueLapsed := l, lapseCause := c, patternMissing := p } = detail d)
    (s : State) (report : List Crossing) : SameMember m detail s (s.takeReport report) := by
  obtain ⟨fired, hmet, -⟩ := s.takeReport_met report
  rw [hmet.effects]
  exact (foldl_fireEffect_same hm hd s.cue fired s).trans (SameMember.of_au rfl)

/-- R134: lapses leave every member but CUE_LAPSED. -/
theorem Lapses.same {ended : Nat → Bool} {cues : List Nat} {s t : State} (h : Lapses ended cues s t)
    (hm : m ≠ .cueLapsed) (hd : ∀ d l c, detail { d with cueLapsed := l, lapseCause := c } = detail d) :
    SameMember m detail s t := by
  refine ⟨h.others m hm, ?_⟩
  obtain ⟨_, _, _, _, rfl⟩ := h.rest
  exact hd _ _ _

end Others

/-! ### The stages of a render -/

/-- R8, R20 to R28: the samples of a block, after the boundary updates. -/
@[irreducible] def State.samples (s : State) : Rendered := renderBlock s.se.effMaster (s.se.voices.map atBoundary)

/-- R29: the voices at the close of the block. -/
def State.closedVoices (s : State) : List Voice := s.samples.voices.mapIdx (atClose s.sp.fetch)

/-- R4: the voices whose uses the boundary ends. -/
def State.blockEnds (s : State) : BitVec 8 := endedMask s.se.voices s.closedVoices

/-- R17, R29: the engine at the close of the block. -/
@[irreducible] def State.playedEngine (s : State) : SoundEngine :=
  ({ s.se with
    voices := s.closedVoices, block := s.samples.codes, blockStart := s.now
    nextBoundary := s.se.nextBoundary + Config.mixBlock } : SoundEngine).closeIdle

/-- R19, R29, R125: the state at the close of the block, before its events. -/
def State.played (s : State) : State := { s with se := s.playedEngine, ru := s.ru.takePhase }

/-- R28, R29: MARKER, VOICE_STARVED and CLIP as the block found them. -/
def State.blockFound (s : State) : State :=
  let u := (s.played.raiseMarker s.samples.pairs).raiseStarved (voiceMask s.samples.voices (·.starved))
  if s.samples.clipped then u.raiseClip else u

/-- R4: the block's events up to the crossing report. -/
def State.blockEvents (s : State) : State := s.blockFound.raiseVoiceEnd s.blockEnds

theorem State.render_eq (s : State) : s.render = (s.blockEvents.takeReport s.samples.report).lapseCues s.blockEnds := by
  have hb : s.se.voices.map Voice.boundary = s.se.voices.map atBoundary := by rw [funext Voice.boundary_eq]
  have hc : Voice.close s.sp.fetch = atClose s.sp.fetch := by
    funext n v
    exact Voice.close_eq _ n v
  unfold State.render State.blockEvents State.blockFound State.played State.playedEngine State.blockEnds
    State.closedVoices State.samples
  simp only [hb, hc]

theorem State.blockFound_works (s : State) : BlockWork s.played s.blockFound := by
  have h := (s.played.raiseUnless_works _ _ _).trans (State.raiseUnless_works
    (s.played.raiseMarker s.samples.pairs) (voiceMask s.samples.voices (·.starved) = 0) .voiceStarved
    fun d => { d with voiceStarved := d.voiceStarved ||| voiceMask s.samples.voices (·.starved) })
  unfold State.blockFound
  simp only
  split
  · exact h.trans (State.raise_works _ _ _)
  · exact h

theorem State.blockEvents_works (s : State) : BlockWork s.played s.blockEvents :=
  s.blockFound_works.trans (State.raiseUnless_works _ _ _ _)

/-- R19, R29, R132: what a render leaves of a state. -/
theorem State.render_rest (s : State) : ∃ ls ca cs ll ld l d, s.render = { s with
    se := s.playedEngine
    ru := { s.ru.takePhase with layers := ls, cache := ca, cues := cs }
    sp := { s.sp with loadList := ll, load := ld }
    au := { s.au with latch := l, details := d } } := by
  rw [State.render_eq]
  exact ((s.blockEvents_works.trans (State.takeReport_works _ _)).trans (State.lapseCues_lapses _ _).works).rest

/-! ### What a render raises -/

section Raises

variable {α : Type} {m : Member} {detail : Details → α}

theorem raiseMarker_same (hm : m ≠ .marker) (hd : ∀ d x, detail { d with marker := x } = detail d) (s : State)
    (ps : BitVec 16) : SameMember m detail s (s.raiseMarker ps) :=
  sameMember_raiseUnless s _ hm (fun d => hd d _) fun d => hd d _

theorem raiseStarved_same (hm : m ≠ .voiceStarved) (hd : ∀ d x, detail { d with voiceStarved := x } = detail d)
    (s : State) (vs : BitVec 8) : SameMember m detail s (s.raiseStarved vs) :=
  sameMember_raiseUnless s _ hm (fun d => hd d _) fun d => hd d _

theorem raiseClip_same (hm : m ≠ .clip) (hd : ∀ d x, detail { d with clip := x } = detail d) (s : State) :
    SameMember m detail s s.raiseClip :=
  sameMember_raise s hm (fun d => hd d _) fun d => hd d _

theorem played_same (s : State) : SameMember m detail s s.played := .of_au rfl

/-- R29: the state in which CLIP is raised, or not. -/
theorem blockFound_after_starved (s : State) {u : State}
    (hu : u = (s.played.raiseMarker s.samples.pairs).raiseStarved (voiceMask s.samples.voices (·.starved))) :
    s.blockFound = if s.samples.clipped then u.raiseClip else u := by
  rw [hu]
  rfl

theorem raiseMarker_raises (s : State) (ps : BitVec 16) :
    RaisesSet .marker (·.marker) 16 ps.getLsbD s (s.raiseMarker ps) :=
  raisesSet_mask s (fun _ => rfl) fun _ => rfl

theorem raiseStarved_raises (s : State) (vs : BitVec 8) :
    RaisesSet .voiceStarved (·.voiceStarved) 8 vs.getLsbD s (s.raiseStarved vs) :=
  raisesSet_mask s (fun _ => rfl) fun _ => rfl

theorem clipped_same (hm : m ≠ .clip) (hd : ∀ d x, detail { d with clip := x } = detail d) (p : Prop) [Decidable p]
    (s : State) : SameMember m detail s (if p then s.raiseClip else s) := by
  split
  · exact raiseClip_same hm hd s
  · exact ⟨rfl, rfl⟩

/-- R132, R134: the crossing report and the lapses leave the members that no cue raises. -/
theorem render_same_of_events (hm : m ∉ [Member.cueFired, .cueLapsed, .patternMissing])
    (hd : ∀ d f l c p, detail { d with cueFired := f, cueLapsed := l, lapseCause := c, patternMissing := p } = detail d)
    (s : State) : SameMember m detail s.blockEvents s.render := by
  have hl : m ≠ .cueLapsed := fun e => hm (by simp [e])
  rw [State.render_eq]
  exact (State.takeReport_same hm hd _ _).trans ((State.lapseCues_lapses _ _).same hl fun d l c => hd d _ l c _)

theorem render_marker (s : State) : RaisesSet .marker (·.marker) 16 s.samples.pairs.getLsbD s s.render := by
  refine raisesSet_then_same ((played_same s).then_raises (raiseMarker_raises _ _)) ?_
  refine SameMember.trans ?_ (render_same_of_events (by decide) (fun _ _ _ _ _ => rfl) s)
  refine SameMember.trans ?_ (raiseVoiceEnd_same s.blockFound _ (by decide) fun _ _ => rfl)
  rw [blockFound_after_starved s rfl]
  exact (raiseStarved_same (by decide) (fun _ _ => rfl) _ _).trans (clipped_same (by decide) (fun _ _ => rfl) _ _)

theorem render_starved (s : State) :
    RaisesSet .voiceStarved (·.voiceStarved) 8 (voiceMask s.samples.voices (·.starved)).getLsbD s s.render := by
  have hbefore : SameMember .voiceStarved (·.voiceStarved) s (s.played.raiseMarker s.samples.pairs) :=
    (played_same s).trans (raiseMarker_same (by decide) (fun _ _ => rfl) s.played _)
  refine raisesSet_then_same (hbefore.then_raises (raiseStarved_raises _ _)) ?_
  refine SameMember.trans ?_ (render_same_of_events (by decide) (fun _ _ _ _ _ => rfl) s)
  refine SameMember.trans ?_ (raiseVoiceEnd_same s.blockFound _ (by decide) fun _ _ => rfl)
  rw [blockFound_after_starved s rfl]
  exact clipped_same (by decide) (fun _ _ => rfl) _ _

/-- What a block's findings leave of the members that they do not raise. -/
theorem blockFound_same (hm : m ∉ [Member.marker, .voiceStarved, .clip])
    (hd : ∀ d a b c, detail { d with marker := a, voiceStarved := b, clip := c } = detail d) (s : State) :
    SameMember m detail s s.blockFound := by
  simp only [List.mem_cons, List.not_mem_nil, or_false, not_or] at hm
  obtain ⟨hmarker, hstarved, hclip⟩ := hm
  rw [blockFound_after_starved s rfl]
  exact (played_same s).trans ((raiseMarker_same hmarker (fun d x => hd d x _ _) s.played _).trans
    ((raiseStarved_same hstarved (fun d x => hd d _ x _) _ _).trans (clipped_same hclip (fun d x => hd d _ _ x) _ _)))

theorem render_voiceEnd (s : State) : RaisesSet .voiceEnd (·.voiceEnd) 8 s.blockEnds.getLsbD s s.render :=
  raisesSet_then_same
    ((blockFound_same (by decide) (fun _ _ _ _ => rfl) s).then_raises (raiseVoiceEnd_raises s.blockFound s.blockEnds))
    (render_same_of_events (by decide) (fun _ _ _ _ _ => rfl) s)

/-- R29: CLIP counts the blocks in which a sample was saturated. -/
theorem render_clip (s : State) :
    if s.samples.clipped then Member.clip.isIn s.render.au.latch = true ∧ s.render.au.details.clip
        = min 255 ((if Member.clip.isIn s.au.latch then s.au.details.clip else 0) + 1)
      else Member.clip.isIn s.render.au.latch = Member.clip.isIn s.au.latch
        ∧ s.render.au.details.clip = s.au.details.clip := by
  have hbefore : SameMember .clip (·.clip) s
      ((s.played.raiseMarker s.samples.pairs).raiseStarved (voiceMask s.samples.voices (·.starved))) :=
    (played_same s).trans ((raiseMarker_same (by decide) (fun _ _ => rfl) s.played _).trans
      (raiseStarved_same (by decide) (fun _ _ => rfl) _ _))
  have hafter : SameMember .clip (·.clip) s.blockFound s.render :=
    (raiseVoiceEnd_same s.blockFound _ (by decide) fun _ _ => rfl).trans
      (render_same_of_events (by decide) (fun _ _ _ _ _ => rfl) s)
  rw [hafter.latch, hafter.detail, blockFound_after_starved s rfl]
  split
  · refine ⟨raise_latch _ _ _, ?_⟩
    rw [← hbefore.latch, ← hbefore.detail]
    unfold State.raiseClip State.raise Attention.raise satAdd
    split <;> rfl
  · exact ⟨hbefore.latch, hbefore.detail⟩

end Raises

end Sys2Proof.Machine
end

section
/-! SUPPORT. A mix block boundary as a whole event (R19): time passes, the block is rendered, the event is closed. -/

namespace Sys2Proof.Machine

open Sys2Proof.Safety

/-! ### The passing of time -/

/-- R55, R75, R185: while time passes, the clock, the operation in flight, a format and what they write move on. -/
theorem State.elapse_rest (s : State) (dt : Nat) :
    ∃ cu sc dr keep face f, s.elapse dt = { s with
      cu := cu, sc := sc, dr := dr, keep := keep, face := face, sb := { s.sb with format := f }, now := s.now + dt } := by
  have hwork : ∀ u : State, ∃ sc keep, u.workOn dt = { u with sc := sc, keep := keep } := by
    intro u
    unfold State.workOn
    split
    · exact ⟨_, _, rfl⟩
    · simp only
      split <;> exact ⟨_, _, rfl⟩
  have hformat : ∀ u : State, ∃ cu dr keep face f, u.formatOn dt = { u with
      cu := cu, dr := dr, keep := keep, face := face, sb := { u.sb with format := f } } := by
    intro u
    unfold State.formatOn
    split
    · exact ⟨_, _, _, _, _, rfl⟩
    · split
      · exact ⟨_, _, _, _, _, rfl⟩
      · simp only [State.formatMore]
        rw [State.formatWrites_eq]
        exact ⟨_, _, _, _, _, rfl⟩
  unfold State.elapse
  obtain ⟨sc, keep, hw⟩ := hwork { s with cu := s.cu.count s.now dt }
  obtain ⟨cu, dr, keep', face, f, hf⟩ := hformat { s with cu := s.cu.count s.now dt, sc := sc, keep := keep }
  simp only [hw, hf]
  exact ⟨_, _, _, _, _, _, rfl⟩

@[simp] theorem ClockUnit.count_valid (c : ClockUnit) (now dt : Nat) : (c.count now dt).valid = c.valid := by
  unfold ClockUnit.count
  simp only
  split <;> rfl

/-! ### The engine at the close -/

section CloseIdle

variable (e : SoundEngine)

theorem SoundEngine.closeIdle_rest :
    e.closeIdle = { e with idleBlocks := e.closeIdle.idleBlocks, amp := e.closeIdle.amp } := by
  unfold SoundEngine.closeIdle
  split <;> rfl

@[simp] theorem SoundEngine.closeIdle_voices : e.closeIdle.voices = e.voices := by rw [closeIdle_rest]
@[simp] theorem SoundEngine.closeIdle_block : e.closeIdle.block = e.block := by rw [closeIdle_rest]
@[simp] theorem SoundEngine.closeIdle_blockStart : e.closeIdle.blockStart = e.blockStart := by rw [closeIdle_rest]
@[simp] theorem SoundEngine.closeIdle_nextBoundary : e.closeIdle.nextBoundary = e.nextBoundary := by rw [closeIdle_rest]
@[simp] theorem SoundEngine.closeIdle_master : e.closeIdle.master = e.master := by rw [closeIdle_rest]
@[simp] theorem SoundEngine.closeIdle_hold : e.closeIdle.hold = e.hold := by rw [closeIdle_rest]

theorem all_idle_iff (voices : List Voice) :
    (voices.all fun v => !v.busy) = true ↔ ¬ ∃ v ∈ voices, v.state ≠ .idle := by
  simp [Voice.busy_eq]

/-- R17: a close with a busy voice. -/
theorem SoundEngine.closeIdle_of_busy (h : ∃ v ∈ e.voices, v.state ≠ .idle) :
    e.closeIdle.idleBlocks = 0 ∧ e.closeIdle.amp = e.amp := by
  unfold SoundEngine.closeIdle
  rw [if_neg (fun hall => (all_idle_iff _).mp hall h)]
  exact ⟨rfl, rfl⟩

/-- R17: a close with every voice IDLE. -/
theorem SoundEngine.closeIdle_of_idle (h : ¬ ∃ v ∈ e.voices, v.state ≠ .idle) :
    e.closeIdle.idleBlocks = min 512 (e.idleBlocks + 1)
      ∧ e.closeIdle.amp = (e.amp && (e.hold || decide (e.closeIdle.idleBlocks < 512))) := by
  unfold SoundEngine.closeIdle
  rw [if_pos ((all_idle_iff _).mpr h)]
  refine ⟨rfl, ?_⟩
  show (e.amp && !(min 512 (e.idleBlocks + 1) == 512 && !e.hold)) = _
  have hcount : (min 512 (e.idleBlocks + 1) == 512) = !decide (min 512 (e.idleBlocks + 1) < 512) := by
    rw [beq_eq_decide, ← decide_not]
    congr 1
    rw [eq_iff_iff]
    omega
  rw [hcount]
  cases e.hold <;> simp

end CloseIdle

/-- R33: the store's service leaves the voices as busy as they are. -/
theorem State.serviceStore_busy (s : State) :
    (∃ v ∈ s.serviceStore.se.voices, v.state ≠ .idle) ↔ ∃ v ∈ s.se.voices, v.state ≠ .idle := by
  obtain ⟨r, hr, -⟩ := s.serviceStore_voices
  rw [hr]
  simp only [List.mem_mapIdx]
  constructor
  · rintro ⟨_, ⟨n, hn, rfl⟩, hv⟩
    exact ⟨_, List.getElem_mem hn, hv⟩
  · rintro ⟨v, hv, hs⟩
    obtain ⟨n, hn, rfl⟩ := List.getElem_of_mem hv
    exact ⟨_, ⟨n, hn, rfl⟩, hs⟩

/-! ### The close of the event in ACTIVE -/

/-- R167: the end of a held AWAIT changes the Link Port and the Attention Unit, but for its levels and its watch set. -/
theorem State.endAwait_rest (s : State) (fresh : MemberSet) :
    ∃ lp l w d, s.endAwait fresh = { s with
      lp := lp, au := { s.au with latch := l, woke := w, details := d } } := by
  unfold State.endAwait
  split
  · exact ⟨_, _, _, _, rfl⟩
  · split
    · exact ⟨_, _, _, _, rfl⟩
    · exact ⟨_, _, _, _, rfl⟩

theorem State.endAwait_none {s : State} (h : s.lp.await = none) (fresh : MemberSet) : s.endAwait fresh = s := by
  unfold State.endAwait
  rw [h]

/-- R154: in ACTIVE nothing is woken. -/
theorem State.attend_active (s0 : State) {x : State} (h : x.sb.power = .active) :
    State.attend s0 x = x.report.endAwait (x.report.au.latch &&& ~~~ s0.au.latch) := by
  unfold State.attend State.wakeBy
  simp only [State.report_sb, h]
  rfl

/-- R158: a report leaves the events as they are. -/
theorem State.report_same {α : Type} (s : State) {m : Member} {detail : Details → α} (hm : m.isCondition = false)
    (hd : ∀ d a b, detail { d with slotDamaged := a, firedWaiting := b } = detail d) : SameMember m detail s s.report :=
  ⟨s.report_isIn hm, by rw [State.report_details]; exact hd _ _ _⟩

theorem State.report_watch (s : State) : s.report.au.watch = s.au.watch := by
  unfold State.report
  split <;> rfl

theorem State.report_level_active {s : State} (h : s.sb.power = .active) : s.report.au.level = s.ownerLevels := by
  unfold State.report
  rw [h]
  rfl

/-- What an event in ACTIVE, from `s0` to `x`, comes to at its close: `y` is `x` with its conditions reported and a
held AWAIT ended. -/
structure ActiveClose (x y : State) : Prop where
  rest : ∃ lp au, y = { x with lp := lp, au := au }
  level : y.au.level = x.ownerLevels
  watch : y.au.watch = x.au.watch
  noAwait : x.lp.await = none → y = x.report

theorem State.conclude_active (s0 : State) {x : State} (h : x.sb.power = .active) :
    ∃ y, State.conclude s0 x = y.serviceStore.refresh ∧ ActiveClose x y := by
  refine ⟨State.attend s0 x, rfl, ?_⟩
  rw [State.attend_active s0 h]
  obtain ⟨lp, l, w, d, hy⟩ := x.report.endAwait_rest (x.report.au.latch &&& ~~~ s0.au.latch)
  refine ⟨?_, ?_, ?_, fun hn => State.endAwait_none (by rw [State.report_lp]; exact hn) _⟩
  · rw [hy, State.report_eq]
    exact ⟨_, _, rfl⟩
  · rw [hy]
    exact State.report_level_active h
  · rw [hy]
    exact x.report_watch

end Sys2Proof.Machine
end

section
/-! SUPPORT. What a mix block makes of each voice, of the DAC codes and of the voices that end (R4, R8, R20, R26, R29). -/

namespace Sys2Proof.Machine

open Sys2Proof.Safety

/-! ### One voice over a whole block -/

theorem atBoundary_eq (v : Voice) :
    atBoundary v = if v.state = .releasing ∧ slewed v = 0 then endedUse { v with gain := slewed v }
      else { v with
        gain := slewed v
        state := if v.state = .priming ∧ (v.threshold ≤ v.ring.length ∨ v.priming = 31) then .playing else v.state
        priming := if v.state = .priming ∧ v.ring.length < v.threshold then v.priming + 1 else v.priming } := by
  rw [Voice.threshold_eq]
  rfl

/-- R8, R20: what the boundary updates leave of a voice. -/
theorem atBoundary_rest (v : Voice) :
    (atBoundary v).gain = slewed v ∧ (atBoundary v).generation = v.generation
      ∧ (atBoundary v).target = v.target ∧ (atBoundary v).ramp = v.ramp := by
  rw [atBoundary_eq]
  split <;> exact ⟨rfl, rfl, rfl, rfl⟩

/-- R3, R29: what the close leaves of a voice. -/
theorem atClose_rest (f : Option Fetch) (n : Nat) (v : Voice) :
    (atClose f n v).gain = v.gain ∧ (atClose f n v).generation = v.generation
      ∧ (atClose f n v).target = v.target ∧ (atClose f n v).ramp = v.ramp ∧ (atClose f n v).starved = false := by
  unfold atClose
  split
  · exact ⟨rfl, rfl, rfl, rfl, rfl⟩
  · split <;> exact ⟨rfl, rfl, rfl, rfl, rfl⟩

/-- R8, R20: the boundary updates pass over an IDLE voice and a PAUSED one. -/
theorem atBoundary_of_still {v : Voice} (h : v.state = .idle ∨ v.state = .paused) : atBoundary v = v := by
  have hgain : slewed v = v.gain := if_pos h
  have hstate : v.state ≠ .releasing ∧ v.state ≠ .priming := by
    rcases h with h | h <;> rw [h] <;> exact ⟨by decide, by decide⟩
  calc atBoundary v = { v with gain := slewed v } := by
        rw [atBoundary_eq]
        simp only [hstate.1, hstate.2, false_and, if_false]
    _ = v := by rw [hgain]

theorem atClose_of_idle (f : Option Fetch) (n : Nat) {v : Voice} (h : v.state = .idle) :
    atClose f n v = { v with starved := false } := if_pos h

/-- R21, R29: a PAUSED voice that is owed nothing only grows older. -/
theorem atClose_of_paused (f : Option Fetch) (n : Nat) {v : Voice} (h : v.state = .paused) (howed : v.owed = 0) :
    atClose f n v = { v with starved := false, age := min 65535 (v.age + 1) } := by
  have hclose : atClose f n v = { v with
      starved := false, owed := stillOwed f n v, age := min 65535 (v.age + 1)
      fetchAddr :=
        if v.owed ≠ 0 ∧ v.loopLength ≠ 0
            ∧ v.start + (v.loopStart + v.loopLength) * sampleBytes v ≤ v.fetchAddr + (v.owed - stillOwed f n v) then
          v.start + v.loopStart * sampleBytes v
            + (v.fetchAddr + (v.owed - stillOwed f n v) - (v.start + (v.loopStart + v.loopLength) * sampleBytes v))
              % (v.loopLength * sampleBytes v)
        else v.fetchAddr + (v.owed - stillOwed f n v) } := by
    unfold atClose
    rw [if_neg (by rw [h]; decide), if_neg (by rw [h]; simp)]
    rfl
  rw [hclose, stillOwed_zero f n howed, howed, if_neg (by simp)]
  simp

/-! ### The voices of a whole block -/

theorem State.samples_voices (s : State) : s.samples.voices = voicesAt (s.se.voices.map atBoundary) 64 := by
  rw [State.samples]
  exact gathered_voices _ _ 64

/-- A voice of the table, by its place. -/
theorem getD_mapIdx {voices : List Voice} {n : Nat} (hn : n < voices.length) (f : Nat → Voice → Voice) :
    (voices.mapIdx f).getD n {} = f n (voices.getD n {}) := by
  simp [hn]

theorem getD_map {voices : List Voice} {n : Nat} (hn : n < voices.length) (f : Voice → Voice) :
    (voices.map f).getD n {} = f (voices.getD n {}) := by
  simp [hn]

theorem State.length_closedVoices (s : State) : s.closedVoices.length = s.se.voices.length := by
  rw [State.closedVoices, List.length_mapIdx, State.samples_voices, length_voicesAt, List.length_map]

/-- R29: voice `n` at the close of a block. -/
theorem State.closedVoice (s : State) {n : Nat} (hn : n < s.se.voices.length) :
    s.closedVoices.getD n {}
      = atClose s.sp.fetch n ((voicesAt (s.se.voices.map atBoundary) 64).getD n {}) := by
  rw [State.closedVoices, State.samples_voices, getD_mapIdx (by simpa using hn)]

/-- R21, R27: voice `n` after the samples of a block, by its own record. -/
theorem State.advancedVoice (s : State) {n : Nat} (hn : n < s.se.voices.length) :
    Advanced (atBoundary (s.voice n)) ((voicesAt (s.se.voices.map atBoundary) 64).getD n {}) := by
  have h := voicesAt_advanced (s.se.voices.map atBoundary) 64 n
  rw [getD_map hn] at h
  exact h

/-- R20, R27, R29: what a block leaves of a voice, and what it makes of a PAUSED one and of an IDLE one. -/
theorem State.closedVoice_rest (s : State) {n : Nat} (hn : n < s.se.voices.length) :
    let v := s.voice n
    let w := s.closedVoices.getD n {}
    w.generation = v.generation ∧ w.starved = false ∧ w.target = v.target ∧ w.ramp = v.ramp ∧ w.gain = slewed v
      ∧ (v.state = .paused → v.owed = 0 → w = { v with starved := false, age := min 65535 (v.age + 1) })
      ∧ (v.state = .idle → w = { v with starved := false }) := by
  intro v w
  have hadv := s.advancedVoice hn
  have hw : w = atClose s.sp.fetch n ((voicesAt (s.se.voices.map atBoundary) 64).getD n {}) := s.closedVoice hn
  generalize (voicesAt (s.se.voices.map atBoundary) 64).getD n {} = x at hadv hw
  have hstill : v.state = .idle ∨ v.state = .paused → x = v := by
    intro h
    have hb : atBoundary v = v := atBoundary_of_still h
    rw [show s.voice n = v from rfl, hb] at hadv
    refine hadv.silent ?_
    rcases h with h | h <;> rw [h] <;> exact ⟨by decide, by decide⟩
  obtain ⟨hgain, hgen, htarget, hramp⟩ := atBoundary_rest v
  obtain ⟨hgain', hgen', htarget', hramp', hstarved⟩ := atClose_rest s.sp.fetch n x
  obtain ⟨_, _, _, _, _, hx⟩ := hadv.rest
  rw [hw]
  refine ⟨?_, hstarved, ?_, ?_, ?_, fun h ho => ?_, fun h => ?_⟩
  · rw [hgen', hx]; exact hgen
  · rw [htarget', hx]; exact htarget
  · rw [hramp', hx]; exact hramp
  · rw [hgain', hx]; exact hgain
  · rw [hstill (.inr h)]; exact atClose_of_paused _ _ h ho
  · rw [hstill (.inl h)]; exact atClose_of_idle _ _ h

/-! ### The voices that a block ends -/

theorem getLsbD_voiceMask (voices : List Voice) (p : Voice → Bool) {n : Nat} (hn : n < 8) :
    (voiceMask voices p).getLsbD n = p (voices.getD n {}) := by
  rw [voiceMask, getLsbD_maskOf]
  simp [hn]

/-- R4: a voice ends in a block that it began busy and that it does not end busy. -/
theorem State.blockEnds_bit (s : State) {n : Nat} (hn : n < 8) :
    s.blockEnds.getLsbD n = decide ((s.voice n).state ≠ .idle ∧ (s.closedVoices.getD n {}).state = .idle) := by
  rw [State.blockEnds, endedMask, BitVec.getLsbD_and, BitVec.getLsbD_not, getLsbD_voiceMask _ _ hn,
    getLsbD_voiceMask _ _ hn, Voice.busy_eq, Voice.busy_eq]
  simp [hn, State.voice]

/-! ### The codes of a block -/

/-- R25, R26: a DAC code is one of 12 bits. -/
theorem dacOf_saturate_le (x : Int) : dacOf (saturate x) ≤ 4095 := by
  unfold dacOf saturate
  omega

/-- R25, R26: with the effective master gain at 0 every sample is 0. -/
theorem dacOf_of_muted (voices : List Voice) (k : Nat) : dacOf (saturate (mixedAt voices 0 k)) = 2048 := by
  have hzero : mixedAt voices 0 k = 0 := by
    unfold mixedAt
    rw [Int.natCast_zero, Int.mul_zero]
    rfl
  rw [hzero]
  rfl

theorem State.samples_codes (s : State) : s.samples.codes = (List.range 64).map fun k =>
    dacOf (saturate (mixedAt (s.se.voices.map atBoundary) s.se.effMaster k)) := by
  rw [State.samples]
  exact gathered_codes _ _ 64

theorem State.samples_clipped (s : State) : s.samples.clipped = (List.range 64).any fun k =>
    saturate (mixedAt (s.se.voices.map atBoundary) s.se.effMaster k)
      != mixedAt (s.se.voices.map atBoundary) s.se.effMaster k := by
  rw [State.samples]
  refine (gathered_clipped _ _ 64).trans ?_
  congr 1
  funext k
  exact bne_comm

/-- R28: the pairs that MARKER is raised with. -/
theorem State.samples_pairs (s : State) (h : s.se.voices.length = 8) {i : Nat} (hi : i < 16) :
    s.samples.pairs.getLsbD i = (List.range 64).any fun k =>
      (crossesMarkers ((voicesAt (s.se.voices.map atBoundary) k).getD (i / 2) {})).any fun x =>
        x.1 == i % 2 && x.2.report := by
  rw [State.samples]
  refine (gathered_pairs _ _ 64 i).trans ?_
  congr 1
  funext k
  rw [Bool.eq_iff_iff, decide_eq_true_eq, mem_reportedPairs (by simpa using h) i]
  simp only [hi, true_and]

end Sys2Proof.Machine
end

section
/-! SUPPORT. A mix block boundary in ACTIVE, from the state before it to the state after it (R19), and O22. -/

namespace Sys2Proof.Machine

open Sys2Proof.Safety

/-- A mix block boundary in ACTIVE: from `s`, with `e` the state when its time has come, to `t`. -/
structure BoundaryTo (s e t : State) : Prop where
  elapsed : e = s.elapse (s.se.nextBoundary - s.now)
  closing : ∃ y : State, t = y.serviceStore.refresh ∧ ActiveClose e.render y

theorem exec_mixBlockBoundary_eq (s : State) : exec .mixBlockBoundary s = .next s.boundary := rfl

/-- R19: a mix block boundary in ACTIVE. -/
theorem exec_mixBlockBoundary {s : State} (hp : s.sb.power = .active) :
    ∃ e t, exec .mixBlockBoundary s = .next t ∧ BoundaryTo s e t := by
  have hpower : (s.elapse (s.se.nextBoundary - s.now)).render.sb.power = .active := by
    obtain ⟨_, _, _, _, _, _, _, hx⟩ := (s.elapse (s.se.nextBoundary - s.now)).render_rest
    obtain ⟨_, _, _, _, _, _, he⟩ := s.elapse_rest (s.se.nextBoundary - s.now)
    rw [hx, he]
    exact hp
  obtain ⟨y, hy, hclose⟩ := State.conclude_active s hpower
  have hboundary : s.boundary = y.serviceStore.refresh := by rw [State.boundary, if_pos hp, State.elapseTo, hy]
  exact ⟨_, y.serviceStore.refresh, by rw [exec_mixBlockBoundary_eq, hboundary], rfl, y, rfl, hclose⟩

namespace BoundaryTo

variable {s e t : State} (h : BoundaryTo s e t)
include h

theorem engineBefore : e.se = s.se := by
  obtain ⟨_, _, _, _, _, _, he⟩ := s.elapse_rest (s.se.nextBoundary - s.now)
  rw [h.elapsed, he]

theorem rumbleBefore : e.ru = s.ru := by
  obtain ⟨_, _, _, _, _, _, he⟩ := s.elapse_rest (s.se.nextBoundary - s.now)
  rw [h.elapsed, he]

theorem portBefore : e.sp = s.sp := by
  obtain ⟨_, _, _, _, _, _, he⟩ := s.elapse_rest (s.se.nextBoundary - s.now)
  rw [h.elapsed, he]

theorem flagsBefore : e.au = s.au := by
  obtain ⟨_, _, _, _, _, _, he⟩ := s.elapse_rest (s.se.nextBoundary - s.now)
  rw [h.elapsed, he]

theorem linkBefore : e.lp = s.lp := by
  obtain ⟨_, _, _, _, _, _, he⟩ := s.elapse_rest (s.se.nextBoundary - s.now)
  rw [h.elapsed, he]

theorem voiceBefore (n : Nat) : e.voice n = s.voice n := by rw [State.voice, h.engineBefore]; rfl

theorem nowBefore : e.now = s.now + (s.se.nextBoundary - s.now) := by rw [h.elapsed]; rfl

/-- The engine after the close is the one that the block leaves, but for the request flags and the recomputed values. -/
theorem played : ∃ y : State, t = y.serviceStore.refresh ∧ y.se = e.playedEngine ∧ y.now = e.now := by
  obtain ⟨y, ht, hclose⟩ := h.closing
  obtain ⟨_, _, hy⟩ := hclose.rest
  obtain ⟨_, _, _, _, _, _, _, hx⟩ := e.render_rest
  refine ⟨y, ht, ?_, ?_⟩ <;> rw [hy, hx]

theorem voice (n : Nat) : SameUse (t.voice n) (e.closedVoices.getD n {}) := by
  obtain ⟨y, rfl, hse, -⟩ := h.played
  have hv : y.voice n = e.closedVoices.getD n {} := by
    unfold State.voice
    rw [hse]
    rw [State.playedEngine, SoundEngine.closeIdle_voices]
  exact sameUse_of_eq ((State.closes y).voice n) hv

theorem state (n : Nat) : (t.voice n).state = (e.closedVoices.getD n {}).state := by
  have hv : { t.voice n with request := (e.closedVoices.getD n {}).request } = e.closedVoices.getD n {} := h.voice n
  rw [← hv]

/-- R17, R19, R26: the engine's own fields after the boundary. -/
theorem engine :
    t.se.block = e.samples.codes ∧ t.se.blockStart = e.now
      ∧ t.se.nextBoundary = s.se.nextBoundary + Config.mixBlock ∧ t.se.master = s.se.master ∧ t.se.hold = s.se.hold
      ∧ t.now = e.now := by
  obtain ⟨y, rfl, hse, hnow⟩ := h.played
  have hc := State.closes y
  obtain ⟨hmaster, hhold, -, -, hblock, hstart, hnext⟩ := hc.engine
  rw [hmaster, hhold, hblock, hstart, hnext, hc.now, hse, hnow, ← h.engineBefore, State.playedEngine]
  exact ⟨SoundEngine.closeIdle_block _, SoundEngine.closeIdle_blockStart _, SoundEngine.closeIdle_nextBoundary _,
    SoundEngine.closeIdle_master _, SoundEngine.closeIdle_hold _, rfl⟩

/-- R33: as many voices are busy after the boundary as at the close of its block. -/
theorem busy : (∃ v ∈ t.se.voices, v.state ≠ .idle) ↔ ∃ v ∈ e.closedVoices, v.state ≠ .idle := by
  obtain ⟨y, rfl, hse, -⟩ := h.played
  refine y.serviceStore_busy.trans ?_
  rw [hse, State.playedEngine, SoundEngine.closeIdle_voices]

/-- R17: the idle count and the amplifier after the boundary. -/
theorem idle :
    if ∃ v ∈ t.se.voices, v.state ≠ .idle then t.se.idleBlocks = 0 ∧ t.se.amp = s.se.amp
    else t.se.idleBlocks = min 512 (s.se.idleBlocks + 1)
      ∧ t.se.amp = (s.se.amp && (s.se.hold || decide (t.se.idleBlocks < 512))) := by
  have hbusy := h.busy
  obtain ⟨y, rfl, hse, -⟩ := h.played
  obtain ⟨-, -, hamp, hcount, -, -, -⟩ := (State.closes y).engine
  rw [hamp, hcount, hse, ← h.engineBefore, State.playedEngine]
  by_cases hb : ∃ v ∈ e.closedVoices, v.state ≠ .idle
  · rw [if_pos (hbusy.mpr hb)]
    exact SoundEngine.closeIdle_of_busy _ hb
  · rw [if_neg fun hv => hb (hbusy.mp hv)]
    exact SoundEngine.closeIdle_of_idle _ hb

/-- What the boundary leaves of the rest of the part. -/
theorem rest : t.sc = e.sc ∧ t.dr = e.dr ∧ t.keep = e.keep ∧ t.face = e.face ∧ t.sb.supply = s.sb.supply
    ∧ t.ru.phase = (s.ru.phase + 1) % 4 ∧ t.au.watch = s.au.watch := by
  obtain ⟨y, rfl, hclose⟩ := h.closing
  have hc := State.closes y
  obtain ⟨hkeep, hface, -, hdr⟩ := hc.keep
  obtain ⟨lp, au, hy⟩ := hclose.rest
  obtain ⟨ls, ca, cs, ll, ld, l, d, hx⟩ := e.render_rest
  have hwatch : y.serviceStore.refresh.au.watch = s.au.watch := by
    calc y.serviceStore.refresh.au.watch = y.au.watch := by rw [← hc.attention]
      _ = e.render.au.watch := hclose.watch
      _ = e.au.watch := by rw [hx]
      _ = s.au.watch := by rw [h.flagsBefore]
  have hphase : y.serviceStore.refresh.ru.phase = (s.ru.phase + 1) % 4 := by
    calc y.serviceStore.refresh.ru.phase = y.ru.phase := by rw [← hc.rumble]
      _ = e.ru.takePhase.phase := by rw [hy, hx]
      _ = (s.ru.phase + 1) % 4 := by rw [← h.rumbleBefore]; rfl
  have hsupply : y.serviceStore.refresh.sb.supply = e.sb.supply := by
    calc y.serviceStore.refresh.sb.supply = y.sb.supply := by rw [← hc.supply]
      _ = e.sb.supply := by rw [hy, hx]
  refine ⟨?_, ?_, ?_, ?_, hsupply.trans ?_, hphase, hwatch⟩
  · rw [hc.sc, hy, hx]
  · rw [hdr, hy, hx]
  · rw [hkeep, hy, hx]
  · rw [hface, hy, hx]
  · obtain ⟨_, _, _, _, _, _, he⟩ := s.elapse_rest (s.se.nextBoundary - s.now)
    rw [h.elapsed, he]

/-- R159: the levels after the boundary are the owners' at its time. -/
theorem level : t.au.level = e.ownerLevels := by
  obtain ⟨y, rfl, hclose⟩ := h.closing
  obtain ⟨ls, ca, cs, ll, ld, l, d, hx⟩ := e.render_rest
  calc y.serviceStore.refresh.au.level = y.au.level := by rw [← (State.closes y).attention]
    _ = e.render.ownerLevels := hclose.level
    _ = e.ownerLevels := by rw [hx]; exact State.ownerLevels_congr rfl rfl rfl rfl rfl rfl

/-- R167: with no AWAIT held the close of the event leaves the events that the render raised. -/
theorem sameMember (ha : s.lp.await = none) {α : Type} {m : Member} {detail : Details → α} (hm : m.isCondition = false)
    (hd : ∀ d a b, detail { d with slotDamaged := a, firedWaiting := b } = detail d) :
    SameMember m detail e.render t := by
  obtain ⟨y, rfl, hclose⟩ := h.closing
  have hawait : e.render.lp.await = none := by
    obtain ⟨_, _, _, _, _, _, _, hx⟩ := e.render_rest
    calc e.render.lp.await = e.lp.await := by rw [hx]
      _ = none := by rw [h.linkBefore, ha]
  have hclosed := (State.closes y).sameMember m detail
  rw [hclose.noAwait hawait] at hclosed ⊢
  exact (State.report_same e.render hm hd).trans hclosed

/-- R158: what the render raises is raised by the boundary. -/
theorem raises (ha : s.lp.await = none) {k w : Nat} {m : Member} {detail : Details → BitVec k} {items : Nat → Bool}
    (hm : m.isCondition = false)
    (hd : ∀ d a b, detail { d with slotDamaged := a, firedWaiting := b } = detail d)
    (hr : RaisesSet m detail w items e e.render) : RaisesSet m detail w items s t :=
  raisesSet_then_same (SameMember.then_raises (.of_au h.flagsBefore) hr) (h.sameMember ha hm hd)

/-- R4, R28: the voices that the boundary ends. -/
theorem ended (n : Nat) (hn : n < 8) :
    e.blockEnds.getLsbD n = decide ((s.voice n).state ≠ .idle ∧ (t.voice n).state = .idle) := by
  rw [State.blockEnds_bit e hn, h.state, h.voiceBefore]

section Events

variable (ha : s.lp.await = none)
include ha

theorem marker : RaisesSet .marker (·.marker) 16 e.samples.pairs.getLsbD s t :=
  h.raises ha rfl (fun _ _ _ => rfl) (render_marker e)

theorem starved : RaisesSet .voiceStarved (·.voiceStarved) 8 (voiceMask e.samples.voices (·.starved)).getLsbD s t :=
  h.raises ha rfl (fun _ _ _ => rfl) (render_starved e)

theorem voiceEnd : RaisesSet .voiceEnd (·.voiceEnd) 8
    (fun n => decide ((s.voice n).state ≠ .idle ∧ (t.voice n).state = .idle)) s t :=
  raisesSet_congr (h.raises ha rfl (fun _ _ _ => rfl) (render_voiceEnd e)) h.ended

end Events

end BoundaryTo

end Sys2Proof.Machine
end

section
/-! O22. -/

namespace Sys2Proof.Proofs

open Sys2Proof.Safety Sys2Proof.Machine

/-- Settles O22: the boundary's stages are taken one after another, each said in the rules' own terms: the samples by
what the block has gathered, each voice by its own record, the events by the order of their raisings. -/
theorem mixBlockRenders : Obligations.MixBlockRenders := by
  unfold Obligations.MixBlockRenders
  intro s hp hq h8 before last out held
  obtain ⟨e, t, ht, h⟩ := exec_mixBlockBoundary hp
  have he : e = { s with
      cu := s.cu.count s.now (s.se.nextBoundary - s.now), now := s.now + (s.se.nextBoundary - s.now) } := by
    rw [h.elapsed, State.elapse_quiet s _ hq.1 hq.2]
  have hbefore : e.se.voices.map atBoundary = before := by rw [h.engineBefore]
  have hmaster : e.se.effMaster = s.se.effMaster := by rw [h.engineBefore]
  have hlen : e.se.voices.length = 8 := by rw [h.engineBefore]; exact h8
  have hlast : e.samples.voices = last := by rw [State.samples_voices, hbefore]
  have hclosed : ∀ n < 8, e.closedVoices.getD n {} = atClose s.sp.fetch n (last.getD n {}) := fun n hn => by
    rw [State.closedVoice e (by omega), hbefore, h.portBefore]
  clear_value last
  obtain ⟨hblock, hstart, hnext, hm, hhold, hnow⟩ := h.engine
  obtain ⟨hsc, hdr, hkeep, hface, hsupply, hphase, hwatch⟩ := h.rest
  have hcodes : t.se.block = (List.range 64).map fun k => dacOf (saturate (out k)) := by
    rw [hblock, State.samples_codes, hbefore, hmaster]
  refine ⟨t, ht, hnow.trans h.nowBefore, hnext, hstart.trans hnow.symm, by simp [hcodes], ?_, ?_, hcodes, hphase,
    fun n hn => ?_, fun n hn => ?_, h.idle, fun ha => ⟨?_, ?_, ?_, ?_⟩, ?_, ?_, ?_, ?_, hsupply, hm, hhold, hwatch, ?_⟩
  · rw [hcodes]
    intro c hc
    obtain ⟨k, -, rfl⟩ := List.mem_map.mp hc
    exact dacOf_saturate_le _
  · intro hmute
    have hall : ∀ k, dacOf (saturate (out k)) = 2048 := fun k => by
      show dacOf (saturate (mixedAt before s.se.effMaster k)) = 2048
      rw [hmute, dacOf_of_muted]
    simp only [hcodes, hall, List.map_const', List.length_range]
  · exact sameUse_of_eq (h.voice n) (hclosed n hn)
  · have hv := h.voice n
    have huse : { t.voice n with request := (e.closedVoices.getD n {}).request } = e.closedVoices.getD n {} := hv
    have hrest := e.closedVoice_rest (n := n) (by omega)
    rw [h.voiceBefore] at hrest
    obtain ⟨hgen, hstarved, htarget, hramp, hgain, hpaused, hidle⟩ := hrest
    refine ⟨?_, ?_, ?_, ?_, ?_, fun hs ho => sameUse_of_eq hv (hpaused hs ho), fun hs => sameUse_of_eq hv (hidle hs)⟩
    · exact (congrArg Voice.generation huse).trans hgen
    · exact (congrArg Voice.starved huse).trans hstarved
    · exact (congrArg Voice.target huse).trans htarget
    · exact (congrArg Voice.ramp huse).trans hramp
    · exact (congrArg Voice.gain huse).trans hgain
  · exact raisesSet_congr (h.marker ha) fun i hi => by rw [State.samples_pairs e hlen hi, hbefore]
  · exact raisesSet_congr (h.starved ha) fun n hn => by rw [getLsbD_voiceMask _ _ hn, hlast]
  · exact h.voiceEnd ha
  · have hclip := render_clip e
    have hsame : SameMember .clip (·.clip) e.render t := h.sameMember ha rfl fun _ _ _ => rfl
    rw [State.samples_clipped, hbefore, hmaster, ← hsame.latch, ← hsame.detail, h.flagsBefore] at hclip
    exact hclip
  · rw [hsc, he]
  · rw [hdr, he]
  · rw [hkeep, he]
  · rw [hface, he]
  · rw [h.level, State.report_level_active hp, he]
    exact State.ownerLevels_congr rfl rfl (ClockUnit.count_valid _ _ _) rfl rfl rfl

end Sys2Proof.Proofs
end

section
/-! O23. -/

namespace Sys2Proof.Machine

open Sys2Proof.Safety

theorem exec_primingLimit_eq (n : Nat) (s : State) :
    exec (.primingLimit n) s = .next (if s.primingDue n then s.boundary else s) := rfl

theorem exec_amplifierIdleOff_eq (s : State) :
    exec .amplifierIdleOff s = .next (if s.se.amp && !s.boundary.se.amp then s.boundary else s) := rfl

/-- R1: a busy voice is one of the table. -/
theorem State.voice_lt_of_busy {s : State} {n : Nat} (h : (s.voice n).state ≠ .idle) : n < s.se.voices.length := by
  by_contra hn
  apply h
  simp [State.voice, List.getElem?_eq_none (Nat.le_of_not_lt hn)]

/-- R8: a voice at the priming limit. -/
theorem State.primingDue_iff (s : State) (n : Nat) : s.primingDue n = true ↔ s.sb.power = .active
    ∧ (s.voice n).state = .priming ∧ (s.voice n).ring.length < (s.voice n).threshold ∧ (s.voice n).priming = 31 := by
  unfold State.primingDue
  simp only [Bool.and_eq_true, beq_iff_eq, decide_eq_true_eq, and_assoc]

/-- R8: a voice at the priming limit is PLAYING after the boundary updates, its count 32. -/
theorem atBoundary_of_limit {v : Voice} (h : v.state = .priming) (hr : v.ring.length < v.threshold)
    (hp : v.priming = 31) : (atBoundary v).state = .playing ∧ (atBoundary v).priming = 32 := by
  rw [atBoundary_eq, if_neg (by rw [h]; simp), if_pos ⟨h, .inr hp⟩, if_pos ⟨h, hr⟩, hp]
  exact ⟨rfl, rfl⟩

/-- R29: a PLAYING voice at the close still plays or has ended. -/
theorem atClose_of_playing (f : Option Fetch) (n : Nat) {v : Voice} (h : v.state = .playing) :
    (atClose f n v).state = .playing ∧ (atClose f n v).priming = v.priming ∨ (atClose f n v).state = .idle := by
  unfold atClose
  rw [if_neg (by rw [h]; decide)]
  split
  · exact .inr rfl
  · exact .inl ⟨h, rfl⟩

/-- R8, R29: a voice at the priming limit, at the close of the block. -/
theorem State.closedVoice_of_limit {s : State} {n : Nat} (h : s.primingDue n = true) :
    (s.closedVoices.getD n {}).state = .playing ∧ (s.closedVoices.getD n {}).priming = 32
      ∨ (s.closedVoices.getD n {}).state = .idle := by
  obtain ⟨-, hstate, hring, hcount⟩ := (s.primingDue_iff n).mp h
  have hn : n < s.se.voices.length := State.voice_lt_of_busy (by rw [hstate]; decide)
  obtain ⟨hplays, hlimit⟩ := atBoundary_of_limit hstate hring hcount
  have hadv := s.advancedVoice hn
  rw [s.closedVoice hn]
  generalize (voicesAt (s.se.voices.map atBoundary) 64).getD n {} = x at hadv
  have hx : x.priming = 32 := by
    obtain ⟨_, _, _, _, _, rfl⟩ := hadv.rest
    exact hlimit
  rw [← hx]
  exact atClose_of_playing _ _ (hadv.state.trans hplays)

/-- R26, R139: between events the DAC code and the audio share follow from the amplifier. -/
theorem BoundaryTo.recomputed {s e t : State} (h : BoundaryTo s e t) :
    t.se.dac = dacCode t.se.amp t.se.block t.se.blockStart t.now ∧ t.sb.u = audioShare t.se.amp := by
  obtain ⟨y, rfl, -⟩ := h.closing
  exact ⟨rfl, rfl⟩

/-- R17: voices that are all IDLE stay so over a block. -/
theorem State.closedVoices_idle {s : State} (h : ∀ v ∈ s.se.voices, v.state = .idle) :
    ∀ v ∈ s.closedVoices, v.state = .idle := by
  intro v hv
  obtain ⟨n, hn, rfl⟩ := List.getElem_of_mem hv
  rw [State.length_closedVoices] at hn
  have hidle : (s.voice n).state = .idle := by
    simp only [State.voice, List.getD_eq_getElem?_getD, List.getElem?_eq_getElem hn, Option.getD_some]
    exact h _ (List.getElem_mem hn)
  obtain ⟨-, -, -, -, -, -, hstill⟩ := s.closedVoice_rest hn
  have hclosed := congrArg Voice.state (hstill hidle)
  rw [hidle] at hclosed
  simpa [State.length_closedVoices, hn] using hclosed

end Sys2Proof.Machine

namespace Sys2Proof.Proofs

open Sys2Proof.Safety Sys2Proof.Machine

/-- O23, R8: the boundary at which a voice reaches the priming limit. -/
theorem primingLimit_starts {n : Nat} {s : State} (hn : n < 8) (ha : s.lp.await = none) (hdue : s.primingDue n = true) :
    exec (.primingLimit n) s = exec .mixBlockBoundary s
      ∧ ∃ t, exec (.primingLimit n) s = .next t
        ∧ ((t.voice n).state = .playing ∧ (t.voice n).priming = 32
          ∨ (t.voice n).state = .idle ∧ Member.voiceEnd.isIn t.au.latch = true
            ∧ t.au.details.voiceEnd.getLsbD n = true) := by
  obtain ⟨hp, hstate, -, -⟩ := (s.primingDue_iff n).mp hdue
  have hexec : exec (.primingLimit n) s = exec .mixBlockBoundary s := by
    rw [exec_primingLimit_eq, exec_mixBlockBoundary_eq, if_pos hdue]
  obtain ⟨e, t, ht, h⟩ := exec_mixBlockBoundary hp
  refine ⟨hexec, t, hexec.trans ht, ?_⟩
  have hpower : e.sb.power = .active := by
    obtain ⟨_, _, _, _, _, _, he⟩ := s.elapse_rest (s.se.nextBoundary - s.now)
    rw [h.elapsed, he, hp]
  have hdue' : e.primingDue n = true := by
    rw [State.primingDue_iff] at hdue ⊢
    rw [h.voiceBefore]
    exact ⟨hpower, hdue.2⟩
  have huse : { t.voice n with request := (e.closedVoices.getD n {}).request } = e.closedVoices.getD n {} := h.voice n
  rcases State.closedVoice_of_limit hdue' with ⟨hplays, hcount⟩ | hidle
  · exact .inl ⟨(h.state n).trans hplays, (congrArg Voice.priming huse).trans hcount⟩
  · have hend : (t.voice n).state = .idle := (h.state n).trans hidle
    have hitem : decide ((s.voice n).state ≠ .idle ∧ (t.voice n).state = .idle) = true := by simp [hstate, hend]
    have hraised := h.voiceEnd ha
    rw [RaisesSet, if_pos (List.any_eq_true.mpr ⟨n, List.mem_range.mpr hn, hitem⟩)] at hraised
    exact .inr ⟨hend, hraised.1, by rw [hraised.2 n hn, hitem, Bool.true_or]⟩

/-- O23, R17: the boundary that brings the idle count to 512. -/
theorem amplifierIdleOff_turns_off {s : State} (hp : s.sb.power = .active) (hamp : s.se.amp = true)
    (hhold : s.se.hold = false) (hcount : s.se.idleBlocks = 511) (hidle : ∀ v ∈ s.se.voices, v.state = .idle) :
    exec .amplifierIdleOff s = exec .mixBlockBoundary s
      ∧ ∃ t, exec .amplifierIdleOff s = .next t ∧ t.se.amp = false ∧ t.se.idleBlocks = 512 ∧ t.se.dac = 2048
        ∧ t.sb.u = 0 := by
  obtain ⟨e, t, ht, h⟩ := exec_mixBlockBoundary hp
  have hboundary : s.boundary = t := by
    rw [exec_mixBlockBoundary_eq] at ht
    injection ht
  have hquiet : ¬ ∃ v ∈ t.se.voices, v.state ≠ .idle := by
    rw [h.busy]
    rintro ⟨v, hv, hbusy⟩
    exact hbusy (State.closedVoices_idle (by rw [h.engineBefore]; exact hidle) v hv)
  have hclose := h.idle
  rw [if_neg hquiet, hcount, hamp, hhold] at hclose
  obtain ⟨hblocks, hoff⟩ := hclose
  rw [hblocks] at hoff
  obtain ⟨hdac, hshare⟩ := h.recomputed
  rw [hoff] at hdac hshare
  have hexec : exec .amplifierIdleOff s = exec .mixBlockBoundary s := by
    rw [exec_amplifierIdleOff_eq, exec_mixBlockBoundary_eq, hboundary, hamp, hoff]
    rfl
  exact ⟨hexec, t, hexec.trans ht, hoff, hblocks, hdac, hshare⟩

/-- O23, R17: with the hold flag set a boundary leaves the amplifier as it is. -/
theorem boundary_amp_of_hold {s : State} (hhold : s.se.hold = true) : s.boundary.se.amp = s.se.amp := by
  by_cases hp : s.sb.power = .active
  · obtain ⟨e, t, ht, h⟩ := exec_mixBlockBoundary hp
    rw [exec_mixBlockBoundary_eq] at ht
    injection ht with hboundary
    have hclose := h.idle
    rw [hboundary]
    split at hclose
    · exact hclose.2
    · rw [hclose.2, hhold, Bool.true_or, Bool.and_true]
  · rw [State.boundary, if_neg hp]

/-- Settles O23: each row is the whole boundary that brings its limit about, and the hold flag keeps the second away. -/
theorem boundaryLimits : Obligations.BoundaryLimits := by
  unfold Obligations.BoundaryLimits
  refine ⟨fun n s hn hp ha hstate hcount hring => ?_, fun s => amplifierIdleOff_turns_off, fun s hhold => ?_⟩
  · refine primingLimit_starts hn ha ((s.primingDue_iff n).mpr ⟨hp, hstate, ?_, hcount⟩)
    rw [Voice.threshold_eq]
    exact hring
  · rw [exec_amplifierIdleOff_eq, boundary_amp_of_hold hhold, Bool.and_not_self]
    rfl

end Sys2Proof.Proofs
end

section
/-! O46, part 1: CUE-ARM and CUE-DISARM (R130, R131). -/

namespace Sys2Proof.Machine

open Sys2Proof.Safety

/-- R176: a request that replaces the cue records alone leaves nothing else to be done at its close. -/
theorem request_withCues {s : State} {h : ReqHead} {k : Byte} {svc : Service} {c : Code} {p : List Byte}
    {cs : List Cue} (hl : Listening s)
    (hu : svc .active { s with lp := s.lp.idleParser }
      = (({ s with lp := s.lp.idleParser } : State).withCues cs, some ⟨c, p⟩)) :
    request h k svc s = .next (answered (s.withCues cs) k h c p) := by
  obtain ⟨hreported, hserved, hfresh⟩ := hl.1
  have hr : (({ s with lp := s.lp.idleParser } : State).withCues cs).report
      = ({ s with lp := s.lp.idleParser } : State).withCues cs :=
    State.report_of_reported hreported rfl rfl rfl rfl rfl rfl id rfl rfl rfl
  have hs : (answered (s.withCues cs) k h c p).serviceStore = answered (s.withCues cs) k h c p :=
    State.serviceStore_of_serviced hserved rfl rfl rfl rfl rfl
  have hf : (answered (s.withCues cs) k h c p).refresh = answered (s.withCues cs) k h c p :=
    congrArg (fun u : State => answered (u.withCues cs) k h c p) hfresh
  have hreply := request_replied (h := h) (k := k) hl hu rfl hr
  calc request h k svc s = .next (answered (s.withCues cs) k h c p).serviceStore.refresh := hreply
    _ = .next (answered (s.withCues cs) k h c p) := by rw [hs, hf]

theorem exec_cueArm_eq (h : ReqHead) (f : CueFields) (s : State) :
    exec (.cueArm h f) s = request h Kind.cueArm (serveCueArm f) s := rfl

theorem exec_cueDisarm_eq (h : ReqHead) (cue : Byte) (s : State) :
    exec (.cueDisarm h cue) s = request h Kind.cueDisarm (serveCueDisarm cue) s := rfl

theorem triggerBad_iff (voice marker : Byte) : triggerBad voice marker = true ↔ 7 < voice.toNat ∨ 1 < marker.toNat := by
  simp [triggerBad]

/-- R130 (1): a CUE-ARM out of range. -/
abbrev ArmOutOfRange (f : CueFields) : Prop :=
  3 < f.cue.toNat ∨ (7 < f.firstVoice.toNat ∨ 1 < f.firstMarker.toNat)
    ∨ (f.secondPresent ≠ 0 ∧ f.secondPresent ≠ 1)
    ∨ (f.secondPresent = 1 ∧ (7 < f.secondVoice.toNat ∨ 1 < f.secondMarker.toNat))
    ∨ 71 < f.pattern.toNat ∨ 2 < f.layer.toNat ∨ 15 < f.priority.toNat

/-- R130 (2): a CUE-ARM on a voice that is IDLE. -/
abbrev ArmIdle (s : State) (f : CueFields) : Prop :=
  (s.voice f.firstVoice.toNat).state = .idle
    ∨ (f.secondPresent = 1 ∧ (s.voice f.secondVoice.toNat).state = .idle)

/-- R130: the checks of a CUE-ARM, in their order. -/
theorem State.armRefused_eq (s : State) (f : CueFields) :
    s.armRefused f = if ArmOutOfRange f then some .range else if ArmIdle s f then some .state else none := by
  unfold State.armRefused ArmOutOfRange ArmIdle
  simp only [Bool.or_eq_true, Bool.and_eq_true, decide_eq_true_eq, triggerBad_iff, bne_iff_ne, beq_iff_eq,
    Voice.busy_eq, Bool.not_eq_true', decide_eq_false_iff_not, ne_eq, not_not, or_assoc]

/-- R131: the set of the armed cues among those named. -/
theorem State.armedCues_bit (s : State) (p : Nat → Bool) (n : Nat) :
    (s.armedCues p).getLsbD n = decide (n < 4 ∧ p n = true ∧ (s.cue n).state ≠ .unarmed) := by
  rw [State.armedCues, getLsbD_maskOf, decide_eq_decide]
  simp only [List.mem_filter, List.mem_range, Bool.and_eq_true, Cue.armed, bne_iff_ne]
  exact ⟨fun h => h.1, fun h => ⟨h, by omega⟩⟩

theorem namesCue_iff (cue : Byte) (n : Nat) : namesCue cue n = true ↔ cue = 0xFF ∨ cue.toNat = n := by
  simp [namesCue]

/-- R131: a cue after those named are disarmed. -/
theorem State.cue_disarmed {s : State} {n : Nat} (hn : n < s.ru.cues.length) (p : Nat → Bool) :
    (s.withCues (s.ru.cues.mapIdx fun n c => if p n then c.unarm else c)).cue n
      = if p n then (s.cue n).unarm else s.cue n := by
  simp [State.cue, hn]

end Sys2Proof.Machine

namespace Sys2Proof.Proofs

open Sys2Proof.Safety Sys2Proof.Machine

/-- O46, R130: CUE-ARM. -/
theorem cueArm_next {h : ReqHead} {f : CueFields} {s : State} (hl : Listening s) :
    exec (.cueArm h f) s = .next (
      if ArmOutOfRange f then answered s Kind.cueArm h .range []
      else if ArmIdle s f then answered s Kind.cueArm h .state []
      else answered (s.withCues (s.ru.cues.set f.cue.toNat (s.armedCue f))) Kind.cueArm h .ok
        (f.cue :: counted (s.armedCue f).generations (fun g => [g]) ++ [flagByte (s.cue f.cue.toNat).armed])) := by
  have hchecks : ({ s with lp := s.lp.idleParser } : State).armRefused f
      = if ArmOutOfRange f then some .range else if ArmIdle s f then some .state else none := s.armRefused_eq f
  rw [exec_cueArm_eq]
  by_cases hrange : ArmOutOfRange f
  · rw [if_pos hrange] at hchecks ⊢
    exact request_refused hl (by rw [serveCueArm, hchecks])
  · rw [if_neg hrange] at hchecks ⊢
    by_cases hidle : ArmIdle s f
    · rw [if_pos hidle] at hchecks ⊢
      exact request_refused hl (by rw [serveCueArm, hchecks])
    · rw [if_neg hidle] at hchecks ⊢
      exact request_withCues hl (by rw [serveCueArm, hchecks]; rfl)

/-- O46, R131: CUE-DISARM. -/
theorem cueDisarm_next {h : ReqHead} {cue : Byte} {s : State} (hl : Listening s) (hc : ¬ (3 < cue.toNat ∧ cue ≠ 0xFF)) :
    exec (.cueDisarm h cue) s = .next (answered
      (s.withCues (s.ru.cues.mapIdx fun n c => if namesCue cue n then c.unarm else c)) Kind.cueDisarm h .ok
      [s.armedCues (namesCue cue)]) := by
  rw [exec_cueDisarm_eq]
  exact request_withCues hl (by rw [serveCueDisarm, if_neg hc]; rfl)

/-- O46, R130: the bytes of a CUE-ARM's reply. -/
theorem cueArm_reply (s : State) (f : CueFields) :
    (f.cue :: counted (s.armedCue f).generations (fun g => [g]) ++ [flagByte (s.cue f.cue.toNat).armed])
      = f.cue :: BitVec.ofNat 8 (s.armedCue f).generations.length :: (s.armedCue f).generations
          ++ [if (s.cue f.cue.toNat).state = .unarmed then 0 else 1] := by
  have hflag : flagByte (s.cue f.cue.toNat).armed = if (s.cue f.cue.toNat).state = .unarmed then 0 else 1 := by
    unfold flagByte Cue.armed
    cases (s.cue f.cue.toNat).state <;> rfl
  rw [hflag, counted, List.flatMap_singleton']

end Sys2Proof.Proofs
end

section
/-! SUPPORT. The cues at a mix block boundary (R132 to R134): the report that is taken, the cues that fire and the cues
that lapse. -/

namespace Sys2Proof.Machine

open Sys2Proof.Safety

/-! ### Up to the crossing report -/

theorem State.raiseUnless_rest (s : State) (p : Prop) [Decidable p] (m : Member) (merge : Details → Details) :
    ∃ l d, (if p then s else s.raise m merge) = { s with au := { s.au with latch := l, details := d } } := by
  split <;> exact ⟨_, _, rfl⟩

/-- R28, R29: the block's own events change latches and details alone. -/
theorem State.blockEvents_rest (s : State) :
    ∃ l d, s.blockEvents = { s.played with au := { s.au with latch := l, details := d } } := by
  obtain ⟨_, _, h1⟩ := s.played.raiseUnless_rest (s.samples.pairs = 0) .marker
    fun d => { d with marker := d.marker ||| s.samples.pairs }
  have hmarker : ∃ l d, s.played.raiseMarker s.samples.pairs
      = { s.played with au := { s.au with latch := l, details := d } } := ⟨_, _, h1⟩
  obtain ⟨_, _, hm⟩ := hmarker
  have hstarved : ∃ l d, (s.played.raiseMarker s.samples.pairs).raiseStarved (voiceMask s.samples.voices (·.starved))
      = { s.played with au := { s.au with latch := l, details := d } } := by
    obtain ⟨_, _, h2⟩ := (s.played.raiseMarker s.samples.pairs).raiseUnless_rest
      (voiceMask s.samples.voices (·.starved) = 0) .voiceStarved
      fun d => { d with voiceStarved := d.voiceStarved ||| voiceMask s.samples.voices (·.starved) }
    rw [hm] at h2 ⊢
    exact ⟨_, _, h2⟩
  obtain ⟨_, _, hs⟩ := hstarved
  have hfound : ∃ l d, s.blockFound = { s.played with au := { s.au with latch := l, details := d } } := by
    rw [blockFound_after_starved s hs.symm]
    split <;> exact ⟨_, _, rfl⟩
  obtain ⟨_, _, hf⟩ := hfound
  obtain ⟨_, _, he⟩ := raiseVoiceEnd_eq s.blockFound s.blockEnds
  rw [State.blockEvents, he, hf]
  exact ⟨_, _, rfl⟩

theorem State.blockEvents_loader (s : State) : SameLoader s s.blockEvents := by
  obtain ⟨_, _, h⟩ := s.blockEvents_rest
  rw [h]
  exact ⟨rfl, rfl, rfl, rfl⟩

theorem State.blockEvents_cue (s : State) (j : Nat) : s.blockEvents.cue j = s.cue j := by
  obtain ⟨_, _, h⟩ := s.blockEvents_rest
  rw [h]
  rfl

/-- R28, R29: the block's own events leave the members that a cue can raise. -/
theorem blockEvents_same {α : Type} {m : Member} {detail : Details → α}
    (hm : m ∉ [Member.marker, .voiceStarved, .clip, .voiceEnd])
    (hd : ∀ d a b c e, detail { d with marker := a, voiceStarved := b, clip := c, voiceEnd := e } = detail d)
    (s : State) : SameMember m detail s s.blockEvents := by
  have hfound : m ∉ [Member.marker, .voiceStarved, .clip] := fun h => hm (by
    rcases List.mem_cons.mp h with h | h
    · simp [h]
    · rcases List.mem_cons.mp h with h | h
      · simp [h]
      · simp [List.mem_singleton.mp h])
  have hend : m ≠ .voiceEnd := fun h => hm (by simp [h])
  exact (blockFound_same hfound (fun d a b c => hd d a b c _) s).trans
    (raiseVoiceEnd_same s.blockFound _ hend fun d e => hd d _ _ _ e)

/-! ### The cues that fire -/

/-- R133: CUE_FIRED raised for one cue. -/
theorem raiseCueFired_raises (s : State) {n : Nat} (hn : n < 4) :
    RaisesSet .cueFired (·.cueFired) 4 (fun j => j == n) s (s.raiseCueFired n) := by
  refine raisesSet_raise s (fun d j hj => ?_) (fun d => rfl) ?_
  · have hj8 : j < 8 := by omega
    rw [BitVec.getLsbD_or, getLsbD_single, Bool.or_comm]
    simp [hj8, beq_eq_decide]
  · simp only [List.any_eq_true, List.mem_range, beq_iff_eq, exists_eq_right]
    exact hn

/-- A list without repetitions whose only member is `j`. -/
theorem eq_singleton_of_nodup {l : List Nat} {j : Nat} (hn : l.Nodup) (h : ∀ i, i ∈ l ↔ i = j) : l = [j] := by
  refine List.perm_singleton.mp ((List.perm_ext_iff_of_nodup hn (List.nodup_singleton j)).mpr fun i => ?_)
  rw [h, List.mem_singleton]

/-- R132: a report that fires no cue changes the cue records alone. -/
theorem State.takeReport_of_none {s : State} {report : List Crossing}
    (h : ∀ j < 4, (s.cue j).fires report = false) :
    s.takeReport report = s.withCues (s.takeReport report).ru.cues := by
  obtain ⟨fired, hmet, hmem⟩ := s.takeReport_met report
  have hfired : fired = [] := List.eq_nil_iff_forall_not_mem.mpr fun j hj => by
    obtain ⟨hj4, hf⟩ := (hmem j).mp hj
    rw [h j hj4] at hf
    exact Bool.false_ne_true hf
  rw [hfired] at hmet
  exact hmet.effects

/-- R133: a report that fires one cue makes its layer start alone. -/
theorem State.takeReport_of_one {s : State} {report : List Crossing} {j : Nat} (hj : j < 4)
    (h : (s.cue j).fires report = true) (hone : ∀ i < 4, i ≠ j → (s.cue i).fires report = false) :
    s.takeReport report = (s.fireEffect (s.cue j) j).withCues (s.takeReport report).ru.cues := by
  obtain ⟨fired, hmet, hmem⟩ := s.takeReport_met report
  have hfired : fired = [j] := eq_singleton_of_nodup hmet.nodup fun i => by
    rw [hmem]
    constructor
    · rintro ⟨hi, hf⟩
      by_contra hij
      rw [hone i hi hij] at hf
      exact Bool.false_ne_true hf
    · rintro rfl
      exact ⟨hj, h⟩
  rw [hfired] at hmet
  exact hmet.effects

/-! ### The cues that lapse -/

/-- R132, R134: cue `j` waits, armed, on a voice of a set, and has not fired in a report. -/
def State.lapsesAfter (s : State) (report : List Crossing) (ended : Nat → Bool) (j : Nat) : Bool :=
  !(s.cue j).fires report && s.lapsesOn ended j

/-- R132: after a report cue `j` is armed on a voice of a set if it was and has not fired. -/
theorem State.takeReport_lapsesOn (s : State) (report : List Crossing) (ended : Nat → Bool) {j : Nat} (hj : j < 4) :
    (s.takeReport report).lapsesOn ended j = s.lapsesAfter report ended j := by
  obtain ⟨_, hmet, -⟩ := s.takeReport_met report
  have hcue := hmet.cue j
  rw [if_pos hj] at hcue
  unfold State.lapsesAfter State.lapsesOn
  rw [hcue]
  cases (s.cue j).fires report with
  | true => simp [Cue.unarm]
  | false =>
    cases hb : (s.cue j).begins report with
    | false => simp
    | true =>
      obtain ⟨hwaits, -⟩ := (Bool.and_eq_true _ _).mp hb
      simp [of_decide_eq_true hwaits]

/-- R132, R134: cue `j` after the report is taken and the cues on the voices that ended have lapsed. -/
theorem State.render_cue (s : State) {j : Nat} (hj : j < 4) :
    s.render.cue j =
      if (s.cue j).fires s.samples.report = true ∨ s.lapsesAfter s.samples.report s.blockEnds.getLsbD j = true then
        (s.cue j).unarm
      else if (s.cue j).begins s.samples.report then { s.cue j with state := .waitSecond } else s.cue j := by
  obtain ⟨_, hmet, -⟩ := s.blockEvents.takeReport_met s.samples.report
  have hcue := hmet.cue j
  have hlapses := (State.lapseCues_lapses (s.blockEvents.takeReport s.samples.report) s.blockEnds).cue j
  have hmem : j ∈ [0, 1, 2, 3] := by simp; omega
  have hsame : s.blockEvents.lapsesAfter s.samples.report s.blockEnds.getLsbD j
      = s.lapsesAfter s.samples.report s.blockEnds.getLsbD j := by
    unfold State.lapsesAfter
    rw [State.lapsesOn_of_cue (s.blockEvents_cue j), s.blockEvents_cue]
  rw [if_pos hj, s.blockEvents_cue] at hcue
  rw [State.takeReport_lapsesOn _ _ _ hj, hsame, hcue] at hlapses
  rw [State.render_eq, hlapses]
  cases hl : s.lapsesAfter s.samples.report s.blockEnds.getLsbD j with
  | true =>
    have hnot : (s.cue j).fires s.samples.report = false := by
      obtain ⟨h, -⟩ := (Bool.and_eq_true _ _).mp hl
      simpa using h
    rw [if_pos ⟨hmem, rfl⟩, hnot]
    cases (s.cue j).begins s.samples.report <;> rfl
  | false =>
    rw [if_neg (fun h => Bool.false_ne_true h.2)]
    cases (s.cue j).fires s.samples.report <;> simp

end Sys2Proof.Machine
end

section
/-! SUPPORT. What the cues raise at a mix block boundary (R133, R134), and the RUMBLE-PLAY that a cue's layer start is
compared with (R122, R133). -/

namespace Sys2Proof.Machine

open Sys2Proof.Safety

/-! ### What the lapses raise -/

/-- R132, R134: the cues that lapse at the close of a block. -/
def State.blockLapses (s : State) (j : Nat) : Bool := s.lapsesAfter s.samples.report s.blockEnds.getLsbD j

/-- The details of CUE_LAPSED. -/
abbrev lapseDetail (d : Details) : BitVec 8 × Option LapseCause := (d.cueLapsed, d.lapseCause)

theorem SameLoader.trans {s t u : State} (h : SameLoader s t) (h' : SameLoader t u) : SameLoader s u :=
  ⟨h'.layers.trans h.layers, h'.host.trans h.host, h'.cache.trans h.cache, h'.port.trans h.port⟩

theorem Lapses.loader {ended : Nat → Bool} {cues : List Nat} {s t : State} (h : Lapses ended cues s t) :
    SameLoader s t := by
  obtain ⟨_, _, _, _, rfl⟩ := h.rest
  exact ⟨rfl, rfl, rfl, rfl⟩

/-- R134: from the state after the crossing report the lapses raise CUE_LAPSED alone. -/
theorem State.render_lapses (s : State) {x : State} (hx : s.blockEvents.takeReport s.samples.report = x) :
    SameLoader x s.render ∧ SameMember .cueFired (·.cueFired) x s.render
      ∧ RaisesSet .cueLapsed (·.cueLapsed) 4 s.blockLapses x s.render
      ∧ s.render.au.details.lapseCause
        = if (List.range 4).any s.blockLapses then some .voice else x.au.details.lapseCause := by
  have h := State.lapseCues_lapses x s.blockEnds
  have hl : ∀ j < 4, x.lapsesOn s.blockEnds.getLsbD j = s.blockLapses j := by
    intro j hj
    rw [← hx, State.takeReport_lapsesOn _ _ _ hj]
    unfold State.blockLapses State.lapsesAfter
    rw [State.lapsesOn_of_cue (s.blockEvents_cue j), s.blockEvents_cue]
  have hmem : ∀ j < 4, j ∈ [0, 1, 2, 3] := by decide
  have hany : [0, 1, 2, 3].any (x.lapsesOn s.blockEnds.getLsbD) = (List.range 4).any s.blockLapses := by
    have hlt : ∀ j ∈ [0, 1, 2, 3], j < 4 := by decide
    rw [show List.range 4 = [0, 1, 2, 3] from rfl, Bool.eq_iff_iff, List.any_eq_true, List.any_eq_true]
    exact exists_congr fun j => and_congr_right fun hj => by rw [hl j (hlt j hj)]
  rw [State.render_eq, hx]
  refine ⟨h.loader, h.same (by decide) fun _ _ _ => rfl, ?_, by rw [h.cause, hany]⟩
  exact raisesSet_congr h.raised fun j hj => by rw [hl j hj, decide_eq_true (hmem j hj), Bool.true_and]

/-! ### What a cue that fires raises -/

theorem State.fireEffect_of_refused {s : State} {c : Cue} {r : Code}
    (h : s.startRefused c.layer c.pattern c.priority = some r) (n : Nat) :
    s.fireEffect c n = s.raiseCueLapsed n .blocked := by
  rw [State.fireEffect, h]

theorem State.fireEffect_of_accepted {s : State} {c : Cue} (h : s.startRefused c.layer c.pattern c.priority = none)
    (n : Nat) : s.fireEffect c n = (s.startLayer c.layer c.pattern c.priority c.scale).raiseCueFired n := by
  rw [State.fireEffect, h]

/-- R133: the members of cues up to the crossing report. -/
theorem State.blockEvents_cueMembers (s : State) :
    SameMember .cueFired (·.cueFired) s s.blockEvents ∧ SameMember .cueLapsed lapseDetail s s.blockEvents :=
  ⟨blockEvents_same (by decide) (fun _ _ _ _ _ => rfl) s, blockEvents_same (by decide) (fun _ _ _ _ _ => rfl) s⟩

/-- A detail of CUE_LAPSED that stands as a pair stands in its parts. -/
theorem SameMember.lapseSet {s t : State} (h : SameMember .cueLapsed lapseDetail s t) :
    SameMember .cueLapsed (·.cueLapsed) s t := ⟨h.latch, congrArg Prod.fst h.detail⟩

theorem SameMember.lapseCause {s t : State} (h : SameMember .cueLapsed lapseDetail s t) :
    t.au.details.lapseCause = s.au.details.lapseCause := congrArg Prod.snd h.detail

/-- R132, R134: a block in which no cue fires. -/
theorem State.render_of_none {s : State} (h : ∀ j < 4, (s.cue j).fires s.samples.report = false) :
    SameLoader s s.render ∧ SameMember .cueFired (·.cueFired) s s.render
      ∧ RaisesSet .cueLapsed (·.cueLapsed) 4 s.blockLapses s s.render
      ∧ s.render.au.details.lapseCause
        = if (List.range 4).any s.blockLapses then some .voice else s.au.details.lapseCause := by
  obtain ⟨hfired, hlapsed⟩ := s.blockEvents_cueMembers
  have hreport := State.takeReport_of_none (s := s.blockEvents) (report := s.samples.report) fun j hj => by
    rw [s.blockEvents_cue]; exact h j hj
  obtain ⟨hloader, hfired', hraised, hcause⟩ := s.render_lapses hreport
  refine ⟨s.blockEvents_loader.trans ⟨hloader.layers, hloader.host, hloader.cache, hloader.port⟩, ?_, ?_, ?_⟩
  · exact hfired.trans ⟨hfired'.latch, hfired'.detail⟩
  · exact hlapsed.lapseSet.then_raises hraised
  · rw [hcause, State.withCues_au, hlapsed.lapseCause]

/-- R133: a block in which one cue fires and its layer start is made. -/
theorem State.render_of_accepted {s : State} {j : Nat} (hj : j < 4) (h : (s.cue j).fires s.samples.report = true)
    (hone : ∀ i < 4, i ≠ j → (s.cue i).fires s.samples.report = false)
    (ha : s.startRefused (s.cue j).layer (s.cue j).pattern (s.cue j).priority = none) :
    SameLoader (s.startLayer (s.cue j).layer (s.cue j).pattern (s.cue j).priority (s.cue j).scale) s.render
      ∧ RaisesSet .cueFired (·.cueFired) 4 (fun i => i == j) s s.render
      ∧ RaisesSet .cueLapsed (·.cueLapsed) 4 s.blockLapses s s.render
      ∧ s.render.au.details.lapseCause
        = if (List.range 4).any s.blockLapses then some .voice else s.au.details.lapseCause := by
  obtain ⟨hfired, hlapsed⟩ := s.blockEvents_cueMembers
  have hreport := State.takeReport_of_one (s := s.blockEvents) (report := s.samples.report) hj
    (by rw [s.blockEvents_cue]; exact h) fun i hi hij => by rw [s.blockEvents_cue]; exact hone i hi hij
  rw [s.blockEvents_cue, State.fireEffect_of_accepted (by rw [s.blockEvents_loader.startRefused]; exact ha)] at hreport
  obtain ⟨hloader, hfired', hraised, hcause⟩ := s.render_lapses hreport
  have hstart := s.blockEvents_loader.startLayer (s.cue j).layer (s.cue j).pattern (s.cue j).priority (s.cue j).scale
  have hwork := LayerWork.startLayer s.blockEvents (s.cue j).layer (s.cue j).pattern (s.cue j).priority (s.cue j).scale
  generalize s.blockEvents.startLayer _ _ _ _ = y at hstart hwork hloader hfired' hraised hcause
  have hfired1 : SameMember .cueFired (·.cueFired) s y := hfired.trans (hwork.same (by decide) fun _ _ => rfl)
  have hlapsed1 : SameMember .cueLapsed lapseDetail s (y.raiseCueFired j) :=
    (hlapsed.trans (hwork.same (by decide) fun _ _ => rfl)).trans
      (sameMember_raise y (by decide) (fun _ => rfl) fun _ => rfl)
  refine ⟨hstart.trans ⟨hloader.layers, hloader.host, hloader.cache, hloader.port⟩, ?_, ?_, ?_⟩
  · exact raisesSet_then_same (hfired1.then_raises (raiseCueFired_raises y hj)) ⟨hfired'.latch, hfired'.detail⟩
  · exact hlapsed1.lapseSet.then_raises hraised
  · rw [hcause, State.withCues_au, hlapsed1.lapseCause]

/-- R133: a block in which one cue fires and its layer start is refused. -/
theorem State.render_of_refused {s : State} {j : Nat} {r : Code} (hj : j < 4)
    (h : (s.cue j).fires s.samples.report = true)
    (hone : ∀ i < 4, i ≠ j → (s.cue i).fires s.samples.report = false)
    (hr : s.startRefused (s.cue j).layer (s.cue j).pattern (s.cue j).priority = some r) :
    SameLoader s s.render ∧ SameMember .cueFired (·.cueFired) s s.render
      ∧ RaisesSet .cueLapsed (·.cueLapsed) 4 (fun i => s.blockLapses i || i == j) s s.render
      ∧ s.render.au.details.lapseCause
        = some (if (List.range 4).any s.blockLapses then .voice else .blocked) := by
  obtain ⟨hfired, hlapsed⟩ := s.blockEvents_cueMembers
  have hreport := State.takeReport_of_one (s := s.blockEvents) (report := s.samples.report) hj
    (by rw [s.blockEvents_cue]; exact h) fun i hi hij => by rw [s.blockEvents_cue]; exact hone i hi hij
  rw [s.blockEvents_cue, State.fireEffect_of_refused (by rw [s.blockEvents_loader.startRefused]; exact hr)] at hreport
  obtain ⟨hloader, hfired', hraised, hcause⟩ := s.render_lapses hreport
  have hblocked := raiseCueLapsed_raises s.blockEvents hj .blocked
  refine ⟨s.blockEvents_loader.trans ⟨hloader.layers, hloader.host, hloader.cache, hloader.port⟩, ?_, ?_, ?_⟩
  · have hraise : SameMember .cueFired (·.cueFired) s.blockEvents (s.blockEvents.raiseCueLapsed j .blocked) :=
      sameMember_raise _ (by decide) (fun _ => rfl) fun _ => rfl
    exact (hfired.trans hraise).trans ⟨hfired'.latch, hfired'.detail⟩
  · refine raisesSet_congr (raisesSet_trans (hlapsed.lapseSet.then_raises hblocked) ?_) fun i _ => Bool.or_comm _ _
    exact SameMember.then_raises ⟨rfl, rfl⟩ hraised
  · rw [hcause]
    split <;> rfl

/-! ### The RUMBLE-PLAY of a cue's fields (R122) -/

theorem exec_rumblePlay_eq (h : ReqHead) (layer pattern priority scale : Byte) (s : State) :
    exec (.rumblePlay h layer pattern priority scale) s
      = request h Kind.rumblePlay (serveRumblePlay layer pattern priority scale) s := rfl

/-- R176: in ACTIVE the arrival of a frame leaves the Rumble Unit and the Store Port. -/
theorem State.arrive_loader {s : State} (hp : s.sb.power = .active) : SameLoader s s.arrive := by
  have hawake : s.sb.power ≠ .standby := by rw [hp]; decide
  unfold State.arrive
  simp only [if_neg hawake]
  cases s.lp.held with
  | none => exact ⟨by simp, by rw [State.report_eq]; rfl, by rw [State.report_eq]; rfl, by simp⟩
  | some r => exact ⟨by simp; rfl, by rw [State.report_eq]; rfl, by rw [State.report_eq]; rfl, by simp; rfl⟩

/-- R176: the close of a request leaves the layers, the cache, the load list and the Link Port. -/
theorem State.concludeRequest_rest (s : State) : s.concludeRequest.ru.layers = s.ru.layers
    ∧ s.concludeRequest.ru.cache = s.ru.cache ∧ s.concludeRequest.sp.loadList = s.sp.loadList
    ∧ s.concludeRequest.lp = s.lp := by
  unfold State.concludeRequest
  rw [State.serviceStore_eq, State.report_eq]
  exact ⟨rfl, rfl, rfl, rfl⟩

/-- R176: a request in ACTIVE that is answered. -/
theorem request_active {s v : State} {h : ReqHead} {k : Byte} {svc : Service} {c : Code} {p : List Byte}
    (hp : s.sb.power = .active) (hr : s.lp.pendingReset = false) (hv : svc .active s.arrive = (v, some ⟨c, p⟩)) :
    ∃ u, request h k svc s = .next u ∧ u.ru.layers = v.ru.layers ∧ u.ru.cache = v.ru.cache
      ∧ u.sp.loadList = v.sp.loadList ∧ byteAt (u.lp.held.getD []) 4 = (c.withExtra h.extra).byte := by
  have hready : readied k svc .active s.arrive = svc .active s.arrive := by simp [readied]
  refine ⟨_, request_served s h k svc (by rw [hp]; decide) hr, ?_⟩
  rw [hp, hready, hv]
  obtain ⟨hlayers, hcache, hlist, hlp⟩ := (State.answer k h.tag h.extra (v, some ⟨c, p⟩)).concludeRequest_rest
  rw [hlayers, hcache, hlist, hlp]
  exact ⟨rfl, rfl, rfl, rfl⟩

/-- R122, R123: a RUMBLE-PLAY in ACTIVE whose fields are in range, by whether its layer start is refused. -/
theorem rumblePlay_active {s : State} (hp : s.sb.power = .active) (hr : s.lp.pendingReset = false)
    {layer pattern priority scale : Nat} (hl : layer ≤ 2) (hi : pattern ≤ 71) (hy : priority ≤ 15) (hs : scale ≤ 255) :
    ∃ u, exec (.rumblePlay ⟨0, false⟩ (BitVec.ofNat 8 layer) (BitVec.ofNat 8 pattern) (BitVec.ofNat 8 priority)
        (BitVec.ofNat 8 scale)) s = .next u
      ∧ match s.startRefused layer pattern priority with
        | some _ => u.ru.layers = s.ru.layers ∧ u.ru.cache = s.ru.cache ∧ u.sp.loadList = s.sp.loadList
          ∧ byteAt (u.lp.held.getD []) 4 ≠ 0
        | none => u.ru.layers = (s.startLayer layer pattern priority scale).ru.layers
          ∧ u.ru.cache = (s.startLayer layer pattern priority scale).ru.cache
          ∧ u.sp.loadList = (s.startLayer layer pattern priority scale).sp.loadList
          ∧ byteAt (u.lp.held.getD []) 4 = 0 := by
  have hload := State.arrive_loader hp
  have byte : ∀ n, n ≤ 255 → (BitVec.ofNat 8 n).toNat = n := fun n hn => by
    rw [BitVec.toNat_ofNat]
    omega
  have hchecks : s.arrive.playRefused (BitVec.ofNat 8 layer) (BitVec.ofNat 8 pattern) (BitVec.ofNat 8 priority)
      = s.startRefused layer pattern priority := by
    rw [State.playRefused, byte layer (by omega), byte pattern (by omega), byte priority (by omega),
      if_neg (by omega), hload.startRefused]
  rw [exec_rumblePlay_eq]
  cases hc : s.startRefused layer pattern priority with
  | some c =>
    obtain ⟨u, hu, hlayers, hcache, hlist, hbyte⟩ := request_active (h := ⟨0, false⟩) (k := Kind.rumblePlay) hp hr
      (show serveRumblePlay (BitVec.ofNat 8 layer) (BitVec.ofNat 8 pattern) (BitVec.ofNat 8 priority)
        (BitVec.ofNat 8 scale) .active s.arrive = (s.arrive, some ⟨c, []⟩) by
        rw [serveRumblePlay, hchecks, hc]
        rfl)
    have hcode : c = .notFound ∨ c = .busy := by
      unfold State.startRefused at hc
      split at hc
      · exact .inl (Option.some.inj hc).symm
      · split at hc
        · exact .inr (Option.some.inj hc).symm
        · cases hc
    refine ⟨u, hu, hlayers.trans hload.layers, hcache.trans hload.cache, hlist.trans (by rw [hload.port]), ?_⟩
    rw [hbyte]
    rcases hcode with rfl | rfl <;> decide
  | none =>
    obtain ⟨u, hu, hlayers, hcache, hlist, hbyte⟩ := request_active (h := ⟨0, false⟩) (k := Kind.rumblePlay) hp hr
      (show serveRumblePlay (BitVec.ofNat 8 layer) (BitVec.ofNat 8 pattern) (BitVec.ofNat 8 priority)
        (BitVec.ofNat 8 scale) .active s.arrive = (s.arrive.startLayer layer pattern priority scale, some ⟨.ok, _⟩) by
        rw [serveRumblePlay, hchecks, hc]
        simp only [byte layer (by omega), byte pattern (by omega), byte priority (by omega), byte scale hs]
        rfl)
    have hstart := hload.startLayer layer pattern priority scale
    exact ⟨u, hu, hlayers.trans hstart.layers, hcache.trans hstart.cache, hlist.trans (by rw [hstart.port]), hbyte⟩

end Sys2Proof.Machine
end

section
/-! O46. -/

namespace Sys2Proof.Machine

open Sys2Proof.Safety

namespace BoundaryTo

variable {s e t : State} (h : BoundaryTo s e t)
include h

/-- What the rest of the boundary leaves of the Rumble Unit and the load list that its render made. -/
theorem rumble : (∀ j, t.cue j = e.render.cue j) ∧ t.ru.layers = e.render.ru.layers
    ∧ t.ru.cache = e.render.ru.cache ∧ t.sp.loadList = e.render.sp.loadList := by
  obtain ⟨y, rfl, hclose⟩ := h.closing
  obtain ⟨_, _, hy⟩ := hclose.rest
  have hc := State.closes y
  obtain ⟨-, -, -, hlist, -⟩ := hc.store
  refine ⟨fun j => ?_, ?_, ?_, ?_⟩
  · rw [hc.cue]
    unfold State.cue
    rw [hy]
  · rw [hc.layers, hy]
  · calc y.serviceStore.refresh.ru.cache = y.ru.cache := by rw [← hc.rumble]
      _ = e.render.ru.cache := by rw [hy]
  · rw [hlist, hy]

theorem loaderBefore : SameLoader s e :=
  ⟨by rw [h.rumbleBefore], by rw [h.rumbleBefore], by rw [h.rumbleBefore], h.portBefore⟩

theorem cueBefore (j : Nat) : e.cue j = s.cue j := by rw [State.cue, h.rumbleBefore]; rfl

/-- R28: the crossing report that the boundary takes. -/
theorem report (h8 : s.se.voices.length = 8) : e.samples.report = blockReport (s.se.voices.map atBoundary) := by
  rw [State.samples, h.engineBefore]
  exact report_eq _ (by simpa using h8)

/-- R134: the voices that end, as a set of numbers. -/
theorem ends : e.blockEnds.getLsbD
    = fun n => decide (n < 8 ∧ (s.voice n).state ≠ .idle ∧ (t.voice n).state = .idle) := by
  funext n
  by_cases hn : n < 8
  · rw [h.ended n hn]
    simp only [hn, true_and]
  · rw [BitVec.getLsbD_of_ge _ _ (Nat.le_of_not_lt hn)]
    simp [hn]

/-- R134: the cues that lapse at the boundary. -/
theorem lapses (j : Nat) : e.blockLapses j = (!(s.cue j).fires e.samples.report
    && (lapsed s (fun n => decide (n < 8 ∧ (s.voice n).state ≠ .idle ∧ (t.voice n).state = .idle)) j != s.cue j)) := by
  rw [State.blockLapses, State.lapsesAfter, h.cueBefore, h.ends, lapsed_bne, State.lapsesOn_of_cue (h.cueBefore j)]

section Events

variable (ha : s.lp.await = none)
include ha

theorem fired_of_same (hs : SameMember .cueFired (·.cueFired) e e.render) :
    RaisesSet .cueFired (·.cueFired) 4 (fun _ => false) s t :=
  h.raises ha rfl (fun _ _ _ => rfl) (hs.raises fun _ _ => rfl)

theorem lapsed_of_raises {items : Nat → Bool} (hr : RaisesSet .cueLapsed (·.cueLapsed) 4 items e e.render) :
    RaisesSet .cueLapsed (·.cueLapsed) 4 items s t :=
  h.raises ha rfl (fun _ _ _ => rfl) hr

theorem lapseCause : t.au.details.lapseCause = e.render.au.details.lapseCause :=
  (h.sameMember (detail := lapseDetail) ha (m := .cueLapsed) rfl fun _ _ _ => rfl).lapseCause

/-- R132, R134: a boundary at which no cue fires. -/
theorem of_none (hnone : ∀ j < 4, (s.cue j).fires e.samples.report = false) :
    t.ru.layers = s.ru.layers ∧ t.sp.loadList = s.sp.loadList
      ∧ RaisesSet .cueFired (·.cueFired) 4 (fun _ => false) s t
      ∧ RaisesSet .cueLapsed (·.cueLapsed) 4 e.blockLapses s t
      ∧ ((List.range 4).any e.blockLapses = true → t.au.details.lapseCause = some .voice) := by
  obtain ⟨-, hlayers, -, hlist⟩ := h.rumble
  obtain ⟨hloader, hfired, hlapsed, hcause⟩ := State.render_of_none (s := e) fun j hj => by
    rw [h.cueBefore]; exact hnone j hj
  refine ⟨?_, ?_, h.fired_of_same ha hfired, h.lapsed_of_raises ha hlapsed, fun hsome => ?_⟩
  · rw [hlayers, hloader.layers, h.loaderBefore.layers]
  · rw [hlist, hloader.port, h.portBefore]
  · rw [h.lapseCause ha, hcause, if_pos hsome]

section OneCue

variable {j : Nat} (hj : j < 4) (hf : (s.cue j).fires e.samples.report = true)
  (hone : ∀ i < 4, i ≠ j → (s.cue i).fires e.samples.report = false)
include hj hf hone

/-- R133: a boundary at which one cue fires and its layer start is made. -/
theorem of_accepted (hr : s.startRefused (s.cue j).layer (s.cue j).pattern (s.cue j).priority = none) :
    let u := s.startLayer (s.cue j).layer (s.cue j).pattern (s.cue j).priority (s.cue j).scale
    t.ru.layers = u.ru.layers ∧ t.ru.cache = u.ru.cache ∧ t.sp.loadList = u.sp.loadList
      ∧ RaisesSet .cueFired (·.cueFired) 4 (fun i => i == j) s t
      ∧ RaisesSet .cueLapsed (·.cueLapsed) 4 e.blockLapses s t
      ∧ ((List.range 4).any e.blockLapses = true → t.au.details.lapseCause = some .voice) := by
  intro u
  obtain ⟨-, hlayers, hcache, hlist⟩ := h.rumble
  rw [← h.loaderBefore.startRefused] at hr
  simp only [← h.cueBefore] at hf hone hr
  obtain ⟨hloader, hfired, hlapsed, hcause⟩ := State.render_of_accepted hj hf hone hr
  have hstart := h.loaderBefore.startLayer (s.cue j).layer (s.cue j).pattern (s.cue j).priority (s.cue j).scale
  rw [h.cueBefore] at hloader
  refine ⟨?_, ?_, ?_, h.raises ha rfl (fun _ _ _ => rfl) hfired, h.lapsed_of_raises ha hlapsed, fun hsome => ?_⟩
  · rw [hlayers, hloader.layers, hstart.layers]
  · rw [hcache, hloader.cache, hstart.cache]
  · rw [hlist, hloader.port, hstart.port]
  · rw [h.lapseCause ha, hcause, if_pos hsome]

/-- R133: a boundary at which one cue fires and its layer start is refused. -/
theorem of_refused {r : Code}
    (hr : s.startRefused (s.cue j).layer (s.cue j).pattern (s.cue j).priority = some r) :
    t.ru.layers = s.ru.layers ∧ t.ru.cache = s.ru.cache ∧ t.sp.loadList = s.sp.loadList
      ∧ RaisesSet .cueFired (·.cueFired) 4 (fun _ => false) s t
      ∧ RaisesSet .cueLapsed (·.cueLapsed) 4 (fun i => e.blockLapses i || i == j) s t
      ∧ t.au.details.lapseCause = some (if (List.range 4).any e.blockLapses then .voice else .blocked) := by
  obtain ⟨-, hlayers, hcache, hlist⟩ := h.rumble
  rw [← h.loaderBefore.startRefused] at hr
  simp only [← h.cueBefore] at hf hone hr
  obtain ⟨hloader, hfired, hlapsed, hcause⟩ := State.render_of_refused hj hf hone hr
  refine ⟨?_, ?_, ?_, h.fired_of_same ha hfired, h.lapsed_of_raises ha hlapsed, (h.lapseCause ha).trans hcause⟩
  · rw [hlayers, hloader.layers, h.loaderBefore.layers]
  · rw [hcache, hloader.cache, h.loaderBefore.cache]
  · rw [hlist, hloader.port, h.portBefore]

end OneCue

end Events

end BoundaryTo

/-- R129: a crossing that a trigger names. -/
theorem Trigger.matchesCrossing_eq (q : Trigger) :
    (fun x : Crossing => decide (x.voice = q.voice ∧ x.marker = q.marker ∧ x.generation = q.generation))
      = q.matchesCrossing := by
  funext x
  rw [Bool.eq_iff_iff]
  simp only [Trigger.matchesCrossing, decide_eq_true_eq, Bool.and_eq_true, beq_iff_eq, and_assoc]
  exact ⟨fun ⟨hv, hm, hg⟩ => ⟨hv.symm, hm.symm, hg.symm⟩, fun ⟨hv, hm, hg⟩ => ⟨hv.symm, hm.symm, hg.symm⟩⟩

end Sys2Proof.Machine

namespace Sys2Proof.Proofs

open Sys2Proof.Safety Sys2Proof.Machine

/-- Settles O46: the two requests by their services; the boundary by what its crossing report fires and its ended
voices lapse, cue by cue, and the one layer start by the same start made at the frame's arrival. -/
theorem cuesArmAndDisarm : Obligations.CuesArmAndDisarm := by
  unfold Obligations.CuesArmAndDisarm
  refine ⟨fun h f cue s hl h4 => ⟨?_, ?_⟩, fun s hp _ ha hr h8 _ _ => ?_⟩
  · rw [cueArm_next hl, cueArm_reply]
    rfl
  · split
    · rename_i hc
      rw [exec_cueDisarm_eq]
      exact request_refused hl (by rw [serveCueDisarm, if_pos hc])
    · rename_i hc
      refine ⟨_, cueDisarm_next hl hc, ⟨_, fun n _ => ?_, rfl⟩, (List.length_mapIdx ..).trans h4, fun n hn => ?_⟩
      · simp only [State.armedCues_bit, namesCue_iff]
      · refine (State.cue_disarmed (by omega) (namesCue cue)).trans ?_
        simp only [namesCue_iff]
        rfl
  · intro report hits later begins fires
    obtain ⟨e, t, ht, h⟩ := exec_mixBlockBoundary hp
    have hhits : hits = Trigger.matchesCrossing := funext Trigger.matchesCrossing_eq
    have hreport : e.samples.report = report := h.report h8
    have hbegins : ∀ c, begins c = c.begins e.samples.report := fun c => by
      show (decide (c.state = .waitFirst) && report.any (hits c.first)) = _
      rw [hhits, hreport, Cue.begins]
    have hlater : ∀ q, later q = laterThan q e.samples.report := fun q => by
      show (report.dropWhile fun x => !hits q x).drop 1 = _
      rw [hhits, hreport, laterThan]
    have hfires : ∀ c, fires c = c.fires e.samples.report := fun c => by
      obtain ⟨state, first, second, pattern, layer, priority, scale⟩ := c
      cases second with
      | none => exact hbegins _
      | some q =>
        show (begins _ && (later first).any (hits q) || decide (state = .waitSecond) && report.any (hits q)) = _
        rw [hbegins, hlater, hhits, ← hreport]
        rfl
    clear_value begins fires
    refine ⟨t, ht, ?_⟩
    intro ended lapses someLapse
    have hlapses : e.blockLapses = lapses := funext fun j => by rw [h.lapses, ← hfires]
    refine ⟨fun j hj => ?_, fun hnone => ?_, ?_⟩
    · rw [h.rumble.1, State.render_cue e hj, h.cueBefore, ← State.blockLapses, hlapses, hfires, hbegins]
      rfl
    · simp only [hfires] at hnone
      have hcues := h.of_none ha hnone
      rw [hlapses] at hcues
      exact hcues
    · intro j hj hf hone c hpattern hlayer hpriority hscale
      simp only [hfires] at hf hone
      obtain ⟨u, hu, hplay⟩ := rumblePlay_active hp hr hlayer hpattern hpriority hscale
      refine ⟨u, hu, ?_⟩
      cases hc : s.startRefused c.layer c.pattern c.priority with
      | none =>
        rw [hc] at hplay
        obtain ⟨hlayers, hcache, hlist, hbyte⟩ := hplay
        have hcues := h.of_accepted ha hj hf hone hc
        rw [hlapses] at hcues
        rw [hlayers, hcache, hlist, if_pos hbyte]
        exact hcues
      | some r =>
        rw [hc] at hplay
        obtain ⟨hlayers, hcache, hlist, hbyte⟩ := hplay
        have hcues := h.of_refused ha hj hf hone hc
        rw [hlapses] at hcues
        rw [hlayers, hcache, hlist, if_neg hbyte]
        exact hcues

end Sys2Proof.Proofs
end

section
/-! SUPPORT. The close of an event (R33, R34, R148, R159): whatever led to it, it leaves no condition unreported, no
grant owed and every recomputed value standing. -/

namespace Sys2Proof.Machine

open Sys2Proof.Safety

/-! ### The report of conditions -/

/-- R159: what has been reported needs no second report. -/
theorem State.report_report (s : State) : s.report.report = s.report := by
  rw [State.reported_iff]
  intro ha
  rw [State.report_sb] at ha
  rw [State.ownerLevels_congr (s := s) (by simp) (by simp) (by simp) (by simp) (by simp) (by simp)]
  unfold State.report
  rw [if_pos ha]
  exact ⟨rfl, rfl, rfl⟩

/-- R158: clearing members leaves the current details of the conditions. -/
theorem foldl_clear_conditions (ms : List Member) (d : Details) :
    (ms.foldl Details.clear d).slotDamaged = d.slotDamaged ∧ (ms.foldl Details.clear d).firedWaiting = d.firedWaiting := by
  have one : ∀ (d : Details) (m : Member),
      (d.clear m).slotDamaged = d.slotDamaged ∧ (d.clear m).firedWaiting = d.firedWaiting := by
    intro d m
    cases m <;> exact ⟨rfl, rfl⟩
  induction ms generalizing d with
  | nil => exact ⟨rfl, rfl⟩
  | cons m ms ih =>
    rw [List.foldl_cons]
    exact ⟨(ih _).1.trans (one d m).1, (ih _).2.trans (one d m).2⟩

/-- R154: a wake brings up no condition. -/
theorem State.wakeBy_reported {s : State} (h : s.report = s) (fresh : MemberSet) :
    (s.wakeBy fresh).report = s.wakeBy fresh := by
  unfold State.wakeBy
  split
  · rename_i hw
    exact State.report_of_reported h rfl rfl rfl rfl rfl rfl (fun _ => by rw [hw.1]; rfl) rfl rfl rfl
  · exact h

/-- R167: the end of a held AWAIT brings up no condition. -/
theorem State.endAwait_reported {s : State} (h : s.report = s) (fresh : MemberSet) :
    (s.endAwait fresh).report = s.endAwait fresh := by
  unfold State.endAwait
  split
  · exact h
  · rename_i a _
    split
    · exact h
    · obtain ⟨hslots, hfired⟩ := foldl_clear_conditions (membersOf a.members) s.au.details
      exact State.report_of_reported h rfl rfl rfl rfl rfl rfl id rfl hslots hfired

theorem State.attend_reported (s0 s : State) : (State.attend s0 s).report = State.attend s0 s :=
  State.endAwait_reported (State.wakeBy_reported s.report_report _) _

/-! ### The store's service -/

/-- R33: a request flag says nothing of the next evaluation. -/
theorem State.markRequests_markRequests (s : State) : s.markRequests.markRequests = s.markRequests := by
  have hv : s.markRequests.markRequests.se.voices = s.markRequests.se.voices := by
    rw [State.markRequests_voices, State.markRequests_voices, List.mapIdx_mapIdx]
    rfl
  calc s.markRequests.markRequests
      = { s.markRequests with se := { s.se with voices := s.markRequests.markRequests.se.voices } } := rfl
    _ = s.markRequests := by rw [hv]; rfl

/-- R34: a grant that brings no fetch changes nothing. -/
theorem State.grant_of_idle {s : State} (h : s.grant.sp.fetch = none) : s.grant = s := by
  unfold State.grant at h ⊢
  repeat' split at h
  all_goals first | rfl | cases h

/-- R34: whether a grant is made does not depend on the time. -/
theorem State.grant_idle_withNow {s : State} (h : s.grant.sp.fetch = none) (n : Nat) :
    ({ s with now := n }).grant.sp.fetch = none := by
  have hload : s.loaderFetch = none → ({ s with now := n }).loaderFetch = none := by
    unfold State.loaderFetch
    cases s.sp.load with
    | none => exact id
    | some l => by_cases hb : l.buffer.length < l.size <;> simp [hb]
  have hread : s.readerFetch = none → ({ s with now := n }).readerFetch = none := by
    unfold State.readerFetch
    by_cases hb : s.sp.reader.length < s.readerSpan.2
    · simp [hb]
    · intro _
      exact if_neg hb
  have hpick : ∀ b, ({ s with now := n }).pickVoice b = s.pickVoice b := fun _ => rfl
  unfold State.grant at h ⊢
  simp only [hpick]
  repeat' split at h
  all_goals first | cases h | simp_all

/-- R34: a grant that could be made has been made. -/
theorem State.serviceStore_serviceStore (s : State) : s.serviceStore.serviceStore = s.serviceStore := by
  let u := s.markRequests
  show u.grant.markRequests.markRequests.grant.markRequests = u.grant.markRequests
  rw [State.markRequests_markRequests]
  cases hf : u.grant.sp.fetch with
  | some f =>
    rw [State.grant_of_busy u.grant.markRequests f hf, State.markRequests_markRequests]
  | none =>
    have hu : u.grant = u := State.grant_of_idle hf
    have hm : u.markRequests = u := s.markRequests_markRequests
    rw [hu, hm, hu, hm]

/-- R34: a store port that has been served stays so while time passes. -/
theorem State.serviceStore_withNow {s : State} (h : s.serviceStore = s) (n : Nat) :
    ({ s with now := n }).serviceStore = { s with now := n } := by
  have hgrant : s.markRequests.grant = s.markRequests
      ∧ ({ s with now := n }).markRequests.grant = ({ s with now := n }).markRequests := by
    have hf : s.markRequests.grant.sp.fetch = s.sp.fetch := congrArg (·.sp.fetch) h
    cases hs : s.sp.fetch with
    | some f => exact ⟨State.grant_of_busy _ f hs, State.grant_of_busy _ f hs⟩
    | none =>
      rw [hs] at hf
      exact ⟨State.grant_of_idle hf, State.grant_of_idle (State.grant_idle_withNow hf n)⟩
  obtain ⟨hg, hg'⟩ := hgrant
  have hm : s.markRequests = s := by
    rw [← s.markRequests_markRequests]
    exact (congrArg State.markRequests hg).symm.trans h
  unfold State.serviceStore
  rw [hg', State.markRequests_markRequests]
  exact congrArg (fun u : State => { u with now := n }) hm

/-- R33, R34: a served store port stays so under a change that leaves the voices, the store port, the power state and
the stage, whatever time has passed. -/
theorem State.serviceStore_of_served {s t : State} (h : s.serviceStore = s) (hv : t.se.voices = s.se.voices)
    (hsp : t.sp = s.sp) (hp : t.sb.power = s.sb.power) (hst : t.sb.stage = s.sb.stage) : t.serviceStore = t :=
  State.serviceStore_of_serviced (State.serviceStore_withNow h t.now) hv hsp hp hst rfl

/-! ### The close -/

/-- R33, R34, R148, R159: a state with nothing to report is settled by the close of its event. -/
theorem State.settled_close {s : State} (h : s.report = s) : Settled s.serviceStore.refresh := by
  have hreport : s.serviceStore.report = s.serviceStore := by
    apply State.report_of_reported h <;> simp
  refine ⟨?_, State.serviceStore_of_served s.serviceStore_serviceStore rfl rfl rfl rfl, rfl⟩
  exact State.report_of_reported hreport rfl rfl rfl rfl rfl rfl id rfl rfl rfl

/-- A settled state whose Link Port alone has changed is settled. -/
theorem settled_withLp {s : State} (h : Settled s) (l : LinkPort) : Settled { s with lp := l } := by
  obtain ⟨hr, hs, hf⟩ := h
  refine ⟨?_, ?_, ?_⟩
  · rw [State.report_withLp, hr]
  · rw [State.serviceStore_withLp, hs]
  · rw [State.refresh_withLp, hf]

/-- The commands that wait take no part in what is owed. -/
theorem settled_withPending {s : State} (h : Settled s) (q : List Instr) : Settled { s with pending := q } := by
  obtain ⟨hr, hs, hf⟩ := h
  exact ⟨State.report_of_reported hr rfl rfl rfl rfl rfl rfl id rfl rfl rfl,
    State.serviceStore_of_served hs rfl rfl rfl rfl, congrArg (fun u : State => { u with pending := q }) hf⟩

/-! ### An idle moment -/

/-- R55, R75, R185: while time passes the slot states stand, and the clock's validity and the fired list too but in a
format. -/
theorem State.elapse_owners (s : State) (dt : Nat) :
    (s.elapse dt).sc.slots = s.sc.slots
      ∧ (s.sb.format = none → (s.elapse dt).cu.valid = s.cu.valid ∧ (s.elapse dt).dr = s.dr) := by
  have hslots : ∀ u : State, (u.workOn dt).sc.slots = u.sc.slots ∧ (u.workOn dt).cu = u.cu
      ∧ (u.workOn dt).dr = u.dr ∧ (u.workOn dt).sb = u.sb := by
    intro u
    unfold State.workOn
    split
    · exact ⟨rfl, rfl, rfl, rfl⟩
    · simp only
      split <;> exact ⟨rfl, rfl, rfl, rfl⟩
  obtain ⟨h1, h2, h3, h4⟩ := hslots { s with cu := s.cu.count s.now dt }
  have hformat : ∀ u : State, (u.formatOn dt).sc = u.sc ∧ (u.sb.format = none → u.formatOn dt = u) := by
    intro u
    unfold State.formatOn
    split
    · exact ⟨rfl, fun _ => rfl⟩
    · rename_i f hf
      refine ⟨?_, fun h => absurd (hf.symm.trans h) (by simp)⟩
      split
      · rfl
      · simp only [State.formatMore]
        rw [State.formatWrites_eq]
  obtain ⟨h5, h6⟩ := hformat (({ s with cu := s.cu.count s.now dt } : State).workOn dt)
  refine ⟨(congrArg SaveController.slots h5).trans h1, fun hf => ?_⟩
  have hstay := h6 (by rw [h4]; exact hf)
  show ((({ s with cu := s.cu.count s.now dt } : State).workOn dt).formatOn dt).cu.valid = _
    ∧ ((({ s with cu := s.cu.count s.now dt } : State).workOn dt).formatOn dt).dr = _
  rw [hstay, h2, h3]
  exact ⟨ClockUnit.count_valid _ _ _, rfl⟩

/-- R159, R184: while time passes nothing comes up to report: a format is under way in WAKING alone. -/
theorem State.elapse_reported {s : State} (h : s.report = s) (hf : FormatPlaced s) (dt : Nat) :
    (s.elapse dt).report = s.elapse dt := by
  obtain ⟨cu, sc, dr, keep, face, f, he⟩ := s.elapse_rest dt
  obtain ⟨hslots, hstill⟩ := s.elapse_owners dt
  rw [State.reported_iff] at h ⊢
  intro hw
  have hsb : (s.elapse dt).sb = { s.sb with format := f } := by rw [he]
  have hau : (s.elapse dt).au = s.au := by rw [he]
  have hw' : s.sb.power.awake = true := by rw [hsb] at hw; exact hw
  have hnone : s.sb.format = none := by
    by_contra hsome
    have hp := (hf (Option.isSome_iff_ne_none.mpr hsome)).1
    rw [hp] at hw'
    cases hw'
  obtain ⟨hvalid, hdr⟩ := hstill hnone
  obtain ⟨e1, e2, e3⟩ := h hw'
  have hdamaged : (s.elapse dt).damagedSet = s.damagedSet := by simp only [State.damagedSet, hslots]
  have howners : (s.elapse dt).ownerLevels = s.ownerLevels := by
    have hold : (s.elapse dt).holds = s.holds := by
      funext m
      cases m <;> simp [State.holds, hdamaged, hdr, hvalid, hsb]
    simp only [State.ownerLevels, hold]
  rw [hau, howners, hdamaged, hdr]
  exact ⟨e1, e2, e3⟩

/-- An idle moment leaves a calm state settled. -/
theorem State.settled_idle {s : State} (h : Calm s) : Settled s.idle := by
  obtain ⟨⟨hr, hs, -⟩, hf⟩ := h
  obtain ⟨cu, sc, dr, keep, face, f, he⟩ := s.elapse_rest 1
  refine ⟨?_, ?_, rfl⟩
  · exact State.report_of_reported (State.elapse_reported hr hf 1) rfl rfl rfl rfl rfl rfl id rfl rfl rfl
  · exact State.serviceStore_of_served hs (by rw [State.idle, State.refresh_voices, he])
      (by rw [State.idle, State.refresh_sp, he]) (by rw [State.idle, State.refresh_power, he])
      (by show (s.elapse 1).sb.stage = _; rw [he])

end Sys2Proof.Machine
end

section
/-! SUPPORT. The load list, the cache and the layers (R39, R40, R117, R119): what each operation of the pattern loader
keeps of their agreement. -/

namespace Sys2Proof.Machine

open Sys2Proof.Safety

/-! ### The agreement for a list of ids -/

/-- R129: every stored start, of a cue or of a day-table entry, names a layer. -/
abbrev StartsOk (s : State) : Prop :=
  (∀ c ∈ s.ru.cues, c.layer < 3) ∧ ∀ e ∈ s.dr.table, ∀ a ∈ e.action, a.layer < 3

/-- R39, R117: the layers and the cache agree with the list `ids`, of which those in `queued` are waited on. -/
structure Listed (s : State) (ids queued : List Nat) : Prop where
  layers : s.ru.layers.length = 3
  nodup : ids.Nodup
  waited : ∀ id ∈ queued, waited s id = true
  loading : ∀ l ∈ s.ru.layers, l.state = .loading → l.id ∈ ids
  entries : s.ru.cache.length ≤ 8
  distinct : (s.ru.cache.map (·.id)).Nodup
  apart : ∀ c ∈ s.ru.cache, c.id ∉ ids
  starts : StartsOk s

/-- The agreement is one of the Rumble Unit and the day table alone. -/
theorem Listed.of_same {s t : State} {ids queued : List Nat} (h : Listed s ids queued) (hru : t.ru = s.ru)
    (hdr : t.dr = s.dr) : Listed t ids queued := by
  obtain ⟨h1, h2, h3, h4, h5, h6, h7, h8⟩ := h
  refine ⟨by rw [hru]; exact h1, h2, fun id hid => ?_, by rw [hru]; exact h4, by rw [hru]; exact h5,
    by rw [hru]; exact h6, by rw [hru]; exact h7, by rw [StartsOk, hru, hdr]; exact h8⟩
  rw [Safety.waited, hru]
  exact h3 id hid

theorem Listed.fewer {s : State} {ids queued queued' : List Nat} (h : Listed s ids queued)
    (hq : ∀ id ∈ queued', id ∈ queued) : Listed s ids queued' :=
  { h with waited := fun id hid => h.waited id (hq id hid) }

theorem waited_iff (s : State) (id : Nat) : waited s id = true ↔ ∃ l ∈ s.ru.layers, l.state = .loading ∧ l.id = id := by
  simp [waited]

/-- Different ids that some layer has are no more than the layers. -/
theorem length_le_of_layers {s : State} (h3 : s.ru.layers.length = 3) {ids : List Nat} (hn : ids.Nodup)
    (h : ∀ id ∈ ids, ∃ l ∈ s.ru.layers, l.id = id) : ids.length ≤ 3 := by
  have hsub : ids ⊆ s.ru.layers.map (·.id) := fun id hid => List.mem_map.mpr (h id hid)
  have hle := (hn.subperm hsub).length_le
  rwa [List.length_map, h3] at hle

/-- R39: a list whose queued ids are waited on holds at most four, one for the current load and one for each layer. -/
theorem Listed.length_le {s : State} {ids : List Nat} (h : Listed s ids (ids.drop 1)) : ids.length ≤ 4 := by
  have hq : (ids.drop 1).length ≤ 3 := by
    refine length_le_of_layers h.layers (h.nodup.sublist (List.drop_sublist 1 ids)) fun id hid => ?_
    obtain ⟨l, hl, -, he⟩ := (waited_iff s id).mp (h.waited id hid)
    exact ⟨l, hl, he⟩
  rw [List.length_drop] at hq
  omega

theorem loaderOk_iff (s : State) : LoaderOk s ↔
    Listed s s.sp.loadList (s.sp.loadList.drop 1) ∧ (s.sp.load.isSome ↔ s.sp.loadList ≠ []) := by
  constructor
  · rintro ⟨h1, h2, -, h4, h5, h6, h7, h8, h9, h10, h11⟩
    exact ⟨⟨h1, h2, h5, h6, h7, h8, h9, h10, h11⟩, h4⟩
  · rintro ⟨h, hc⟩
    exact ⟨h.layers, h.nodup, h.length_le, hc, h.waited, h.loading, h.entries, h.distinct, h.apart, h.starts.1,
      h.starts.2⟩

/-! ### Ends of loads and the next load (R40, R119, R120) -/

/-- The layers waiting on an id leave the state LOADING; what waits on another id stays. -/
theorem Listed.endOfWait {s t : State} {id : Nat} {rest : List Nat} (h : Listed s (id :: rest) rest) {f : Layer → Layer}
    (hl : t.ru.layers = s.ru.layers.map fun l => if l.state = .loading ∧ l.id = id then f l else l)
    (hf : ∀ l, (f l).state ≠ .loading) (hentries : t.ru.cache.length ≤ 8)
    (hcache : (t.ru.cache.map (·.id)).Nodup) (hapart : ∀ c ∈ t.ru.cache, c.id ∉ rest) (hstarts : StartsOk t) :
    Listed t rest rest := by
  obtain ⟨hnot, hnodup⟩ := List.nodup_cons.mp h.nodup
  refine ⟨by rw [hl, List.length_map, h.layers], hnodup, fun i hi => ?_, fun l hmem hload => ?_, hentries, hcache,
    hapart, hstarts⟩
  · obtain ⟨l, hmem, hload, rfl⟩ := (waited_iff s i).mp (h.waited i hi)
    have hne : l.id ≠ id := fun e => hnot (e ▸ hi)
    refine (waited_iff t _).mpr ⟨l, ?_, hload, rfl⟩
    rw [hl]
    exact List.mem_map.mpr ⟨l, hmem, by simp [hne]⟩
  · rw [hl] at hmem
    obtain ⟨k, hk, rfl⟩ := List.mem_map.mp hmem
    by_cases hw : k.state = .loading ∧ k.id = id
    · rw [if_pos hw] at hload
      exact absurd hload (hf k)
    · rw [if_neg hw] at hload ⊢
      have hmem' := h.loading k hk hload
      rcases List.mem_cons.mp hmem' with he | hr
      · exact absurd ⟨hload, he⟩ hw
      · exact hr

theorem Listed.loadFailed {s : State} {id : Nat} {rest : List Nat} (h : Listed s (id :: rest) rest) :
    Listed (s.loadFailed id) rest rest :=
  h.endOfWait (f := Layer.stop) (mapIdx_placeless _ _) (fun _ => nofun) h.entries h.distinct
    (fun c hc hr => h.apart c hc (List.mem_cons_of_mem _ hr)) h.starts

/-- R119: the cache less its victim is part of the cache. -/
theorem State.withoutVictim_sublist (s : State) : List.Sublist s.withoutVictim s.ru.cache := by
  have h := (List.eraseP_sublist (p := fun c => !s.cacheInUse c.id) (l := s.ru.cache.reverse)).reverse
  rwa [List.reverse_reverse] at h

/-- R117, R119: a full cache has an entry that no layer uses, so placing a record finds room. -/
theorem Listed.length_place {s : State} {ids queued : List Nat} (h : Listed s ids queued) (id : Nat) (p : Pattern) :
    (s.place id p).ru.cache.length ≤ 8 := by
  show ((⟨id, p⟩ : Cached) :: (if s.ru.cache.length < 8 then s.ru.cache else s.withoutVictim)).length ≤ 8
  rw [List.length_cons]
  split
  · omega
  · rename_i hfull
    have hfree : ∃ c ∈ s.ru.cache.reverse, (!s.cacheInUse c.id) = true := by
      by_contra hno
      have hused : ∀ id ∈ s.ru.cache.map (·.id), ∃ l ∈ s.ru.layers, l.id = id := by
        intro id hid
        obtain ⟨c, hc, rfl⟩ := List.mem_map.mp hid
        have hin : s.cacheInUse c.id = true := by
          by_contra hn
          exact hno ⟨c, List.mem_reverse.mpr hc, by simp [hn]⟩
        obtain ⟨l, hl, hb⟩ := List.any_eq_true.mp hin
        rw [Bool.and_eq_true, beq_iff_eq] at hb
        exact ⟨l, hl, hb.2⟩
      have hle := length_le_of_layers h.layers h.distinct hused
      rw [List.length_map] at hle
      omega
    obtain ⟨c, hc, hu⟩ := hfree
    have hlen := List.length_eraseP_of_mem (p := fun c => !s.cacheInUse c.id) hc hu
    have hentries := h.entries
    rw [State.withoutVictim, List.length_reverse, hlen, List.length_reverse]
    omega

theorem Listed.loadDone {s : State} {id : Nat} {rest : List Nat} (h : Listed s (id :: rest) rest) (p : Pattern) :
    Listed (s.loadDone id p) rest rest := by
  have hsub : ∀ {c}, c ∈ (if s.ru.cache.length < 8 then s.ru.cache else s.withoutVictim) → c ∈ s.ru.cache := by
    intro c hc
    split at hc
    · exact hc
    · exact s.withoutVictim_sublist.mem hc
  have hnodup : ((if s.ru.cache.length < 8 then s.ru.cache else s.withoutVictim).map (·.id)).Nodup := by
    split
    · exact h.distinct
    · exact h.distinct.sublist (s.withoutVictim_sublist.map _)
  refine h.endOfWait (f := fun l => l.run p) (mapIdx_placeless _ _) (fun _ => nofun) (h.length_place id p) ?_ ?_ h.starts
  · refine List.nodup_cons.mpr ⟨fun hid => ?_, hnodup⟩
    obtain ⟨c, hc, he⟩ := List.mem_map.mp hid
    exact h.apart c (hsub hc) (he ▸ List.mem_cons_self)
  · intro c hc hr
    rcases List.mem_cons.mp hc with rfl | hc
    · exact (List.nodup_cons.mp h.nodup).1 hr
    · exact h.apart c (hsub hc) (List.mem_cons_of_mem _ hr)

/-- R40: a load begun from a list that the layers and the cache agree with leaves them in agreement. -/
theorem Listed.beginFrom {s : State} {ids : List Nat} (h : Listed s ids (ids.drop 1)) : LoaderOk (s.beginFrom ids) := by
  induction ids generalizing s with
  | nil => exact (loaderOk_iff _).mpr ⟨h.of_same rfl rfl, by simp [State.beginFrom]⟩
  | cons id rest ih =>
    rw [State.beginFrom]
    cases s.loadFor id with
    | some l => exact (loaderOk_iff _).mpr ⟨h.of_same rfl rfl, by simp⟩
    | none => exact ih (h.loadFailed.fewer fun _ => List.mem_of_mem_drop)

theorem Listed.beginLoad {s : State} (h : Listed s s.sp.loadList (s.sp.loadList.drop 1)) (hl : s.sp.load = none) :
    LoaderOk s.beginLoad := by
  unfold State.beginLoad
  rw [hl]
  exact h.beginFrom

/-- R42: the end of a load keeps the agreement. -/
theorem endLoad_keeps {s : State} (h : LoaderOk s) (l : Load) : LoaderOk (s.endLoad l) := by
  obtain ⟨hl, -⟩ := (loaderOk_iff s).mp h
  unfold State.endLoad
  cases hlist : s.sp.loadList with
  | nil => exact h
  | cons id rest =>
    rw [hlist] at hl
    have hs1 : Listed { s with sp := { s.sp with loadList := rest, load := none } } (id :: rest) rest :=
      hl.of_same rfl rfl
    have next : ∀ u : State, Listed u rest rest → u.sp.loadList = rest → u.sp.load = none → LoaderOk u.beginLoad := by
      intro u hu hlist hload
      refine Listed.beginLoad ?_ hload
      rw [hlist]
      exact hu.fewer fun _ => List.mem_of_mem_drop
    simp only
    split
    · exact next _ (hs1.loadDone _) rfl rfl
    · exact next _ hs1.loadFailed rfl rfl

/-! ### Layer starts and stops (R39, R123, R124) -/

/-- R39: the load list after the queued ids that nobody waits on have left it. -/
def State.purged (s : State) : List Nat := s.sp.loadList.take 1 ++ (s.sp.loadList.drop 1).filter (waited s)

theorem mem_purged (s : State) (id : Nat) :
    id ∈ s.purged ↔ id ∈ s.sp.loadList ∧ (s.sp.loadList.head? = some id ∨ waited s id = true) := by
  unfold State.purged
  cases s.sp.loadList with
  | nil => simp
  | cons x xs =>
    simp only [List.take_succ_cons, List.take_zero, List.drop_succ_cons, List.drop_zero, List.cons_append, List.nil_append,
      List.mem_cons, List.mem_filter, List.head?_cons, Option.some.injEq]
    constructor
    · rintro (rfl | ⟨h, hw⟩)
      · exact ⟨.inl rfl, .inl rfl⟩
      · exact ⟨.inr h, .inr hw⟩
    · rintro ⟨rfl | h, h' | hw⟩
      · exact .inl rfl
      · exact .inl rfl
      · exact .inl h'.symm
      · exact .inr ⟨h, hw⟩

theorem purged_sublist (s : State) : List.Sublist s.purged s.sp.loadList := by
  have h := (List.filter_sublist (p := waited s) (l := s.sp.loadList.drop 1)).append_left (s.sp.loadList.take 1)
  rwa [List.take_append_drop] at h

theorem purged_drop (s : State) : s.purged.drop 1 = (s.sp.loadList.drop 1).filter (waited s) := by
  unfold State.purged
  cases s.sp.loadList <;> rfl

theorem purged_eq_nil (s : State) : s.purged = [] ↔ s.sp.loadList = [] := by
  unfold State.purged
  cases s.sp.loadList <;> simp

/-- R39: the purge of a list that is empty while no load is under way. -/
theorem State.purgeQueue_eq {s : State} (h : s.sp.load.isSome ↔ s.sp.loadList ≠ []) :
    s.purgeQueue = { s with sp := { s.sp with loadList := s.purged } } := by
  unfold State.purgeQueue State.purged
  cases hl : s.sp.load with
  | some l => rfl
  | none =>
    have hnil : s.sp.loadList = [] := by
      by_contra hne
      have := h.mpr hne
      rw [hl] at this
      cases this
    simp [hnil]

/-- R39: layers that wait on listed ids alone are brought back to agreement by a purge. -/
theorem Listed.purgeQueue {s : State} (h : Listed s s.sp.loadList []) (hc : s.sp.load.isSome ↔ s.sp.loadList ≠ []) :
    LoaderOk s.purgeQueue := by
  rw [State.purgeQueue_eq hc]
  refine (loaderOk_iff _).mpr ⟨⟨h.layers, h.nodup.sublist (purged_sublist s), fun id hid => ?_, fun l hl hload => ?_,
    h.entries, h.distinct, fun c hmem hin => h.apart c hmem ((purged_sublist s).mem hin), h.starts⟩, ?_⟩
  · have hin := purged_drop s ▸ hid
    exact (List.mem_filter.mp hin).2
  · exact (mem_purged s l.id).mpr ⟨h.loading l hl hload, .inr ((waited_iff s l.id).mpr ⟨l, hl, hload, rfl⟩)⟩
  · exact hc.trans (not_congr (purged_eq_nil s)).symm

/-- R124, R126: layers that change keep the agreement with the load list if none begins to wait. -/
theorem Listed.withLayers {s t : State} (h : LoaderOk s) (hlen : t.ru.layers.length = 3)
    (hload : ∀ l ∈ t.ru.layers, l.state = .loading → ∃ k ∈ s.ru.layers, k.state = .loading ∧ k.id = l.id)
    (hcache : t.ru.cache = s.ru.cache) (hcues : t.ru.cues = s.ru.cues) (htable : t.dr.table = s.dr.table) :
    Listed t s.sp.loadList [] := by
  obtain ⟨hl, -⟩ := (loaderOk_iff s).mp h
  refine ⟨hlen, hl.nodup, by simp, fun l hmem hw => ?_, by rw [hcache]; exact hl.entries,
    by rw [hcache]; exact hl.distinct, by rw [hcache]; exact hl.apart, by rw [StartsOk, hcues, htable]; exact hl.starts⟩
  obtain ⟨k, hk, hkl, hid⟩ := hload l hmem hw
  exact hid ▸ hl.loading k hk hkl

theorem stopLayers_keeps {s : State} (h : LoaderOk s) (p : Nat → Bool) : LoaderOk (s.stopLayers p) := by
  obtain ⟨hl, hc⟩ := (loaderOk_iff s).mp h
  refine Listed.purgeQueue (Listed.withLayers (s := s) h ((List.length_mapIdx ..).trans hl.layers) ?_ rfl rfl rfl) hc
  intro l hmem hload
  obtain ⟨n, hn, rfl⟩ := List.mem_mapIdx.mp hmem
  refine ⟨_, List.getElem_mem hn, ?_⟩
  split at hload
  · cases hload
  · rename_i hno
    rw [if_neg hno]
    exact ⟨hload, rfl⟩

/-- R125, R126: a tick sets no layer waiting and ends no wait. -/
theorem Layer.atTick_loading (l : Layer) :
    (l.atTick.state = .loading ↔ l.state = .loading) ∧ (l.state = .loading → l.atTick = l) := by
  unfold Layer.atTick
  by_cases hr : l.state = .running
  · have hadv : l.advance.1.state ≠ .loading := by
      unfold Layer.advance
      repeat' split
      all_goals simp [Layer.takeTick, Layer.stop, hr]
    rw [if_pos hr]
    simp [hadv, hr]
  · simp [hr]

theorem tickLayers_keeps {s t : State} (h : LoaderOk s) (hlayers : t.ru.layers = s.ru.layers.map Layer.atTick)
    (hcache : t.ru.cache = s.ru.cache) (hcues : t.ru.cues = s.ru.cues) (hsp : t.sp = s.sp) (hdr : t.dr = s.dr) :
    LoaderOk t := by
  obtain ⟨hl, hc⟩ := (loaderOk_iff s).mp h
  have hlisted : Listed t s.sp.loadList [] := by
    refine Listed.withLayers h (by rw [hlayers, List.length_map, hl.layers]) ?_ hcache hcues (by rw [hdr])
    intro l hmem hload
    rw [hlayers] at hmem
    obtain ⟨k, hk, rfl⟩ := List.mem_map.mp hmem
    have hkl := k.atTick_loading.1.mp hload
    exact ⟨k, hk, hkl, by rw [k.atTick_loading.2 hkl]⟩
  refine (loaderOk_iff t).mpr ⟨?_, by rw [hsp]; exact hc⟩
  rw [hsp]
  refine { hlisted with waited := fun id hid => ?_ }
  obtain ⟨k, hk, hkl, he⟩ := (waited_iff s id).mp (hl.waited id hid)
  refine (waited_iff t id).mpr ⟨k, ?_, hkl, he⟩
  rw [hlayers]
  exact List.mem_map.mpr ⟨k, hk, k.atTick_loading.2 hkl⟩

theorem mem_cacheTouch {cache : List Cached} {id : Nat} {c : Cached} (h : c ∈ cacheTouch cache id) : c ∈ cache := by
  unfold cacheTouch at h
  split at h
  · rename_i d hd
    rcases List.mem_cons.mp h with rfl | h
    · exact List.mem_of_find?_eq_some hd
    · exact (List.mem_filter.mp h).1
  · exact h

/-- R117: an entry moved to the front leaves the cache as large and its ids different. -/
theorem cacheTouch_ok {cache : List Cached} (hn : (cache.map (·.id)).Nodup) (id : Nat) :
    (cacheTouch cache id).length ≤ cache.length ∧ ((cacheTouch cache id).map (·.id)).Nodup := by
  unfold cacheTouch
  split
  · rename_i d hd
    have hdid : d.id = id := by simpa using List.find?_some hd
    have hmem := List.mem_of_find?_eq_some hd
    constructor
    · have hlt : (cache.filter fun c => c.id != id).length < cache.length :=
        List.length_filter_lt_length_iff_exists.mpr ⟨d, hmem, by simp [hdid]⟩
      exact hlt
    · rw [List.map_cons, List.nodup_cons]
      refine ⟨fun hin => ?_, hn.sublist (List.filter_sublist.map _)⟩
      obtain ⟨c, hc, he⟩ := List.mem_map.mp hin
      have := (List.mem_filter.mp hc).2
      simp [he, hdid] at this
  · exact ⟨le_refl _, hn⟩

/-- A cached id has no load to wait for. -/
theorem State.not_cached_of_load {s : State} {id : Nat} (h : s.findPattern id = .load) :
    ∀ c ∈ s.ru.cache, c.id ≠ id := by
  unfold State.findPattern at h
  split at h
  · split at h <;> cases h
  · split at h
    · cases h
    · rename_i hno
      intro c hc he
      have hnone : s.ru.cache.find? (fun c => c.id == id) = none := by simpa [State.cached] using hno
      simpa [he] using List.find?_eq_none.mp hnone c hc

/-- R123: a start on a record at hand keeps the agreement. -/
theorem startReady_keeps {s : State} (h : LoaderOk s) (n : Nat) {l : Layer} (hl : l.state = .running) :
    LoaderOk (s.setLayer n l).purgeQueue := by
  obtain ⟨hlist, hc⟩ := (loaderOk_iff s).mp h
  refine Listed.purgeQueue (s := s.setLayer n l)
    (Listed.withLayers (s := s) h ((List.length_set ..).trans hlist.layers) ?_ rfl rfl rfl) hc
  intro k hmem hload
  rcases List.mem_or_eq_of_mem_set hmem with hk | rfl
  · exact ⟨k, hk, hload, rfl⟩
  · rw [hl] at hload
    cases hload

/-- R117: moving an entry of the cache to the front keeps the agreement. -/
theorem touch_keeps {s : State} (h : LoaderOk s) (id : Nat) :
    LoaderOk { s with ru := { s.ru with cache := cacheTouch s.ru.cache id } } := by
  obtain ⟨hl, hc⟩ := (loaderOk_iff s).mp h
  obtain ⟨hlen, hnodup⟩ := cacheTouch_ok hl.distinct id
  exact (loaderOk_iff _).mpr ⟨⟨hl.layers, hl.nodup, hl.waited, hl.loading, hlen.trans hl.entries, hnodup,
    fun c hc => hl.apart c (mem_cacheTouch hc), hl.starts⟩, hc⟩

theorem State.mem_enqueue (s : State) (id i : Nat) : i ∈ (s.enqueue id).sp.loadList ↔ i ∈ s.sp.loadList ∨ i = id := by
  unfold State.enqueue
  split
  · rename_i hc
    have hin : id ∈ s.sp.loadList := by simpa using hc
    constructor
    · exact .inl
    · rintro (h | rfl)
      · exact h
      · exact hin
  · simp

/-- R39, R123: a start that waits for a load keeps the agreement. -/
theorem startWaiting_keeps {s : State} (h : LoaderOk s) {n id : Nat} (hn : n < 3) {l : Layer} (hl : l.state = .loading)
    (hid : l.id = id) (hcache : ∀ c ∈ s.ru.cache, c.id ≠ id) :
    LoaderOk ((s.setLayer n l).purgeQueue.enqueue id).beginLoad := by
  obtain ⟨hlist, hc⟩ := (loaderOk_iff s).mp h
  have hlen : n < s.ru.layers.length := by rw [hlist.layers]; exact hn
  let u := s.setLayer n l
  have hu : u.purgeQueue = { u with sp := { u.sp with loadList := u.purged } } := State.purgeQueue_eq hc
  have hwaited : waited u id = true := (waited_iff u id).mpr ⟨l, List.mem_set hlen l, hl, hid⟩
  let v := u.purgeQueue.enqueue id
  have hrest : v.ru = u.ru ∧ v.dr = s.dr ∧ v.sp.load = s.sp.load := by
    show (u.purgeQueue.enqueue id).ru = _ ∧ (u.purgeQueue.enqueue id).dr = _ ∧ (u.purgeQueue.enqueue id).sp.load = _
    rw [hu]
    unfold State.enqueue
    split <;> exact ⟨rfl, rfl, rfl⟩
  obtain ⟨hru, hdr, hload⟩ := hrest
  have hmem : ∀ i, i ∈ v.sp.loadList ↔ i ∈ u.purged ∨ i = id := by
    intro i
    show i ∈ (u.purgeQueue.enqueue id).sp.loadList ↔ _
    rw [State.mem_enqueue, hu]
  have hlisted : v.sp.loadList = u.purged ∨ id ∉ u.purged ∧ v.sp.loadList = u.purged ++ [id] := by
    show (u.purgeQueue.enqueue id).sp.loadList = _ ∨ _ ∧ (u.purgeQueue.enqueue id).sp.loadList = _
    rw [hu]
    unfold State.enqueue
    split
    · exact .inl rfl
    · rename_i hno
      exact .inr ⟨by simpa using hno, rfl⟩
  have hpurged : ∀ i ∈ u.purged.drop 1, waited u i = true := by
    intro i hi
    rw [purged_drop] at hi
    exact (List.mem_filter.mp hi).2
  have hv : Listed v v.sp.loadList (v.sp.loadList.drop 1) := by
    refine ⟨by rw [hru]; exact (List.length_set ..).trans hlist.layers, ?_, fun i hi => ?_, fun k hk hw => ?_,
      by rw [hru]; exact hlist.entries, by rw [hru]; exact hlist.distinct, fun c hcm => ?_,
      by rw [StartsOk, hru, hdr]; exact hlist.starts⟩
    · have hnodup : u.purged.Nodup := hlist.nodup.sublist (purged_sublist u)
      rcases hlisted with he | ⟨hnot, he⟩
      · rw [he]; exact hnodup
      · rw [he]
        exact List.nodup_append.mpr ⟨hnodup, by simp, fun a ha b hb => by
          rw [List.mem_singleton.mp hb]
          exact fun e => hnot (e ▸ ha)⟩
    · rw [waited, hru]
      rcases hlisted with he | ⟨-, he⟩
      · exact hpurged i (he ▸ hi)
      · rw [he, List.drop_append] at hi
        rcases List.mem_append.mp hi with hi | hi
        · exact hpurged i hi
        · rw [List.mem_singleton.mp (List.mem_of_mem_drop hi)]
          exact hwaited
    · rw [hru] at hk
      rw [hmem, mem_purged]
      rcases List.mem_or_eq_of_mem_set hk with hk' | rfl
      · exact .inl ⟨hlist.loading k hk' hw, .inr ((waited_iff u _).mpr ⟨k, hk, hw, rfl⟩)⟩
      · exact .inr hid
    · rw [hru] at hcm
      rw [hmem]
      rintro (hin | he)
      · exact hlist.apart c hcm ((purged_sublist u).mem hin)
      · exact hcache c hcm he
  show LoaderOk v.beginLoad
  cases hsl : s.sp.load with
  | none => exact hv.beginLoad (hload.trans hsl)
  | some l' =>
    have hstay : v.beginLoad = v := by
      unfold State.beginLoad
      rw [hload, hsl]
    rw [hstay]
    refine (loaderOk_iff v).mpr ⟨hv, ?_⟩
    rw [hload, hsl]
    have hne : v.sp.loadList ≠ [] := List.ne_nil_of_mem ((hmem id).mpr (.inr rfl))
    simp [hne]

/-- R123: a layer start keeps the agreement. -/
theorem startLayer_keeps {s : State} (h : LoaderOk s) {n : Nat} (hn : n < 3) (id priority scale : Nat) :
    LoaderOk (s.startLayer n id priority scale) := by
  cases hf : s.findPattern id with
  | missing =>
    rw [State.startLayer, hf]
    exact h
  | ready p =>
    unfold State.startLayer
    simp only [hf]
    have hr := startReady_keeps h n (l := ({ s.layer n with id := id, priority := priority, scale := scale } : Layer).run p)
      rfl
    split
    · exact touch_keeps hr id
    · exact hr
  | load =>
    rw [State.startLayer_of_load hf]
    exact startWaiting_keeps h hn rfl rfl (State.not_cached_of_load hf)

end Sys2Proof.Machine
end

section
/-! SUPPORT. What keeps an event sound: a format in its place (R184), the ring buffers bounded (R35), and the pattern
loader in agreement (R39, R117). Each of the three rests on a part of the state, so an operation keeps those whose part
it leaves. -/

namespace Sys2Proof.Machine

open Sys2Proof.Safety

/-! ### The parts -/

/-- What the place of a format rests on. -/
def State.placePart (s : State) : PowerState × Nat × Option FormatRun := (s.sb.power, s.sb.stage, s.sb.format)

/-- What the bound of the ring buffers rests on. -/
def State.ringPart (s : State) : List Voice × Option Fetch := (s.se.voices, s.sp.fetch)

/-- What the agreement of the pattern loader rests on. -/
def State.loaderPart (s : State) : List Layer × List Cached × List Cue × List Nat × Option Load × List Entry :=
  (s.ru.layers, s.ru.cache, s.ru.cues, s.sp.loadList, s.sp.load, s.dr.table)

/-- What `s` and `t` show of the three invariants: `t` keeps them if `s` has them. -/
structure Sound (s t : State) : Prop where
  placed : FormatPlaced s → FormatPlaced t
  rings : RingOk s → RingOk t
  loader : LoaderOk s → LoaderOk t

theorem formatPlaced_congr {s t : State} (h : t.placePart = s.placePart) (hs : FormatPlaced s) : FormatPlaced t := by
  simp only [State.placePart, Prod.mk.injEq] at h
  obtain ⟨hp, hst, hf⟩ := h
  rwa [FormatPlaced, hp, hst, hf]

theorem ringOk_congr {s t : State} (h : t.ringPart = s.ringPart) (hs : RingOk s) : RingOk t := by
  simp only [State.ringPart, Prod.mk.injEq] at h
  obtain ⟨hv, hf⟩ := h
  simpa only [RingOk, State.voice, hv, hf] using hs

theorem loaderOk_congr {s t : State} (h : t.loaderPart = s.loaderPart) (hs : LoaderOk s) : LoaderOk t := by
  simp only [State.loaderPart, Prod.mk.injEq] at h
  obtain ⟨h1, h2, h3, h4, h5, h6⟩ := h
  simpa only [LoaderOk, waited, h1, h2, h3, h4, h5, h6] using hs

namespace Sound

theorem refl (s : State) : Sound s s := ⟨id, id, id⟩

theorem trans {s t u : State} (h : Sound s t) (h' : Sound t u) : Sound s u :=
  ⟨h'.placed ∘ h.placed, h'.rings ∘ h.rings, h'.loader ∘ h.loader⟩

/-- A change of nothing that the invariants rest on. -/
theorem of_parts {s t : State} (hp : t.placePart = s.placePart := by rfl) (hr : t.ringPart = s.ringPart := by rfl)
    (hl : t.loaderPart = s.loaderPart := by rfl) : Sound s t :=
  ⟨formatPlaced_congr hp, ringOk_congr hr, loaderOk_congr hl⟩

/-- A change of power state, stage and format alone. -/
theorem of_place {s t : State} (h : FormatPlaced s → FormatPlaced t) (hr : t.ringPart = s.ringPart := by rfl)
    (hl : t.loaderPart = s.loaderPart := by rfl) : Sound s t := ⟨h, ringOk_congr hr, loaderOk_congr hl⟩

/-- A change of the voices and the fetch in flight alone. -/
theorem of_rings {s t : State} (h : RingOk s → RingOk t) (hp : t.placePart = s.placePart := by rfl)
    (hl : t.loaderPart = s.loaderPart := by rfl) : Sound s t := ⟨formatPlaced_congr hp, h, loaderOk_congr hl⟩

/-- A change of the Rumble Unit, the load list and the day table alone. -/
theorem of_loader {s t : State} (h : LoaderOk s → LoaderOk t) (hp : t.placePart = s.placePart := by rfl)
    (hr : t.ringPart = s.ringPart := by rfl) : Sound s t := ⟨formatPlaced_congr hp, ringOk_congr hr, h⟩

/-- What events and layer starts leave keeps the place of a format and the bound of the rings. -/
theorem of_works {s t : State} (h : BlockWork s t) (hl : LoaderOk s → LoaderOk t) : Sound s t := by
  obtain ⟨_, _, _, _, _, _, _, rfl⟩ := h.rest
  exact of_loader hl

/-! ### Flags, link and recomputed values -/

theorem report (s : State) : Sound s s.report := by rw [State.report_eq]; exact of_parts
theorem refresh (s : State) : Sound s s.refresh := of_parts
theorem withLp (s : State) (l : LinkPort) : Sound s { s with lp := l } := of_parts
theorem withPending (s : State) (q : List Instr) : Sound s { s with pending := q } := of_parts
theorem withAu (s : State) (a : Attention) : Sound s { s with au := a } := of_parts

/-- R158: a set raised, unless it is empty. -/
theorem raiseUnless (s : State) (p : Prop) [Decidable p] (m : Member) (merge : Details → Details) :
    Sound s (if p then s else s.raise m merge) := by
  split
  · exact refl s
  · exact of_parts

theorem endAwait (s : State) (fresh : MemberSet) : Sound s (s.endAwait fresh) := by
  obtain ⟨_, _, _, _, h⟩ := s.endAwait_rest fresh
  rw [h]
  exact of_parts

end Sound

/-! ### The passing of time -/

/-- R185: a format's writes leave the day table or empty it. -/
theorem State.formatWrites_table (s : State) (ws : List KeepWrite) :
    (ws.foldl State.formatWrite s).dr.table = s.dr.table ∨ (ws.foldl State.formatWrite s).dr.table = [] := by
  induction ws generalizing s with
  | nil => exact .inl rfl
  | cons w ws ih =>
    rw [List.foldl_cons]
    rcases ih (s.formatWrite w) with h | h
    · cases w with
      | days => exact .inr h
      | byte a b => exact .inl h
      | faces => exact .inl h
      | clock => exact .inl h
    · exact .inr h

/-- R184, R185: while time passes a format under way stays under way, and the day table stands or is emptied. -/
theorem State.elapse_format (s : State) (dt : Nat) :
    (s.elapse dt).sb.format.isSome = s.sb.format.isSome
      ∧ ((s.elapse dt).dr.table = s.dr.table ∨ (s.elapse dt).dr.table = []) := by
  have hwork : ∀ u : State, (u.workOn dt).sb = u.sb ∧ (u.workOn dt).dr = u.dr := by
    intro u
    unfold State.workOn
    split
    · exact ⟨rfl, rfl⟩
    · simp only
      split <;> exact ⟨rfl, rfl⟩
  have hformat : ∀ u : State, (u.formatOn dt).sb.format.isSome = u.sb.format.isSome
      ∧ ((u.formatOn dt).dr.table = u.dr.table ∨ (u.formatOn dt).dr.table = []) := by
    intro u
    unfold State.formatOn
    split
    · exact ⟨rfl, .inl rfl⟩
    · rename_i f hf
      split
      · exact ⟨rfl, .inl rfl⟩
      · exact ⟨by rw [hf]; rfl, State.formatWrites_table u _⟩
  obtain ⟨hsb, hdr⟩ := hwork { s with cu := s.cu.count s.now dt }
  have h := hformat (({ s with cu := s.cu.count s.now dt } : State).workOn dt)
  rw [hsb, hdr] at h
  exact h

/-- A day table that stands or is emptied takes no stored start out of range. -/
theorem startsOk_of_table {s t : State} (hcues : t.ru.cues = s.ru.cues) (ht : t.dr.table = s.dr.table ∨ t.dr.table = [])
    (h : StartsOk s) : StartsOk t := by
  refine ⟨by rw [hcues]; exact h.1, ?_⟩
  rcases ht with ht | ht <;> rw [ht]
  · exact h.2
  · simp

/-- The loader is in agreement with a day table whose stored starts name layers. -/
theorem loaderOk_of_starts {s t : State} (hru : t.ru = s.ru) (hsp : t.sp = s.sp) (hstarts : StartsOk s → StartsOk t)
    (h : LoaderOk s) : LoaderOk t := by
  obtain ⟨h1, h2, h3, h4, h5, h6, h7, h8, h9, h10, h11⟩ := h
  obtain ⟨h10', h11'⟩ := hstarts ⟨h10, h11⟩
  exact ⟨by rw [hru]; exact h1, by rw [hsp]; exact h2, by rw [hsp]; exact h3, by rw [hsp]; exact h4,
    by simpa only [waited, hru, hsp] using h5, by rw [hru, hsp]; exact h6, by rw [hru]; exact h7, by rw [hru]; exact h8,
    by rw [hru, hsp]; exact h9, h10', h11'⟩

/-- R43, R44: the abandoned mark leaves the bytes in flight. -/
theorem inFlight_abandonFetch (f : Option Fetch) (n : Nat) :
    inFlight (abandonFetch f) n = inFlight f n := by
  cases f <;> rfl

namespace Sound

theorem elapse (s : State) (dt : Nat) : Sound s (s.elapse dt) := by
  obtain ⟨hformat, htable⟩ := s.elapse_format dt
  obtain ⟨cu, sc, dr, keep, face, f, he⟩ := s.elapse_rest dt
  have hse : (s.elapse dt).se = s.se := by rw [he]
  have hsp : (s.elapse dt).sp = s.sp := by rw [he]
  have hru : (s.elapse dt).ru = s.ru := by rw [he]
  have hpower : (s.elapse dt).sb.power = s.sb.power ∧ (s.elapse dt).sb.stage = s.sb.stage := by
    rw [he]
    exact ⟨rfl, rfl⟩
  refine ⟨?_, ringOk_congr (by rw [State.ringPart, hse, hsp]; rfl),
    loaderOk_of_starts hru hsp (startsOk_of_table (by rw [hru]) htable)⟩
  rw [FormatPlaced, FormatPlaced, hformat, hpower.1, hpower.2]
  exact id

/-- R185, R186: the closing writes of a format. -/
theorem closeFormat (s : State) (k : FormatKind) : Sound s (s.closeFormat k) := by
  have htable : (s.closeFormat k).dr.table = s.dr.table ∨ (s.closeFormat k).dr.table = [] :=
    State.formatWrites_table s _
  have hru : (s.closeFormat k).ru = s.ru := by rw [State.closeFormat_eq]
  have hsp : (s.closeFormat k).sp = s.sp := by rw [State.closeFormat_eq]
  refine ⟨formatPlaced_congr ?_, ringOk_congr ?_, loaderOk_of_starts hru hsp (startsOk_of_table (by rw [hru]) htable)⟩
  all_goals rw [State.closeFormat_eq]; rfl

/-! ### Power states and stages -/

/-- R155: ACTIVE is entered with no format under way. -/
theorem enterActive {s : State} (h : FormatPlaced s → s.sb.format = none) : Sound s s.enterActive :=
  of_place fun hs hf => absurd (h hs) (Option.isSome_iff_ne_none.mp hf)

/-- R180: a stage of WAKING begins with no format under way. -/
theorem beginStage {s : State} (h : FormatPlaced s → s.sb.format = none) (n : Nat) : Sound s (s.beginStage n) :=
  of_place fun hs hf => absurd (h hs) (Option.isSome_iff_ne_none.mp hf)

/-- R144, R180: the active domain at its power-up values, with at most the fetch in flight kept as abandoned. -/
theorem powerUp {s t : State} (hf : t.sb.format = none) (hse : t.se = {})
    (hsp : ∃ f, t.sp = { fetch := f } ∧ ∀ n, inFlight f n ≤ inFlight s.sp.fetch n) (hru : t.ru = {})
    (hdr : t.dr.table = s.dr.table) : Sound s t := by
  obtain ⟨f, hsp, hle⟩ := hsp
  refine ⟨fun _ hsome => absurd hf (Option.isSome_iff_ne_none.mp hsome), fun hr => ?_, fun hl => ?_⟩
  · refine ⟨by rw [hse]; rfl, fun n hn => ?_⟩
    have hring : (t.voice n).ring = [] := by
      rw [State.voice, hse]
      have hn8 : n < 8 := List.mem_range.mp hn
      rw [List.getD_eq_getElem?_getD, List.getElem?_replicate, if_pos hn8]
      rfl
    rw [hring, hsp]
    exact (Nat.zero_add _).trans_le ((hle n).trans ((Nat.le_add_left _ _).trans (hr.2 n hn)))
  · obtain ⟨-, -, -, -, -, -, -, -, -, -, hstarts⟩ := hl
    refine ⟨by rw [hru]; rfl, ?_, ?_, ?_, ?_, ?_, ?_, ?_, ?_, ?_, by rw [hdr]; exact hstarts⟩
    all_goals simp [hsp, hru]

theorem enterKeep (s : State) : Sound s s.enterKeep :=
  powerUp rfl rfl ⟨none, rfl, fun _ => Nat.zero_le _⟩ rfl rfl

theorem enterWaking (s : State) : Sound s s.enterWaking := by
  unfold State.enterWaking
  simp only
  split <;> exact powerUp rfl rfl ⟨none, rfl, fun _ => Nat.zero_le _⟩ rfl rfl

theorem resetMade (s : State) : Sound s s.resetMade := by
  have hle : ∀ n, inFlight (abandonFetch s.sp.fetch) n ≤ inFlight s.sp.fetch n :=
    fun n => (inFlight_abandonFetch s.sp.fetch n).le
  unfold State.resetMade State.enterWaking
  simp only
  split <;> exact powerUp rfl rfl ⟨_, rfl, hle⟩ rfl rfl

end Sound
end Sys2Proof.Machine
end

section
/-! SUPPORT. The ring buffers (R35): what a grant, a fetch delivered, a mix block and the ends of uses leave of their
bound. -/

namespace Sys2Proof.Machine

open Sys2Proof.Safety

/-- R35: no voice gains bytes in its ring and in flight together. -/
theorem ringOk_of_le {s t : State} (hlen : t.se.voices.length = s.se.voices.length)
    (hle : ∀ n < s.se.voices.length, (t.voice n).ring.length + inFlight t.sp.fetch n
      ≤ (s.voice n).ring.length + inFlight s.sp.fetch n) (h : RingOk s) : RingOk t := by
  obtain ⟨h8, hr⟩ := h
  exact ⟨hlen.trans h8, fun n hn => (hle n (h8 ▸ List.mem_range.mp hn)).trans (hr n hn)⟩

/-- R35: voices of which none gains a byte, with the fetch in flight as it was. -/
theorem ringOk_of_shorter {s t : State} {f : Nat → Voice → Voice} (hv : t.se.voices = s.se.voices.mapIdx f)
    (hf : t.sp.fetch = s.sp.fetch) (hle : ∀ n v, (f n v).ring.length ≤ v.ring.length) (h : RingOk s) : RingOk t := by
  refine ringOk_of_le (by rw [hv, List.length_mapIdx]) (fun n hn => ?_) h
  have hn' : t.voice n = f n (s.voice n) := by
    rw [State.voice, hv]
    exact getD_mapIdx hn f
  rw [hf, hn']
  exact Nat.add_le_add_right (hle n _) _

/-! ### Grants (R34, R35) -/

/-- R35: what a grant asks for fits the free space of the voice's ring. -/
theorem State.grant_fetch (s : State) : s.grant.sp.fetch = s.sp.fetch
    ∨ ∀ n, inFlight s.grant.sp.fetch n ≤ (s.voice n).free := by
  have voice : ∀ m n, inFlight (s.grantVoice m).sp.fetch n ≤ (s.voice n).free := by
    intro m n
    show (if Requester.voice m = .voice n then min (s.voice m).wanted (s.voice m).free else 0) ≤ _
    split
    · rename_i he
      cases he
      exact Nat.min_le_right _ _
    · exact Nat.zero_le _
  have other : ∀ (f : Fetch) n, (∀ m, f.requester ≠ .voice m) → inFlight (some f) n ≤ (s.voice n).free := by
    intro f n hf
    rw [inFlight, if_neg (hf n)]
    exact Nat.zero_le _
  have hload : ∀ f, s.loaderFetch = some f → ∀ m, f.requester ≠ .voice m := by
    intro f hf m
    unfold State.loaderFetch at hf
    split at hf
    · split at hf
      · cases hf
        nofun
      · cases hf
    · cases hf
  have hread : ∀ f, s.readerFetch = some f → ∀ m, f.requester ≠ .voice m := by
    intro f hf m
    unfold State.readerFetch at hf
    simp only at hf
    split at hf
    · cases hf
      nofun
    · cases hf
  unfold State.grant
  cases hfetch : s.sp.fetch with
  | some f => exact .inl hfetch
  | none =>
    simp only
    cases s.sb.power with
    | active =>
      simp only
      cases s.pickVoice true with
      | some m => exact .inr (voice m)
      | none =>
        simp only
        cases hl : s.loaderFetch with
        | some f => exact .inr fun n => other f n (hload f hl)
        | none =>
          simp only
          cases s.pickVoice false with
          | some m => exact .inr (voice m)
          | none => exact .inl hfetch
    | waking =>
      simp only
      cases hr : s.readerFetch with
      | some f => exact .inr fun n => other f n (hread f hr)
      | none => exact .inl hfetch
    | keep => exact .inl hfetch
    | standby => exact .inl hfetch

/-- R35: the store's service keeps every ring with its bytes in flight within 128. -/
theorem serviceStore_rings {s : State} (h : RingOk s) : RingOk s.serviceStore := by
  obtain ⟨r, hr, -⟩ := s.serviceStore_voices
  obtain ⟨h8, hle⟩ := h
  have hring : ∀ n, (s.serviceStore.voice n).ring = (s.voice n).ring := fun n => by
    rw [← s.serviceStore_voice n]
  have hmarked : ∀ n, (s.markRequests.voice n).ring = (s.voice n).ring := by
    intro n
    simp only [State.voice, State.markRequests_voices, List.getD_eq_getElem?_getD, List.getElem?_mapIdx]
    cases s.se.voices[n]? <;> rfl
  have hfetch : s.serviceStore.sp.fetch = s.markRequests.grant.sp.fetch := rfl
  refine ⟨by rw [hr, List.length_mapIdx, h8], fun n hn => ?_⟩
  have hbound := hle n hn
  rw [hring, hfetch]
  rcases s.markRequests.grant_fetch with he | hfits
  · rw [he]
    exact hbound
  · have hfree := hfits n
    rw [Voice.free, hmarked] at hfree
    omega

/-! ### Fetches delivered (R36) -/

/-- R36: the bytes appended are no more than the fetch brought. -/
theorem Voice.length_take (v : Voice) (n : Nat) {data : List Byte} (h : data.length = n) :
    (v.take n data).ring.length ≤ v.ring.length + n := by
  have hring : (v.take n data).ring = v.ring ++ data.drop (min v.owed n) := rfl
  rw [hring, List.length_append, List.length_drop, h]
  omega

/-- R36, R37: a voice fetch delivered moves its bytes from in flight to the ring at most. -/
theorem deliverVoice_rings {s t : State} {f : Fetch} {n : Nat} {data : List Byte} (hf : s.sp.fetch = some f)
    (hr : f.requester = .voice n) (hd : data.length = f.size) (hv : t.se.voices = s.se.voices)
    (hnone : t.sp.fetch = none) (h : RingOk s) : RingOk (t.deliverVoice n f data) := by
  have hvoice : ∀ m, t.voice m = s.voice m := fun m => by rw [State.voice, hv]; rfl
  unfold State.deliverVoice
  simp only
  split
  · refine ringOk_of_le (s := s) (by rw [State.setVoice_se, List.length_set, hv]) (fun m hm => ?_) h
    have hset := t.voice_setVoice (n := n) (v := (t.voice n).take f.size data) (m := m)
    rw [State.setVoice_sp, hnone, hf]
    by_cases hn : n < t.se.voices.length
    · rw [hset hn]
      by_cases hmn : m = n
      · subst hmn
        rw [if_pos rfl, hvoice, inFlight, inFlight, if_pos hr]
        exact (s.voice m).length_take f.size hd
      · rw [if_neg hmn, hvoice]
        exact Nat.add_le_add_left (Nat.zero_le _) _
    · have hsame : (t.setVoice n ((t.voice n).take f.size data)).voice m = s.voice m := by
        rw [State.voice, State.setVoice_se, List.set_eq_of_length_le (Nat.le_of_not_lt hn)]
        exact hvoice m
      rw [hsame]
      exact Nat.add_le_add_left (Nat.zero_le _) _
  · refine ringOk_of_le (s := s) (by rw [hv]) (fun m _ => ?_) h
    rw [hvoice, hnone]
    exact Nat.add_le_add_left (Nat.zero_le _) _

/-! ### A mix block (R20 to R29) -/

theorem length_atBoundary (v : Voice) : (atBoundary v).ring.length ≤ v.ring.length := by
  rw [atBoundary_eq]
  split
  · exact Nat.zero_le _
  · exact le_refl _

theorem length_nextSample (v : Voice) : (nextSample v).ring.length ≤ v.ring.length := by
  unfold nextSample
  split
  · simp
  · exact le_refl _

theorem length_voicesAt_ring (voices : List Voice) (k : Nat) {n : Nat} (hn : n < voices.length) :
    ((voicesAt voices k).getD n {}).ring.length ≤ (voices.getD n {}).ring.length := by
  induction k with
  | zero => exact le_refl _
  | succ k ih =>
    rw [voicesAt_succ, getD_map (by rwa [length_voicesAt])]
    exact (length_nextSample _).trans ih

theorem length_atClose (f : Option Fetch) (n : Nat) (v : Voice) : (atClose f n v).ring.length ≤ v.ring.length := by
  unfold atClose
  split
  · exact le_refl _
  · split
    · exact Nat.zero_le _
    · exact le_refl _

/-- R35: a mix block adds no byte to a ring. -/
theorem closedVoices_rings {s t : State} (hv : t.se.voices = s.closedVoices) (hf : t.sp.fetch = s.sp.fetch)
    (h : RingOk s) : RingOk t := by
  refine ringOk_of_le (by rw [hv, s.length_closedVoices]) (fun n hn => ?_) h
  have hclosed : t.voice n = atClose s.sp.fetch n (s.samples.voices.getD n {}) := by
    rw [State.voice, hv, State.closedVoices]
    exact getD_mapIdx (by rw [s.samples_voices, length_voicesAt, List.length_map]; exact hn) _
  rw [hf, hclosed, s.samples_voices]
  refine Nat.add_le_add_right ((length_atClose _ _ _).trans ?_) _
  refine (length_voicesAt_ring _ 64 (by rwa [List.length_map])).trans ?_
  rw [getD_map hn]
  exact length_atBoundary _

end Sys2Proof.Machine
end

section
/-! SUPPORT. Stored starts (R98, R129): what the cues of a crossing report, the cues that lapse and the actions of a
firing pass keep of the loader's agreement. -/

namespace Sys2Proof.Machine

open Sys2Proof.Safety

/-! ### Cues (R132 to R134) -/

theorem starts_of_loaderOk {s : State} (h : LoaderOk s) : StartsOk s := by
  obtain ⟨-, -, -, -, -, -, -, -, -, hcues, htable⟩ := h
  exact ⟨hcues, htable⟩

/-- R129: every cue read names a layer. -/
theorem cue_layer {s : State} (h : StartsOk s) (n : Nat) : (s.cue n).layer < 3 := by
  rw [State.cue, List.getD_eq_getElem?_getD]
  cases hn : s.ru.cues[n]? with
  | none => exact Nat.zero_lt_succ 2
  | some c => exact h.1 c (List.mem_of_getElem? hn)

/-- Cue records that name layers keep the agreement. -/
theorem withCues_keeps {s : State} (h : LoaderOk s) {cs : List Cue} (hc : ∀ c ∈ cs, c.layer < 3) :
    LoaderOk (s.withCues cs) := by
  obtain ⟨h1, h2, h3, h4, h5, h6, h7, h8, h9, -, h11⟩ := h
  exact ⟨h1, h2, h3, h4, h5, h6, h7, h8, h9, hc, h11⟩

/-- A cue record that names a layer put in place of one keeps the agreement. -/
theorem setCue_keeps {s u : State} (h : LoaderOk u) (hs : StartsOk s) (n : Nat) {c : Cue} (hc : c.layer < 3) :
    LoaderOk (u.withCues (s.ru.cues.set n c)) := by
  refine withCues_keeps h fun d hd => ?_
  rcases List.mem_or_eq_of_mem_set hd with hd | rfl
  · exact hs.1 d hd
  · exact hc

theorem fireEffect_keeps {s : State} (h : LoaderOk s) {c : Cue} (hc : c.layer < 3) (n : Nat) :
    LoaderOk (s.fireEffect c n) := by
  unfold State.fireEffect
  cases s.startRefused c.layer c.pattern c.priority with
  | some _ => exact h
  | none => exact startLayer_keeps h hc c.pattern c.priority c.scale

theorem cueAt_keeps {s : State} (h : LoaderOk s) (x : Crossing) (n : Nat) : LoaderOk (State.cueAt x s n) := by
  have hlayer := cue_layer (starts_of_loaderOk h) n
  rw [State.cueAt_eq]
  refine setCue_keeps (s := s) ?_ (starts_of_loaderOk h) n ?_
  · split
    · exact fireEffect_keeps h hlayer n
    · exact h
  · unfold Cue.after
    repeat' split
    all_goals exact hlayer

/-- R132: a crossing report keeps the loader's agreement. -/
theorem takeReport_keeps {s : State} (h : LoaderOk s) (report : List Crossing) : LoaderOk (s.takeReport report) := by
  have cues : ∀ (x : Crossing) (ns : List Nat) (u : State), LoaderOk u → LoaderOk (ns.foldl (State.cueAt x) u) := by
    intro x ns
    induction ns with
    | nil => exact fun _ hu => hu
    | cons n ns ih => exact fun u hu => ih _ (cueAt_keeps hu x n)
  unfold State.takeReport
  induction report generalizing s with
  | nil => exact h
  | cons x xs ih => exact ih (cues x _ s h)

/-- R134: cues that lapse keep the loader's agreement. -/
theorem lapseCues_keeps {s : State} (h : LoaderOk s) (vs : BitVec 8) : LoaderOk (s.lapseCues vs) := by
  have one : ∀ (u : State) (n : Nat), LoaderOk u → LoaderOk (State.lapseCue vs u n) := by
    intro u n hu
    rw [State.lapseCue_eq]
    split
    · have hset : LoaderOk (u.withCues (u.ru.cues.set n (u.cue n).unarm)) :=
        setCue_keeps hu (starts_of_loaderOk hu) n (cue_layer (starts_of_loaderOk hu) n)
      exact loaderOk_congr rfl hset
    · exact hu
  have cues : ∀ (ns : List Nat) (u : State), LoaderOk u → LoaderOk (ns.foldl (State.lapseCue vs) u) := by
    intro ns
    induction ns with
    | nil => exact fun _ hu => hu
    | cons n ns ih => exact fun u hu => ih _ (one u n hu)
  unfold State.lapseCues
  exact cues _ s h

/-! ### Firing passes (R103 to R107) -/

/-- R98: the action of an entry names a layer. -/
abbrev ActionOk (e : Entry) : Prop := ∀ a ∈ e.action, a.layer < 3

/-- R103 to R105: a firing pass and a refill take every action, of an entry kept or handed over, from the table. -/
structure PassOut.Ok (o : PassOut) : Prop where
  table : ∀ e ∈ o.table, ActionOk e
  actions : ∀ x ∈ o.actions, x.2.layer < 3

theorem PassOut.Ok.keep {o : PassOut} (h : o.Ok) {e : Entry} (he : ActionOk e) (fired : List Fired) :
    PassOut.Ok { o with table := o.table ++ [e], fired := fired } := by
  refine ⟨fun d hd => ?_, h.actions⟩
  rcases List.mem_append.mp hd with hd | hd
  · exact h.table d hd
  · exact List.mem_singleton.mp hd ▸ he

theorem PassOut.Ok.visit {o : PassOut} (h : o.Ok) {e : Entry} (he : ActionOk e) (gOld gNew seconds : Nat) :
    (o.visit gOld gNew seconds e).Ok := by
  have hgather : ∀ f : Firing, ActionOk (e.gather f) := by
    intro f
    unfold Entry.gather
    split <;> exact he
  unfold PassOut.visit
  split
  · exact h.keep he _
  · rename_i f _
    split
    · exact h.keep (hgather f) _
    · split
      · constructor
        · show ∀ d ∈ (if e.kind.stays then o.table ++ [e] else o.table), ActionOk d
          split
          · exact (h.keep he o.fired).table
          · exact h.table
        · show ∀ x ∈ (match e.action with
            | some a => if f.late = 0 then o.actions ++ [(o.fired.length, a)] else o.actions
            | none => o.actions), x.2.layer < 3
          split
          · rename_i a ha
            split
            · intro x hx
              rcases List.mem_append.mp hx with hx | hx
              · exact h.actions x hx
              · exact List.mem_singleton.mp hx ▸ he a ha
            · exact h.actions
          · exact h.actions
      · exact h.keep (e := e.makeDue f) he _

theorem PassOut.Ok.refill {o : PassOut} (h : o.Ok) {e : Entry} (he : ActionOk e) (g seconds : Nat) :
    (o.refill g seconds e).Ok := by
  unfold PassOut.refill
  split
  · refine ⟨?_, h.actions⟩
    show ∀ d ∈ (if e.kind.stays then o.table ++ [{ e with due := false, accumulated := 0, latest := 0 }] else o.table),
      ActionOk d
    split
    · exact (h.keep (e := { e with due := false, accumulated := 0, latest := 0 }) he o.fired).table
    · exact h.table
  · exact h.keep he _

theorem PassOut.Ok.foldl {f : PassOut → Entry → PassOut} (hf : ∀ o e, PassOut.Ok o → ActionOk e → (f o e).Ok)
    (table : List Entry) (ht : ∀ e ∈ table, ActionOk e) {o : PassOut} (h : o.Ok) : (table.foldl f o).Ok := by
  induction table generalizing o with
  | nil => exact h
  | cons e es ih => exact ih (fun d hd => ht d (List.mem_cons_of_mem _ hd)) (hf o e h (ht e List.mem_cons_self))

/-- A day table whose actions name layers keeps the agreement. -/
theorem withTable_keeps {s t : State} (h : LoaderOk s) (hru : t.ru = s.ru) (hsp : t.sp = s.sp)
    (ht : ∀ e ∈ t.dr.table, ActionOk e) : LoaderOk t :=
  loaderOk_of_starts hru hsp (fun hs => ⟨by rw [hru]; exact hs.1, ht⟩) h

theorem refillFired_keeps {s : State} (h : LoaderOk s) : LoaderOk s.refillFired :=
  withTable_keeps h rfl rfl (PassOut.Ok.foldl (fun _ _ ho he => ho.refill he _ _) s.dr.table (starts_of_loaderOk h).2
    ⟨by simp, by simp⟩).table

/-- R107: one action handed over keeps what the rings and the place of a format rest on. -/
theorem runAction_parts (s : State) (x : Nat × Action) :
    (s.runAction x).placePart = s.placePart ∧ (s.runAction x).ringPart = s.ringPart := by
  unfold State.runAction
  split
  · exact ⟨rfl, rfl⟩
  · obtain ⟨_, _, _, _, _, _, h⟩ := (LayerWork.startLayer s x.2.layer x.2.pattern x.2.priority x.2.scale).rest
    rw [h]
    exact ⟨rfl, rfl⟩

theorem runAction_keeps {s : State} (h : LoaderOk s) {x : Nat × Action} (hx : x.2.layer < 3) :
    LoaderOk (s.runAction x) := by
  unfold State.runAction
  split
  · exact h
  · exact startLayer_keeps h hx x.2.pattern x.2.priority x.2.scale

/-- R107: the actions handed over, one after another. -/
theorem foldl_runAction (xs : List (Nat × Action)) (s : State) :
    ((xs.foldl State.runAction s).placePart = s.placePart ∧ (xs.foldl State.runAction s).ringPart = s.ringPart)
      ∧ ((∀ x ∈ xs, x.2.layer < 3) → LoaderOk s → LoaderOk (xs.foldl State.runAction s)) := by
  induction xs generalizing s with
  | nil => exact ⟨⟨rfl, rfl⟩, fun _ => id⟩
  | cons x xs ih =>
    obtain ⟨⟨hp, hr⟩, hl⟩ := ih (s.runAction x)
    obtain ⟨hp', hr'⟩ := runAction_parts s x
    exact ⟨⟨hp.trans hp', hr.trans hr'⟩, fun hx h => hl (fun y hy => hx y (List.mem_cons_of_mem _ hy))
      (runAction_keeps h (hx x List.mem_cons_self))⟩

/-- What firing passes and reckonings keep: the parts that the rings and the place of a format rest on, and the
loader's agreement. -/
structure DayWork (s t : State) : Prop where
  place : t.placePart = s.placePart
  rings : t.ringPart = s.ringPart
  loader : LoaderOk s → LoaderOk t

namespace DayWork

theorem refl (s : State) : DayWork s s := ⟨rfl, rfl, id⟩

theorem trans {s t u : State} (h : DayWork s t) (h' : DayWork t u) : DayWork s u :=
  ⟨h'.place.trans h.place, h'.rings.trans h.rings, h'.loader ∘ h.loader⟩

theorem sound {s t : State} (h : DayWork s t) : Sound s t :=
  ⟨formatPlaced_congr h.place, ringOk_congr h.rings, h.loader⟩

theorem of_parts {s t : State} (hp : t.placePart = s.placePart := by rfl) (hr : t.ringPart = s.ringPart := by rfl)
    (hl : t.loaderPart = s.loaderPart := by rfl) : DayWork s t := ⟨hp, hr, loaderOk_congr hl⟩

/-- R95, R103 to R107: a firing pass with its actions. -/
theorem fire (s : State) (gOld gNew : Nat) : DayWork s (s.fire gOld gNew) := by
  let o := firingPass gOld gNew s.cu.seconds s.dr.table s.dr.fired
  have ho : LoaderOk s → o.Ok := fun h =>
    PassOut.Ok.foldl (fun _ _ ho he => ho.visit he _ _ _) s.dr.table (starts_of_loaderOk h).2 ⟨by simp, by simp⟩
  let s' : State := { s with dr := { s.dr with table := o.table, fired := o.fired } }
  have htable : LoaderOk s → LoaderOk s' := fun h => withTable_keeps h rfl rfl (ho h).table
  obtain ⟨⟨hp, hr⟩, hl⟩ := foldl_runAction o.actions s'
  show DayWork s (if s.sb.power = .active then o.actions.foldl State.runAction s' else s')
  split
  · exact ⟨hp, hr, fun h => hl (ho h).actions (htable h)⟩
  · exact ⟨rfl, rfl, htable⟩

/-- R93, R94: the arithmetic of a reckoning leaves the table. -/
theorem withReckoned (s : State) (raw : Nat) (restart : Bool) (limit : Nat) :
    DayWork s { s with dr := (s.dr.reckon raw restart limit).1 } := by
  have htable : (s.dr.reckon raw restart limit).1.table = s.dr.table := by
    unfold DayReckoner.reckon
    repeat' split
    all_goals rfl
  exact ⟨rfl, rfl, fun h => withTable_keeps h rfl rfl (by rw [htable]; exact (starts_of_loaderOk h).2)⟩

theorem reckonNow (s : State) (c : Causes) (limit : Nat) : DayWork s (s.reckonNow c limit) := by
  have hpass := (withReckoned s s.rawDay (c.restart || !s.cu.valid) limit).trans
    (fire _ s.dr.g (s.dr.reckon s.rawDay (c.restart || !s.cu.valid) limit).1.g)
  have hturn : ∀ u : State, DayWork u (if 0 < (s.dr.reckon s.rawDay (c.restart || !s.cu.valid) limit).2 then
      u.raiseDayTurn (s.dr.reckon s.rawDay (c.restart || !s.cu.valid) limit).2 else u) := by
    intro u
    split
    · exact of_parts
    · exact refl u
  have hcell : ∀ u : State, DayWork u (if c.rollover then u.measureCell else u) := by
    intro u
    split
    · exact of_parts
    · exact refl u
  exact (hpass.trans (hturn _)).trans (hcell _)

theorem reckon (s : State) (c : Causes) (limit : Nat) : DayWork s (s.reckon c limit) := by
  unfold State.reckon
  split
  · exact of_parts
  · exact reckonNow s c limit

theorem runDeferred (s : State) : DayWork s s.runDeferred := by
  unfold State.runDeferred
  split
  · exact refl s
  · exact (of_parts (t := { s with dr := { s.dr with deferred := none } })).trans (reckonNow _ _ _)

theorem secondEvent (s : State) : DayWork s s.secondEvent := by
  unfold State.secondEvent
  split
  · exact reckon s _ _
  · split
    · exact refl s
    · exact fire s _ _

end DayWork

namespace Sound

theorem refillFired (s : State) : Sound s s.refillFired := of_loader refillFired_keeps

/-! ### Voices and cues -/

theorem lapseCues (s : State) (vs : BitVec 8) : Sound s (s.lapseCues vs) :=
  of_works (State.lapseCues_lapses s vs).works fun h => lapseCues_keeps h vs

theorem takeReport (s : State) (report : List Crossing) : Sound s (s.takeReport report) :=
  of_works (State.takeReport_works s report) fun h => takeReport_keeps h report

theorem mapVoices (s : State) {f : Nat → Voice → Voice} (hf : ∀ n v, (f n v).ring.length ≤ v.ring.length) :
    Sound s (s.mapVoices f) := of_rings (ringOk_of_shorter (f := f) rfl rfl hf)

theorem endVoices (s : State) (vs : BitVec 8) (event : Bool) : Sound s (s.endVoices vs event) := by
  have hend : ∀ n v, (if vs.getLsbD n then v.endUse else v : Voice).ring.length ≤ v.ring.length := by
    intro n v
    split
    · exact Nat.zero_le _
    · exact le_refl _
  have hraise : ∀ u : State, Sound u (if event then u.raiseVoiceEnd vs else u) := by
    intro u
    split
    · exact raiseUnless u _ _ _
    · exact refl u
  exact ((mapVoices s hend).trans (hraise _)).trans (lapseCues _ vs)

/-- A voice record put in place of one that had as many bytes in its ring. -/
theorem setVoice (s : State) (n : Nat) {v : Voice} (hv : v.ring.length ≤ (s.voice n).ring.length) :
    Sound s (s.setVoice n v) := by
  refine of_rings fun h => ringOk_of_le (s := s) (List.length_set ..) (fun m hm => ?_) h
  by_cases hn : n < s.se.voices.length
  · rw [State.voice_setVoice s hn]
    split
    · rename_i hmn
      rw [hmn]
      exact Nat.add_le_add_right hv _
    · exact le_refl _
  · have hsame : (s.setVoice n v).voice m = s.voice m := by
      rw [State.voice, State.setVoice_se, List.set_eq_of_length_le (Nat.le_of_not_lt hn)]
      rfl
    rw [hsame]
    exact le_refl _

/-- R19, R29, R132: the render event. -/
theorem render (s : State) : Sound s s.render := by
  have hplayed : Sound s s.played := by
    refine of_rings (fun h => closedVoices_rings (s := s) ?_ rfl h)
    show s.playedEngine.voices = _
    unfold State.playedEngine
    rw [SoundEngine.closeIdle_voices]
  have hevents : Sound s.played s.blockEvents :=
    of_works s.blockEvents_works fun h => by
      obtain ⟨_, _, he⟩ : ∃ l d, s.blockEvents = { s.played with au := { s.played.au with latch := l, details := d } } :=
        s.blockEvents_rest
      rw [he]
      exact h
  rw [State.render_eq]
  exact ((hplayed.trans hevents).trans (takeReport _ _)).trans (lapseCues _ _)

theorem serviceStore (s : State) : Sound s s.serviceStore := by
  refine ⟨formatPlaced_congr ?_, serviceStore_rings, loaderOk_congr ?_⟩
  all_goals rw [State.serviceStore_eq]; rfl

/-! ### Layers -/

theorem startLayer (s : State) {n : Nat} (hn : n < 3) (id priority scale : Nat) :
    Sound s (s.startLayer n id priority scale) :=
  of_works (LayerWork.startLayer s n id priority scale).works fun h => startLayer_keeps h hn id priority scale

theorem stopLayers (s : State) (p : Nat → Bool) : Sound s (s.stopLayers p) := of_loader fun h => stopLayers_keeps h p

theorem tickLayers (s : State) : Sound s s.tickLayers := by
  have hmap : Sound s (s.mapLayers fun _ l => l.atTick) :=
    of_loader fun h => tickLayers_keeps h (mapIdx_placeless _ _) rfl rfl rfl rfl
  exact hmap.trans (raiseUnless _ _ _ _)

theorem endLoad (s : State) (l : Load) : Sound s (s.endLoad l) := by
  have hwork : LayerWork s (s.endLoad l) := by
    unfold State.endLoad
    split
    · exact LayerWork.refl s
    · simp only
      have h1 : ∀ (rest : List Nat), LayerWork s { s with sp := { s.sp with loadList := rest, load := none } } :=
        fun _ => ⟨⟨_, _, _, _, _, _, rfl⟩, fun _ _ => rfl⟩
      have hdone : ∀ (u : State) (id : Nat) (p : Pattern), LayerWork u (u.loadDone id p) :=
        fun _ _ _ => ⟨⟨_, _, _, _, _, _, rfl⟩, fun _ _ => rfl⟩
      split
      · exact ((h1 _).trans (hdone _ _ _)).trans (LayerWork.beginLoad _)
      · exact ((h1 _).trans (LayerWork.loadFailed _ _)).trans (LayerWork.beginLoad _)
  exact of_works hwork.works fun h => endLoad_keeps h l

end Sound
end Sys2Proof.Machine
end

section
/-! SUPPORT. The requests (R153, R176): what the service of each kind keeps sound. -/

namespace Sys2Proof.Machine

open Sys2Proof.Safety Sys2Proof.Proofs

/-! ### Where a format can be (R184) -/

theorem format_none_of_power {s : State} (hp : s.sb.power ≠ .waking) (h : FormatPlaced s) : s.sb.format = none := by
  by_contra hf
  exact hp (h (Option.isSome_iff_ne_none.mpr hf)).1

theorem format_none_of_stage {s : State} {n : Nat} (hst : s.sb.stage = n) (hn : n ≠ 5) (h : FormatPlaced s) :
    s.sb.format = none := by
  by_contra hf
  exact hn (hst.symm.trans (h (Option.isSome_iff_ne_none.mpr hf)).2)

/-! ### Services -/

/-- What a service leaves is sound, served outside WAKING. -/
def KeepsSound (svc : Service) : Prop := ∀ p s, s.sb.power ≠ .waking → Sound s (svc p s).1

theorem keepsSound_of_reads {svc : Service} (h : ReadsOnly svc) : KeepsSound svc := by
  intro p s _
  obtain ⟨_, _, he⟩ := h p s
  rw [he]
  exact Sound.refl s

theorem serveResetActive_keeps : KeepsSound serveResetActive := fun _ _ _ => Sound.of_parts

theorem serveWatchSet_keeps (members : Triple) : KeepsSound (serveWatchSet members) := by
  intro p s _
  unfold serveWatchSet
  split
  · exact Sound.refl s
  · exact Sound.of_parts

theorem serveReasonsGroups_keeps (groups : Byte) : KeepsSound (serveReasonsGroups groups) := by
  intro p s _
  unfold serveReasonsGroups
  split
  · exact Sound.refl s
  · exact Sound.of_parts

theorem serveAwait_keeps (h : ReqHead) (members : Triple) (limit : Half) : KeepsSound (serveAwait h members limit) := by
  intro p s _
  unfold serveAwait
  split
  · exact Sound.refl s
  · simp only
    split <;> exact Sound.of_parts

/-- R7: a voice taken for a new sound has an empty ring. -/
theorem serveVoiceStart_keeps (f : VoiceStartFields) : KeepsSound (serveVoiceStart f) := by
  intro p s _
  unfold serveVoiceStart
  split
  · exact Sound.refl s
  · split
    · exact Sound.refl s
    · rename_i n _
      have hended : Sound s (if (s.voice n).busy then s.endVoices (single n) false else s) := by
        split
        · exact Sound.endVoices s _ _
        · exact Sound.refl s
      exact (hended.trans (Sound.setVoice _ n (Nat.zero_le _))).trans Sound.of_parts

theorem serveVoiceAdjust_keeps (f : VoiceAdjustFields) : KeepsSound (serveVoiceAdjust f) := by
  intro p s _
  unfold serveVoiceAdjust
  simp only
  split
  · exact Sound.refl s
  · exact Sound.setVoice s _ (le_refl _)

theorem serveVoiceStop_keeps (voice : Byte) (generation : Half) (mode : Byte) (ramp : Half) :
    KeepsSound (serveVoiceStop voice generation mode ramp) := by
  intro p s _
  have hrelease : ∀ vs : BitVec 8, ∀ (n : Nat) (v : Voice),
      (if vs.getLsbD n then v.release ramp.toNat else v : Voice).ring.length ≤ v.ring.length := by
    intro vs n v
    unfold Voice.release
    repeat' split
    all_goals exact le_refl _
  unfold serveVoiceStop
  split
  · exact Sound.refl s
  · show Sound s (if mode = 0 then s.endVoices (s.stopSet voice) false else s.releaseVoices (s.stopSet voice) ramp.toNat)
    split
    · exact Sound.endVoices s _ _
    · exact (Sound.mapVoices s (hrelease _)).trans (Sound.endVoices _ _ _)

theorem serveMixSet_keeps (gain : Half) (hold : Byte) : KeepsSound (serveMixSet gain hold) := by
  intro p s _
  unfold serveMixSet
  split
  · exact Sound.refl s
  · exact Sound.of_parts

theorem serveSlotOpen_keeps (slot seed : Byte) : KeepsSound (serveSlotOpen slot seed) := by
  intro p s _
  unfold serveSlotOpen
  split
  · exact Sound.refl s
  · show Sound s (if s.seedExtent slot seed = 0 then s.setOpen (some slot.toNat) 0
      else (s.setOpen (some slot.toNat) 0).setOp (some (seedOp slot.toNat (s.seedExtent slot seed) s.now)))
    split <;> exact Sound.of_parts

theorem serveSlotWrite_keeps (slot : Byte) (offset : Half) (count : Byte) (data : List Byte) :
    KeepsSound (serveSlotWrite slot offset count data) := by
  intro p s _
  unfold serveSlotWrite
  split
  · exact Sound.refl s
  · exact Sound.of_parts

theorem serveSlotCommit_keeps (slot : Byte) (length crc : Half) : KeepsSound (serveSlotCommit slot length crc) := by
  intro p s _
  have hverify : ∀ (u : State) (op : KeepOp), Sound u (u.endVerify op) := by
    intro u op
    unfold State.endVerify
    split <;> exact Sound.of_parts
  unfold serveSlotCommit
  split
  · exact Sound.refl s
  · let op := commitOp slot.toNat length crc s.now
    have hop : Sound s (s.setOp (some op)) := Sound.of_parts
    show Sound s (if length = 0 then (s.setOp (some op)).endVerify op else s.setOp (some op))
    split
    · exact hop.trans (hverify _ _)
    · exact hop

theorem serveSlotErase_keeps (slot : Byte) : KeepsSound (serveSlotErase slot) := by
  intro p s _
  unfold serveSlotErase
  split
  · exact Sound.refl s
  · exact Sound.of_parts

theorem serveSlotAbort_keeps (slot : Byte) : KeepsSound (serveSlotAbort slot) := by
  intro p s _
  unfold serveSlotAbort
  split
  · exact Sound.refl s
  · exact Sound.of_parts

/-- R84: a rewind recorded. -/
theorem recordRewind_sound (s : State) (old : Nat) : Sound s (s.recordRewind old) := by
  unfold State.recordRewind
  split
  · exact Sound.of_parts
  · exact Sound.refl s

theorem serveClockSet_keeps (year : Half) (month day hour minute second : Byte) :
    KeepsSound (serveClockSet year month day hour minute second) := by
  intro p s _
  have hset : ∀ seconds, Sound s (({ s with cu := s.cu.set seconds } : State).recordRewind s.cu.seconds) :=
    fun seconds => (Sound.of_parts (t := { s with cu := s.cu.set seconds })).trans (recordRewind_sound _ _)
  unfold serveClockSet
  split
  · exact Sound.refl s
  · split
    · exact Sound.refl s
    · simp only
      split
      · exact (hset _).trans (DayWork.reckon _ _ _).sound
      · exact (hset _).trans (DayWork.reckon _ _ _).sound

theorem serveClockNudge_keeps (amount : Half) : KeepsSound (serveClockNudge amount) := by
  intro p s _
  unfold serveClockNudge
  split
  · exact Sound.refl s
  · split
    · exact Sound.refl s
    · have hmoved : Sound s { s with cu := { s.cu with seconds := nudged s.cu.seconds amount.toInt } } := Sound.of_parts
      exact (hmoved.trans (recordRewind_sound _ _)).trans (DayWork.reckon _ _ _).sound

theorem serveClockTrim_keeps (value : Half) : KeepsSound (serveClockTrim value) := fun _ _ _ => Sound.of_parts

/-- R100: an entry put in the table is the new one or one that stood there. -/
theorem mem_insertEntry {e x : Entry} {table : List Entry} (h : x ∈ insertEntry e table) : x = e ∨ x ∈ table := by
  induction table with
  | nil => exact .inl (List.mem_singleton.mp h)
  | cons y ys ih =>
    unfold insertEntry at h
    split at h
    · rcases List.mem_cons.mp h with h | h
      · exact .inl h
      · exact .inr (List.mem_cons_of_mem _ h)
    · split at h
      · exact List.mem_cons.mp h
      · rcases List.mem_cons.mp h with h | h
        · exact .inr (h ▸ List.mem_cons_self)
        · exact (ih h).imp id (List.mem_cons_of_mem _)

/-- R99: an entry that passes its checks has an action that names a layer. -/
theorem newEntry_actionOk {s : State} {f : EntryFields} {k : EntryKind} (h : s.entryRefused f k = none) :
    ActionOk (newEntry f k) := by
  intro a ha
  have hpresent : f.actionPresent = 1 := by
    by_contra hne
    simp only [newEntry, if_neg hne] at ha
    cases ha
  have hbad : actionBad f.pattern f.layer f.priority = false := by
    by_contra hb
    unfold State.entryRefused at h
    rw [if_pos (by simp [hpresent, hb])] at h
    cases h
  simp only [newEntry, hpresent, if_true, Option.mem_def, Option.some.injEq] at ha
  subst ha
  simp only [actionBad, Bool.or_eq_false_iff, decide_eq_false_iff_not] at hbad
  exact Nat.lt_succ_of_le (Nat.le_of_not_lt hbad.1.2)

theorem serveEntryAdd_keeps (f : EntryFields) : KeepsSound (serveEntryAdd f) := by
  intro p s _
  unfold serveEntryAdd
  split
  · exact Sound.refl s
  · split
    · exact Sound.refl s
    · split
      · exact Sound.refl s
      · rename_i hok
        refine Sound.of_loader fun h => withTable_keeps h rfl rfl fun e he => ?_
        rcases mem_insertEntry he with rfl | he
        · exact newEntry_actionOk hok
        · exact (starts_of_loaderOk h).2 e he

theorem serveEntryDrop_keeps (id : Byte) : KeepsSound (serveEntryDrop id) := by
  intro p s _
  unfold serveEntryDrop
  split
  · exact Sound.refl s
  · split
    · exact Sound.refl s
    · split
      · exact Sound.refl s
      · exact Sound.of_loader fun h => withTable_keeps h rfl rfl fun e he =>
          (starts_of_loaderOk h).2 e (List.mem_filter.mp he).1

theorem serveFiredTake_keeps (count : Byte) : KeepsSound (serveFiredTake count) := by
  intro p s _
  unfold serveFiredTake
  split
  · exact Sound.refl s
  · split
    · exact Sound.refl s
    · exact (Sound.of_parts (t := s.dropFired count.toNat)).trans (Sound.refillFired _)

theorem servePatternDefine_keeps (f : PatternFields) : KeepsSound (servePatternDefine f) := by
  intro p s _
  unfold servePatternDefine
  split
  · exact Sound.refl s
  · exact Sound.of_parts

/-- R122: an accepted RUMBLE-PLAY names a layer. -/
theorem serveRumblePlay_keeps (layer pattern priority scale : Byte) :
    KeepsSound (serveRumblePlay layer pattern priority scale) := by
  intro p s _
  unfold serveRumblePlay
  split
  · exact Sound.refl s
  · rename_i hok
    have hlayer : layer.toNat < 3 := by
      by_contra hl
      rw [State.playRefused, if_pos (.inl (by omega))] at hok
      cases hok
    exact Sound.startLayer s hlayer _ _ _

theorem serveRumbleStop_keeps (layer : Byte) : KeepsSound (serveRumbleStop layer) := by
  intro p s _
  unfold serveRumbleStop
  split
  · exact Sound.refl s
  · exact Sound.stopLayers s _

/-- R130: an accepted CUE-ARM names a layer. -/
theorem serveCueArm_keeps (f : CueFields) : KeepsSound (serveCueArm f) := by
  intro p s _
  unfold serveCueArm
  split
  · exact Sound.refl s
  · rename_i hok
    have hlayer : f.layer.toNat < 3 := by
      by_contra hl
      rw [State.armRefused, if_pos (by simp [show 2 < f.layer.toNat by omega])] at hok
      cases hok
    exact Sound.of_loader fun h => setCue_keeps h (starts_of_loaderOk h) _ hlayer

/-- R131: a cue made UNARMED keeps the layer of its start. -/
theorem disarm_sound (s : State) (p : Nat → Bool) : Sound s (s.disarm p) := by
  refine Sound.of_loader fun h => withCues_keeps h fun c hc => ?_
  obtain ⟨n, hn, rfl⟩ := List.mem_mapIdx.mp hc
  have hmem := (starts_of_loaderOk h).1 _ (List.getElem_mem hn)
  split <;> exact hmem

theorem serveCueDisarm_keeps (cue : Byte) : KeepsSound (serveCueDisarm cue) := by
  intro p s _
  unfold serveCueDisarm
  split
  · exact Sound.refl s
  · exact disarm_sound s _

/-- R39, R137: with every layer stopped the load list can be emptied. -/
theorem emptyLoader_keeps {s t : State} (h : LoaderOk s) (hstill : ∀ l ∈ s.ru.layers, l.state ≠ .loading)
    (hru : t.ru = s.ru) (hdr : t.dr = s.dr) (hlist : t.sp.loadList = []) (hload : t.sp.load = none) : LoaderOk t := by
  obtain ⟨hl, -⟩ := (loaderOk_iff s).mp h
  have ht := hl.of_same hru hdr
  refine (loaderOk_iff t).mpr ⟨?_, by rw [hload, hlist]; simp⟩
  rw [hlist]
  refine ⟨ht.layers, List.nodup_nil, by simp, fun l hmem hload => ?_, ht.entries, ht.distinct, by simp, ht.starts⟩
  rw [hru] at hmem
  exact absurd hload (hstill l hmem)

theorem stopped_not_loading (l : Layer) : (if true && l.busy then l.stop else l : Layer).state ≠ .loading := by
  split
  · nofun
  · rename_i hb
    intro hload
    simp [Layer.busy, hload] at hb

/-- R152: the entry to STANDBY, from any other state than WAKING. -/
theorem enterStandby_sound {s : State} (hp : s.sb.power ≠ .waking) : Sound s s.enterStandby := by
  have hend : ∀ (n : Nat) (v : Voice), (if v.busy then v.endUse else v : Voice).ring.length ≤ v.ring.length := by
    intro n v
    split
    · exact Nat.zero_le _
    · exact le_refl _
  let u := ((s.mapVoices fun _ v => if v.busy then v.endUse else v).stopLayers fun _ => true).disarm fun _ => true
  have hu : Sound s u := ((Sound.mapVoices s hend).trans (Sound.stopLayers _ _)).trans (disarm_sound _ _)
  have hstill : ∀ l ∈ u.ru.layers, l.state ≠ .loading := by
    intro l hl
    obtain ⟨n, hn, rfl⟩ := List.mem_mapIdx.mp hl
    exact stopped_not_loading _
  refine ⟨fun h hsome => ?_, fun h => ?_, fun h => emptyLoader_keeps (hu.loader h) hstill rfl rfl rfl rfl⟩
  · exact absurd (format_none_of_power hp h) (Option.isSome_iff_ne_none.mp hsome)
  · refine ringOk_of_le (s := u) rfl (fun n _ => ?_) (hu.rings h)
    exact Nat.add_le_add_left (inFlight_abandonFetch _ _).le _

theorem serveStandbyEnter_keeps : KeepsSound serveStandbyEnter := fun _ _ hp => enterStandby_sound hp

/-- The service of every request keeps what it is served on sound. -/
theorem serviceOf_keeps {c : Instr} {svc : Service} (h : serviceOf c = some svc) : KeepsSound svc := by
  cases c <;> simp only [serviceOf, Option.some.injEq, reduceCtorEq] at h <;> subst h
  case hello => exact keepsSound_of_reads serveHello_reads
  case resetActive => exact serveResetActive_keeps
  case watchSet => exact serveWatchSet_keeps _
  case watchRead => exact keepsSound_of_reads serveWatchRead_reads
  case reasonsTakeGroups => exact serveReasonsGroups_keeps _
  case reasonsTakeSummary => exact keepsSound_of_reads (serveReasonsSummary_reads _)
  case await => exact serveAwait_keeps _ _ _
  case voiceStart => exact serveVoiceStart_keeps _
  case voiceAdjust => exact serveVoiceAdjust_keeps _
  case voiceStopImmediate => exact serveVoiceStop_keeps _ _ _ _
  case voiceStopRelease => exact serveVoiceStop_keeps _ _ _ _
  case voiceQuery => exact keepsSound_of_reads (serveVoiceQuery_reads _)
  case mixSet => exact serveMixSet_keeps _ _
  case slotOpen => exact serveSlotOpen_keeps _ _
  case slotWrite => exact serveSlotWrite_keeps _ _ _ _
  case slotCommit => exact serveSlotCommit_keeps _ _ _
  case slotErase => exact serveSlotErase_keeps _
  case slotAbort => exact serveSlotAbort_keeps _
  case slotRead => exact keepsSound_of_reads (serveSlotRead_reads _ _ _ _)
  case slotList => exact keepsSound_of_reads serveSlotList_reads
  case clockRead => exact keepsSound_of_reads serveClockRead_reads
  case clockSet => exact serveClockSet_keeps _ _ _ _ _ _
  case clockNudge => exact serveClockNudge_keeps _
  case clockTrim => exact serveClockTrim_keeps _
  case entryAdd => exact serveEntryAdd_keeps _
  case entryDrop => exact serveEntryDrop_keeps _
  case entryList => exact keepsSound_of_reads (serveEntryList_reads _)
  case firedTake => exact serveFiredTake_keeps _
  case daysRead => exact keepsSound_of_reads serveDaysRead_reads
  case patternDefine => exact servePatternDefine_keeps _
  case rumblePlay => exact serveRumblePlay_keeps _ _ _ _
  case rumbleStop => exact serveRumbleStop_keeps _
  case rumbleQuery => exact keepsSound_of_reads serveRumbleQuery_reads
  case cueArm => exact serveCueArm_keeps _
  case cueDisarm => exact serveCueDisarm_keeps _
  case standbyEnter => exact serveStandbyEnter_keeps
  case budgetRead => exact keepsSound_of_reads serveBudgetRead_reads

end Sys2Proof.Machine
end

section
/-! SUPPORT. What a step can do, said once: its event changes the Link Port alone or is closed, and it keeps a format in
its place, the ring buffers bounded and the pattern loader in agreement. -/

namespace Sys2Proof.Machine

open Sys2Proof.Safety Sys2Proof.Proofs

/-- R34, R148, R159: an event changes nothing but the Link Port, or it is closed with nothing left to report. -/
def Ends (s t : State) : Prop := (∃ l, t = { s with lp := l }) ∨ ∃ u : State, u.report = u ∧ t = u.serviceStore.refresh

/-- An event that is closed, or none, and keeps the part sound. -/
structure EventKeeps (s t : State) : Prop where
  ends : Ends s t
  sound : Sound s t

/-! ### The close of an event -/

/-- R154: a wake leaves STANDBY, where no format is under way. -/
theorem Sound.wakeBy (s : State) (fresh : MemberSet) : Sound s (s.wakeBy fresh) := by
  unfold State.wakeBy
  split
  · rename_i hw
    have hactive : Sound s s.enterActive := Sound.enterActive (format_none_of_power (by rw [hw.1]; decide))
    exact hactive.trans (Sound.withAu _ _)
  · exact Sound.refl s

theorem Sound.attend (s0 s : State) : Sound s (State.attend s0 s) :=
  ((Sound.report s).trans (Sound.wakeBy _ _)).trans (Sound.endAwait _ _)

namespace EventKeeps

theorem none (s : State) : EventKeeps s s := ⟨.inl ⟨s.lp, rfl⟩, Sound.refl s⟩

theorem link (s : State) (l : LinkPort) : EventKeeps s { s with lp := l } := ⟨.inl ⟨l, rfl⟩, Sound.withLp s l⟩

theorem close {s u : State} (h : Sound s u) (hr : u.report = u) : EventKeeps s u.serviceStore.refresh :=
  ⟨.inr ⟨u, hr, rfl⟩, (h.trans (Sound.serviceStore u)).trans (Sound.refresh _)⟩

theorem conclude {s u : State} (s0 : State) (h : Sound s u) : EventKeeps s (State.conclude s0 u) :=
  close (h.trans (Sound.attend s0 u)) (State.attend_reported s0 u)

theorem concludeRequest {s u : State} (h : Sound s u) : EventKeeps s u.concludeRequest :=
  close (h.trans (Sound.report u)) u.report_report

/-- An event taken where its condition holds. -/
theorem whenever {s t : State} {p : Prop} [Decidable p] (h : p → EventKeeps s t) : EventKeeps s (if p then t else s) := by
  split
  · rename_i hp
    exact h hp
  · exact none s

end EventKeeps

/-! ### Requests (R153, R174, R176, R179) -/

/-- R176: the arrival of a frame, which leaves STANDBY for ACTIVE. -/
theorem Sound.arrive (s : State) : Sound s s.arrive := by
  let s1 := if s.sb.power = .standby then s.enterActive else s
  have h1 : Sound s s1 := by
    show Sound s (if s.sb.power = .standby then s.enterActive else s)
    split
    · rename_i hp
      exact Sound.enterActive (format_none_of_power (by rw [hp]; decide))
    · exact Sound.refl s
  unfold State.arrive
  simp only
  split
  · exact ((h1.trans (Sound.withLp _ _)).trans (Sound.report _)).trans (Sound.refresh _)
  · exact ((h1.trans Sound.of_parts).trans (Sound.report _)).trans (Sound.refresh _)

/-- R153: no frame's arrival enters WAKING. -/
theorem State.arrive_power {s : State} (h : s.sb.power ≠ .waking) : s.arrive.sb.power ≠ .waking := by
  have hwake : (if s.sb.power = .standby then s.enterActive else s).sb.power ≠ .waking := by
    split
    · nofun
    · exact h
  unfold State.arrive
  simp only
  split
  all_goals
    rw [State.refresh_power, State.report_sb]
    exact hwake

theorem Sound.answer {s : State} (kind tag : Byte) (extra : Bool) {r : State × Option Reply} (h : Sound s r.1) :
    Sound s (State.answer kind tag extra r) := by
  unfold State.answer
  split
  · exact h.trans Sound.of_parts
  · exact h

/-- R179: a pending reset made. -/
theorem resetMade_reported (s : State) : s.resetMade.report = s.resetMade := by
  unfold State.resetMade State.enterWaking
  simp only
  split <;> rfl

theorem complete_keeps (s : State) {kind : Byte} (tag : Byte) (extra : Bool) {svc : Service} (h : KeepsSound svc)
    (hk : kind = Kind.hello → svc = serveHello) : EventKeeps s (s.complete kind tag extra svc) := by
  have hserved : Sound s.arrive (readied kind svc s.sb.power s.arrive).1 := by
    unfold readied
    split
    · exact Sound.refl _
    · rename_i hp
      by_cases hw : s.sb.power = .waking
      · have hello : kind = Kind.hello := by
          by_contra hne
          exact hp ⟨hw, hne⟩
        rw [hk hello]
        exact Sound.refl _
      · exact h _ _ (State.arrive_power hw)
  unfold State.complete
  split
  · exact EventKeeps.none s
  · split
    · exact EventKeeps.close (Sound.resetMade s) (resetMade_reported s)
    · exact EventKeeps.concludeRequest ((Sound.arrive s).trans (Sound.answer kind tag extra hserved))

/-- R176: a request command is the completion of its kind's frame, served as its kind is. -/
theorem exec_of_service {c : Instr} {svc : Service} (hc : serviceOf c = some svc) :
    ∃ h k, (k = Kind.hello → svc = serveHello) ∧ ∀ s, exec c s = request h k svc s := by
  cases c <;> cases hc
  case hello => exact ⟨_, _, fun _ => rfl, fun _ => rfl⟩
  all_goals exact ⟨_, _, fun e => absurd e (by decide), fun _ => rfl⟩

theorem exec_request_keeps {c : Instr} {svc : Service} (hc : serviceOf c = some svc) {s t : State}
    (ht : exec c s = .next t) : EventKeeps s t := by
  obtain ⟨h, k, hk, he⟩ := exec_of_service hc
  rw [he] at ht
  cases ht
  exact complete_keeps s h.tag h.extra (serviceOf_keeps hc) hk

/-! ### The byte path (R170, R172) -/

theorem reject_keeps (s : State) (f : Frame) (c : Code) (fault : Option FaultCause) :
    EventKeeps s (s.reject f c fault) := by
  unfold State.reject
  split
  · exact EventKeeps.close (Sound.resetMade s) (resetMade_reported s)
  · have hfault : Sound s.arrive (match fault with
        | some k => s.arrive.raiseFrameFault k
        | none => s.arrive) := by
      split
      · exact Sound.of_parts
      · exact Sound.refl _
    exact EventKeeps.concludeRequest (((Sound.arrive s).trans hfault).trans Sound.of_parts)

/-- R190: HELLO's kind is decoded as HELLO alone. -/
theorem decodeRequest_hello (h : ReqHead) (p : List Byte) : decodeRequest h Kind.hello p = .typed (.hello h) := rfl

theorem completeFrame_keeps (s : State) (f : Frame) (check : Byte) : EventKeeps s (s.completeFrame f check) := by
  unfold State.completeFrame
  split
  · exact reject_keeps s _ _ _
  · simp only
    split
    · rename_i svc hsvc
      refine complete_keeps s _ _ ?_ fun hk => ?_
      · unfold Asked.service at hsvc
        split at hsvc
        · exact serviceOf_keeps hsvc
        · cases hsvc
          exact fun _ _ _ => Sound.refl _
        · cases hsvc
      · rw [hk, decodeRequest_hello] at hsvc
        cases hsvc
        rfl
    · exact reject_keeps s _ _ _

/-- R170, R172: a byte transfer, on a Link Port whose byte out has been counted. -/
theorem takeByte_keeps (s : State) (din : Byte) : EventKeeps s (s.takeByte din) := by
  unfold State.takeByte
  split
  · exact EventKeeps.whenever fun _ => EventKeeps.link s _
  · split
    · exact completeFrame_keeps s _ _
    · exact EventKeeps.link s _

/-- An event after a change of the Link Port is an event from before it. -/
theorem EventKeeps.of_withLp {s t : State} {l : LinkPort} (h : EventKeeps { s with lp := l } t) : EventKeeps s t := by
  refine ⟨?_, (Sound.withLp s l).trans h.sound⟩
  rcases h.ends with ⟨l', rfl⟩ | hu
  · exact .inl ⟨l', rfl⟩
  · exact .inr hu

theorem transfer_keeps (s : State) (din : Byte) : EventKeeps s (s.transfer din) := by
  unfold State.transfer
  simp only
  split
  · exact EventKeeps.conclude s ((Sound.withLp s _).trans (Sound.resetMade _))
  · exact EventKeeps.of_withLp (takeByte_keeps { s with lp := s.lp.shiftOut } din)

theorem closeWindow_keeps (s : State) : EventKeeps s s.closeWindow := by
  unfold State.closeWindow
  split
  · exact EventKeeps.conclude s (Sound.resetMade s)
  · simp only
    split
    · exact EventKeeps.conclude s Sound.of_parts
    · exact EventKeeps.conclude s (Sound.withLp s _)

/-! ### Timed events -/

theorem expireAwait_keeps (s : State) (a : PendingAwait) : EventKeeps s (s.expireAwait a) :=
  EventKeeps.conclude s ((Sound.elapse s _).trans Sound.of_parts)

theorem boundary_keeps (s : State) : EventKeeps s s.boundary :=
  EventKeeps.whenever fun _ => EventKeeps.conclude s ((Sound.elapse s _).trans (Sound.render _))

theorem tick_keeps (s : State) : EventKeeps s s.tick := by
  have hmark : Sound s s.markTick := by
    unfold State.markTick
    split
    · exact Sound.of_parts
    · exact (Sound.elapse s _).trans Sound.of_parts
  exact EventKeeps.whenever fun _ => EventKeeps.conclude s (hmark.trans (Sound.tickLayers _))

theorem seedingDone_keeps (s : State) (op : KeepOp) : EventKeeps s (s.seedingDone op) :=
  EventKeeps.conclude s ((Sound.elapse s _).trans Sound.of_parts)

theorem verifyDone_keeps (s : State) (op : KeepOp) : EventKeeps s (s.verifyDone op) := by
  have hverify : ∀ (u : State) (op : KeepOp), Sound u (u.endVerify op) := by
    intro u op
    unfold State.endVerify
    split <;> exact Sound.of_parts
  exact EventKeeps.conclude s ((Sound.elapse s _).trans (hverify _ _))

theorem flip_keeps (s : State) (op : KeepOp) : EventKeeps s (s.flip op) := by
  have hflip : ∀ u : State, Sound u (u.flipSlot op) := by
    intro u
    unfold State.flipSlot
    simp only
    split <;> exact Sound.of_parts
  exact EventKeeps.conclude s ((Sound.elapse s _).trans (hflip _))

theorem endSecond_keeps (s : State) (mv : Nat) : EventKeeps s (s.endSecond mv) := by
  refine EventKeeps.whenever fun _ => EventKeeps.conclude s ((Sound.elapse s (s.secondDue - s.now)).trans ?_)
  let s1 := s.elapseTo s.secondDue
  let s2 : State := { s1 with cu := s1.cu.endSecond, sb := { s1.sb with cellMv := mv } }
  have h2 : Sound s1 s2 := Sound.of_parts
  show Sound s1 (if s.cu.seconds < Config.maxSeconds ∧ s.sb.power.awake then s2.secondEvent else s2)
  split
  · exact h2.trans (DayWork.secondEvent _).sound
  · exact h2

/-! ### WAKING (R180 to R187) -/

/-- R187: stages 8 to 11 end in ACTIVE, with no format under way since stage 5. -/
theorem finishWaking_sound {s : State} (h : FormatPlaced s → s.sb.format = none) : Sound s s.finishWaking := by
  let s8 := s.measureCell
  let s9 := (s8.beginStage 9).reckonPowerUp
  let s11 := ((s9.beginStage 10).syncConditions.beginStage 11)
  have h8 : Sound s s8 := Sound.of_parts
  have h9 : DayWork (s8.beginStage 9) s9 := DayWork.reckon _ _ _
  have hstage : s9.sb.stage = 9 := congrArg (·.2.1) h9.place
  have hto9 : Sound s s9 := (h8.trans (Sound.beginStage (s := s8) h 9)).trans h9.sound
  have hto10 : Sound s9 (s9.beginStage 10) := Sound.beginStage (format_none_of_stage hstage (by decide)) 10
  have hsync : Sound (s9.beginStage 10) (s9.beginStage 10).syncConditions := Sound.of_parts
  have hto11 : Sound (s9.beginStage 10).syncConditions s11 := Sound.beginStage (format_none_of_stage (n := 10) rfl (by decide)) 11
  have hactive : Sound s11 s11.enterActive := Sound.enterActive (format_none_of_stage (n := 11) rfl (by decide))
  exact (((hto9.trans hto10).trans hsync).trans hto11).trans hactive

/-- R71: the scrub begins, or is over at once. -/
theorem stageScrub_sound {s : State} (h : FormatPlaced s → s.sb.format = none) : Sound s s.stageScrub := by
  let s1 : State := { s with sc := { s.sc with slots := [] } }
  have h1 : Sound s s1 := Sound.of_parts
  have h7 : Sound s1 (s1.beginStage 7) := Sound.beginStage (s := s1) h 7
  unfold State.stageScrub
  simp only
  split
  · exact (h1.trans h7).trans (finishWaking_sound (format_none_of_stage (n := 7) rfl (by decide)))
  · exact (h1.trans h7).trans Sound.of_parts

theorem takeDirectory_sound {s : State} (h : FormatPlaced s → s.sb.format = none) : Sound s s.takeDirectory := by
  let s1 : State := { s with sp := { s.sp with directory := (List.range 64).map (dirEntryOf s.sp.reader), reader := [] } }
  have h1 : Sound s s1 := Sound.of_parts
  exact h1.trans (stageScrub_sound (s := s1) h)

theorem stageDirectory_sound {s : State} (h : FormatPlaced s → s.sb.format = none) : Sound s s.stageDirectory := by
  let s1 := s.beginStage 6
  let s2 : State := { s1 with sp := { s1.sp with directory := List.replicate 64 {} } }
  have h1 : Sound s s1 := Sound.beginStage h 6
  have h2 : Sound s1 s2 := Sound.of_parts
  unfold State.stageDirectory
  simp only
  split
  · exact h1
  · exact (h1.trans h2).trans (stageScrub_sound (s := s2) (format_none_of_stage (n := 6) rfl (by decide)))

/-- R182 to R184: the profile read, in stage 4; a format that begins stands in stage 5. -/
theorem takeProfile_sound {s : State} (h4 : s.inStage 4 = true) : Sound s s.takeProfile := by
  obtain ⟨hp, hst⟩ : s.sb.power = .waking ∧ s.sb.stage = 4 := by simpa [State.inStage] using h4
  let s5 := (s.beginStage 5).validateProfile
  have h5 : Sound s s5 :=
    (Sound.beginStage (format_none_of_stage hst (by decide)) 5).trans Sound.of_parts
  let s6 : State := { s5 with
    sc := { s5.sc with layoutState := s5.formatDecision.2 }
    sb := { s5.sb with
      decided := true, formatKind := s5.formatDecision.1
      format := s5.formatDecision.1.map fun k => { kind := k, made := 0, ran := 0 } } }
  have h6 : Sound s5 s6 := Sound.of_place fun _ _ => ⟨hp, rfl⟩
  show Sound s (match s5.formatDecision.1 with
    | some _ => s6
    | none => s6.stageDirectory)
  split
  · exact h5.trans h6
  · rename_i hnone
    refine (h5.trans h6).trans (stageDirectory_sound fun _ => ?_)
    show s5.formatDecision.1.map _ = none
    rw [hnone]
    rfl

/-- R185, R186: a format that ends is under way no more when the directory stage begins. -/
theorem formatDone_keeps (s : State) (f : FormatRun) : EventKeeps s (s.formatDone f) := by
  let s1 := (s.elapse (Config.formatTime - f.ran)).closeFormat f.kind
  let s2 := ({ s1 with sb := { s1.sb with format := none } } : State).raiseFormatted f.kind
  have h1 : Sound s s1 := (Sound.elapse s _).trans (Sound.closeFormat _ _)
  have h2 : Sound s1 s2 := Sound.of_place fun _ => nofun
  exact EventKeeps.conclude s ((h1.trans h2).trans (stageDirectory_sound fun _ => rfl))

/-- While time passes the stage stays. -/
theorem elapse_stage (s : State) (dt : Nat) :
    (s.elapse dt).sb.power = s.sb.power ∧ (s.elapse dt).sb.stage = s.sb.stage := by
  obtain ⟨_, _, _, _, _, _, he⟩ := s.elapse_rest dt
  rw [he]
  exact ⟨rfl, rfl⟩

theorem scrubbed_keeps {s : State} (h7 : s.inStage 7 = true) (mv : Nat) : EventKeeps s (s.scrubbed mv) := by
  obtain ⟨-, hst⟩ : s.sb.power = .waking ∧ s.sb.stage = 7 := by simpa [State.inStage] using h7
  let n := s.sb.scrubSlot
  let s1 := s.elapseTo (s.sb.stageStart + s.scrubTime n)
  let s2 : State := { s1 with
    sc := { s1.sc with slots := s1.sc.slots ++ [s1.examineSlot n] }, sb := { s1.sb with cellMv := mv } }
  have hstage : s2.sb.stage = 7 := (elapse_stage s _).2.trans hst
  have h2 : Sound s s2 := (Sound.elapse s _).trans Sound.of_parts
  refine EventKeeps.conclude s ?_
  show Sound s (if n < s.slotCount then s2.beginScrub (n + 1) else (s2.beginStage 8).finishWaking)
  split
  · exact h2.trans Sound.of_parts
  · have h8 : Sound s2 (s2.beginStage 8) := Sound.beginStage (format_none_of_stage hstage (by decide)) 8
    exact (h2.trans h8).trans (finishWaking_sound (format_none_of_stage (n := 8) rfl (by decide)))

theorem signatureChecked_keeps {s : State} (h2 : s.inStage 2 = true) : EventKeeps s s.signatureChecked := by
  obtain ⟨-, hst⟩ : s.sb.power = .waking ∧ s.sb.stage = 2 := by simpa [State.inStage] using h2
  let s1 := s.elapseTo (s.sb.stageStart + Config.signatureTime)
  let s2 : State := { s1 with sb := { s1.sb with intact := Memory.readAll s1.keep 0 16 == signature } }
  have hstage : s2.sb.stage = 2 := (elapse_stage s _).2.trans hst
  have h2 : Sound s s2 := (Sound.elapse s _).trans Sound.of_parts
  exact EventKeeps.conclude s (h2.trans (Sound.beginStage (format_none_of_stage hstage (by decide)) 3))

theorem crystalChecked_keeps {s : State} (h3 : s.inStage 3 = true) (edge : Bool) :
    EventKeeps s (s.crystalChecked edge) := by
  obtain ⟨-, hst⟩ : s.sb.power = .waking ∧ s.sb.stage = 3 := by simpa [State.inStage] using h3
  let s1 := if edge then s else s.elapseTo (s.sb.stageStart + Config.monitorWindow)
  have h1 : Sound s s1 ∧ s1.sb.stage = 3 := by
    show Sound s (if edge then s else s.elapseTo _) ∧ (if edge then s else s.elapseTo _).sb.stage = 3
    split
    · exact ⟨Sound.refl s, hst⟩
    · exact ⟨Sound.elapse s _, (elapse_stage s _).2.trans hst⟩
  obtain ⟨h1, hstage⟩ := h1
  let s2 : State := { s1 with cu := s1.cu.checked edge }
  have h2 : Sound s1 s2 := Sound.of_parts
  have hstage2 : s2.sb.stage = 3 := hstage
  exact EventKeeps.conclude s ((h1.trans h2).trans (Sound.beginStage (format_none_of_stage hstage2 (by decide)) 4))

/-! ### The store port (R31, R36, R41, R45) -/

theorem deliverLoader_sound (s : State) (data : List Byte) : Sound s (s.deliverLoader data) := by
  unfold State.deliverLoader
  split
  · exact Sound.refl s
  · rename_i l hl
    have hbuffer : Sound s { s with sp := { s.sp with load := some { l with buffer := l.buffer ++ data } } } := by
      refine Sound.of_loader fun h => ?_
      obtain ⟨hlist, hc⟩ := (loaderOk_iff s).mp h
      rw [hl] at hc
      exact (loaderOk_iff _).mpr ⟨hlist.of_same rfl rfl, hc⟩
    simp only
    split
    · exact hbuffer.trans (Sound.endLoad _ _)
    · exact hbuffer

theorem deliverReader_sound (s : State) (data : List Byte) : Sound s (s.deliverReader data) := by
  let s1 : State := { s with sp := { s.sp with reader := s.sp.reader ++ data } }
  have h1 : Sound s s1 := Sound.of_parts
  show Sound s (if s1.sp.reader.length < s1.readerSpan.2 then s1
    else if s1.inStage 4 then s1.takeProfile
    else if s1.inStage 6 then s1.takeDirectory
    else s1)
  split
  · exact h1
  · split
    · rename_i h4
      exact h1.trans (takeProfile_sound h4)
    · split
      · rename_i h6
        obtain ⟨-, hst⟩ : s1.sb.power = .waking ∧ s1.sb.stage = 6 := by simpa [State.inStage] using h6
        exact h1.trans (takeDirectory_sound (format_none_of_stage hst (by decide)))
      · exact h1

theorem fetchDone_keeps {s : State} {f : Fetch} (hf : s.sp.fetch = some f) {data : List Byte}
    (hd : data.length = f.size) (mv : Nat) : EventKeeps s (s.fetchDone f data mv) := by
  let s1 := s.elapseTo f.due
  let s2 : State := { s1 with sp := { s1.sp with fetch := none }, sb := { s1.sb with cellMv := mv } }
  have h1 : Sound s s1 := Sound.elapse s _
  have hf1 : s1.sp.fetch = some f := by
    show (s.elapse _).sp.fetch = _
    obtain ⟨_, _, _, _, _, _, he⟩ := s.elapse_rest (f.due - s.now)
    rw [he]
    exact hf
  have h2 : Sound s1 s2 :=
    Sound.of_rings fun h => ringOk_of_le (s := s1) rfl (fun _ _ => Nat.add_le_add_left (Nat.zero_le _) _) h
  refine EventKeeps.conclude s ?_
  show Sound s (s2.deliver f data)
  unfold State.deliver
  split
  · exact h1.trans h2
  · split
    · rename_i n hr
      have hvoice : Sound s1 (s2.deliverVoice n f data) := by
        refine ⟨fun h => formatPlaced_congr ?_ (h2.placed h), deliverVoice_rings hf1 hr hd rfl rfl,
          fun h => loaderOk_congr ?_ (h2.loader h)⟩
        all_goals
          unfold State.deliverVoice
          simp only
          split <;> rfl
      exact h1.trans hvoice
    · exact (h1.trans h2).trans (deliverLoader_sound s2 data)
    · exact (h1.trans h2).trans (deliverReader_sound s2 data)

/-! ### Supply (R140 to R144) -/

theorem losePower_keeps (s : State) (mv : Nat) : EventKeeps s (s.losePower mv) :=
  EventKeeps.conclude s ((Sound.of_parts (t := s.setPins mv s.sb.cellMv)).trans (Sound.enterKeep _))

theorem returnPower_keeps (s : State) (mv : Nat) : EventKeeps s (s.returnPower mv) :=
  EventKeeps.conclude s ((Sound.of_parts (t := s.setPins mv s.sb.cellMv)).trans (Sound.enterWaking _))

/-- R143: what a change of the supply class hands to the other blocks. -/
theorem classChanged_sound (s : State) (old : SupplyClass) : Sound s (s.classChanged old) := by
  have habandon : Sound s s.abandonSave := by
    unfold State.abandonSave
    split
    · exact Sound.refl s
    · simp only
      split <;> exact Sound.of_parts
  have hwait : Sound s s.endSupplyWait := by
    unfold State.endSupplyWait
    split
    · rename_i h1
      obtain ⟨-, hst⟩ : s.sb.power = .waking ∧ s.sb.stage = 1 := by simpa [State.inStage] using h1
      exact Sound.beginStage (format_none_of_stage hst (by decide)) 2
    · exact Sound.refl s
  unfold State.classChanged
  split
  · exact habandon
  · split
    · exact hwait.trans (DayWork.runDeferred _).sound
    · exact Sound.refl s

theorem supplyMoves_keeps (s : State) (supplyMv cellMv : Nat) : EventKeeps s (s.supplyMoves supplyMv cellMv) := by
  unfold State.supplyMoves
  split
  · have hlost := losePower_keeps (s.setPins s.sb.supplyMv cellMv) supplyMv
    refine ⟨?_, (Sound.of_parts (t := s.setPins s.sb.supplyMv cellMv)).trans hlost.sound⟩
    exact .inr ⟨_, State.attend_reported _ _, rfl⟩
  · exact EventKeeps.conclude s ((Sound.of_parts
      (t := (s.setPins supplyMv cellMv).setClass (classAfter s.sb.supply supplyMv))).trans (classChanged_sound _ _))

/-! ### Every command -/

/-- The commands that are no requests. -/
theorem exec_event_keeps {c : Instr} (hc : serviceOf c = none) {s t : State} (h : exec c s = .next t) :
    EventKeeps s t := by
  cases c
  case windowOpen =>
    cases h
    split
    · exact EventKeeps.none s
    · exact EventKeeps.link s _
  case windowClose => cases h; exact EventKeeps.whenever fun _ => closeWindow_keeps s
  case frameCompletion b => cases h; exact EventKeeps.whenever fun _ => transfer_keeps s b
  case replyCollected b => cases h; exact EventKeeps.whenever fun _ => transfer_keeps s b
  case byteTransfer b => cases h; exact EventKeeps.whenever fun _ => transfer_keeps s b
  case awaitExpiry =>
    cases h
    split
    · exact expireAwait_keeps s _
    · exact EventKeeps.none s
  case mixBlockBoundary => cases h; exact boundary_keeps s
  case primingLimit n => cases h; exact EventKeeps.whenever fun _ => boundary_keeps s
  case amplifierIdleOff => cases h; exact EventKeeps.whenever fun _ => boundary_keeps s
  case rumbleTick => cases h; exact tick_keeps s
  case layerStepEnd n => cases h; exact EventKeeps.whenever fun _ => tick_keeps s
  case fetchCompletion data mv =>
    cases h
    split
    · rename_i f hf
      exact EventKeeps.whenever fun hd => fetchDone_keeps hf hd mv
    · exact EventKeeps.none s
  case seedingCompletion =>
    cases h
    split
    · exact EventKeeps.whenever fun _ => seedingDone_keeps s _
    · exact EventKeeps.none s
  case verifyEnd =>
    cases h
    split
    · exact EventKeeps.whenever fun _ => verifyDone_keeps s _
    · exact EventKeeps.none s
  case flip =>
    cases h
    split
    · exact EventKeeps.whenever fun _ => flip_keeps s _
    · exact EventKeeps.none s
  case scrubSlotEnd mv => cases h; exact EventKeeps.whenever fun h7 => scrubbed_keeps h7 mv
  case secondEnd mv => cases h; exact endSecond_keeps s mv
  case crystalStopFound => cases h; exact EventKeeps.whenever fun _ => EventKeeps.conclude s Sound.of_parts
  case crystalEdgeReturn =>
    cases h
    split
    · exact EventKeeps.none s
    · exact EventKeeps.conclude s Sound.of_parts
  case supplyClassChange supplyMv cellMv =>
    cases h
    split
    · exact EventKeeps.none s
    · exact supplyMoves_keeps s supplyMv cellMv
  case consolePowerLost mv => cases h; exact EventKeeps.whenever fun _ => losePower_keeps s mv
  case consolePowerReturn mv => cases h; exact EventKeeps.whenever fun _ => returnPower_keeps s mv
  case keepSignatureCheck => cases h; exact EventKeeps.whenever fun h2 => signatureChecked_keeps h2
  case crystalCheckEnd edge => cases h; exact EventKeeps.whenever fun h3 => crystalChecked_keeps h3 edge
  case fullFormatEnd =>
    cases h
    split
    · exact formatDone_keeps s _
    · exact EventKeeps.none s
  case slotFormatEnd =>
    cases h
    split
    · exact formatDone_keeps s _
    · exact EventKeeps.none s
  all_goals cases hc

/-- R177: what any command does is an event that is closed, or none, and keeps the part sound. -/
theorem exec_keeps {c : Instr} {s t : State} (h : exec c s = .next t) : EventKeeps s t := by
  cases hc : serviceOf c with
  | some svc => exact exec_request_keeps hc h
  | none => exact exec_event_keeps hc h

/-- A step keeps the part sound. -/
theorem step_sound {s t : State} (h : step s = .next t) : Sound s t := by
  unfold step at h
  split at h
  · cases h
    exact (Sound.elapse s 1).trans (Sound.refresh _)
  · exact (Sound.withPending s _).trans (exec_keeps h).sound

/-- R34, R148, R159: an event leaves a settled part settled. -/
theorem settled_of_ends {s t : State} (h : Ends s t) (hs : Settled s) : Settled t := by
  rcases h with ⟨l, rfl⟩ | ⟨u, hu, rfl⟩
  · exact settled_withLp hs l
  · exact State.settled_close hu

end Sys2Proof.Machine

namespace Sys2Proof.Proofs

open Sys2Proof.Safety Sys2Proof.Machine

/-- Settles O53: an idle moment brings nothing up and owes nothing new, a command's event is closed or moves the Link
Port alone, and each keeps a format in its place. -/
theorem everyStepSettles : Obligations.EveryStepSettles := by
  unfold Obligations.EveryStepSettles
  intro s t hs ht
  refine ⟨?_, (step_sound ht).placed hs.2⟩
  unfold step at ht
  split at ht
  · cases ht
    exact State.settled_idle hs
  · exact settled_of_ends (exec_keeps ht).ends (settled_withPending hs.1 _)

/-- Settles O57: a grant asks for no more than the ring has room for, a fetch delivered moves its bytes from in flight
to the ring, and nothing else adds a byte. -/
theorem ringsStayBounded : Obligations.RingsStayBounded := fun _ _ hs ht => (step_sound ht).rings hs

/-- Settles O58: layer starts, stops and ticks, load ends and what stores a start keep the agreement, and nothing else
touches it. -/
theorem loaderStaysSound : Obligations.LoaderStaysSound := fun _ _ hs ht => (step_sound ht).loader hs

end Sys2Proof.Proofs
end

section
/-! O44: RUMBLE-STOP (R39, R124, R128). -/

namespace Sys2Proof.Machine

open Sys2Proof.Safety

/-! ### Layer records -/

theorem exec_rumbleStop_eq (h : ReqHead) (layer : Byte) (s : State) :
    exec (.rumbleStop h layer) s = request h Kind.rumbleStop (serveRumbleStop layer) s := rfl

theorem Layer.busy_eq (l : Layer) : l.busy = decide (l.state ≠ .idle) := by
  unfold Layer.busy
  by_cases h : l.state = .idle <;> simp [h]

/-- A layer record replaced is read back, and every other one is as it was. -/
theorem State.layer_setLayer (s : State) {n : Nat} (hn : n < s.ru.layers.length) (l : Layer) (m : Nat) :
    (s.setLayer n l).layer m = if m = n then l else s.layer m := by
  simp only [State.layer, State.setLayer_ru, List.getD_eq_getElem?_getD, List.getElem?_set]
  by_cases h : n = m
  · simp [h.symm, hn]
  · rw [if_neg h, if_neg (fun e => h e.symm)]

theorem State.layer_mapLayers (s : State) (f : Nat → Layer → Layer) {n : Nat} (hn : n < s.ru.layers.length) :
    (s.mapLayers f).layer n = f n (s.layer n) := by
  simp [State.layer, State.mapLayers, hn]

/-- R128: the largest output among RUNNING layers, layer by layer. -/
theorem largestOutput_eq {s : State} (h3 : s.ru.layers.length = 3) : largestOutput s.ru.layers
    = ((List.range 3).map fun n => if (s.layer n).state = .running then (s.layer n).output else 0).foldl max 0 := by
  have hstep : (fun m (l : Layer) => if l.state = .running then max m l.output else m)
      = fun m l => max m (if l.state = .running then l.output else 0) := by
    funext m l
    split <;> simp
  have hlayers : s.ru.layers = (List.range 3).map s.layer := by
    refine List.ext_getElem (by simp [h3]) fun n hn _ => ?_
    simp [State.layer, hn]
  rw [largestOutput, hstep, hlayers, List.foldl_map, List.foldl_map]

/-- R33: the store's service leaves the voices but for their request flags. -/
theorem State.serviceStore_sameVoices (s : State) : SameVoices s s.serviceStore := by
  obtain ⟨r, hr, -⟩ := s.serviceStore_voices
  rw [SameVoices, hr]
  refine List.ext_getElem? fun i => ?_
  rw [List.getElem?_map, List.getElem?_map, List.getElem?_mapIdx, Option.map_map]
  rfl

/-! ### The layers named -/

theorem namesLayer_iff (layer : Byte) (n : Nat) : namesLayer layer n = true ↔ layer = 0xFF ∨ layer.toNat = n := by
  simp [namesLayer]

theorem State.busyLayers_bit (s : State) (p : Nat → Bool) {n : Nat} (hn : n < 8) :
    (s.busyLayers p).getLsbD n = decide (n < 3 ∧ p n = true ∧ (s.layer n).state ≠ .idle) := by
  rw [State.busyLayers, getLsbD_maskOf]
  simp [hn, Layer.busy_eq]

/-- R124: a layer that a stop names and that is busy becomes IDLE. -/
theorem State.layer_stopLayers (s : State) (p : Nat → Bool) {n : Nat} (hn : n < s.ru.layers.length) :
    (s.stopLayers p).layer n = if p n = true ∧ (s.layer n).state ≠ .idle then
      { s.layer n with state := .idle, value := 0, output := 0 } else s.layer n := by
  have h := s.layer_mapLayers (fun n l => if p n && l.busy then l.stop else l) hn
  have hlayer : (s.stopLayers p).layer n = (s.mapLayers fun n l => if p n && l.busy then l.stop else l).layer n := rfl
  rw [hlayer, h]
  simp only [Layer.busy_eq, Bool.and_eq_true, decide_eq_true_eq]
  rfl

/-- R39: the ids that a purge leaves, whether or not a load is under way. -/
theorem State.mem_purgeQueue (s : State) (id : Nat) : id ∈ s.purgeQueue.sp.loadList ↔ id ∈ s.sp.loadList
    ∧ (s.sp.load.isSome = true ∧ s.sp.loadList.head? = some id ∨ waited s id = true) := by
  cases hl : s.sp.load with
  | some l =>
    have hlist : s.purgeQueue.sp.loadList = s.purged := by
      simp only [State.purgeQueue, hl]
      rfl
    rw [hlist, mem_purged]
    simp
  | none =>
    have hlist : s.purgeQueue.sp.loadList = s.sp.loadList.filter (waited s) := by
      simp only [State.purgeQueue, hl]
      rfl
    rw [hlist, List.mem_filter]
    simp

end Sys2Proof.Machine

namespace Sys2Proof.Proofs

open Sys2Proof.Safety Sys2Proof.Machine

/-- Settles O44: the layers and the list as the stop leaves them; the rest is what the close of a request leaves. -/
theorem rumbleStopStops : Obligations.RumbleStopStops := by
  unfold Obligations.RumbleStopStops
  intro h layer s hl h3 named
  split
  · rename_i hr
    rw [exec_rumbleStop_eq]
    exact request_refused hl (by rw [serveRumbleStop, if_pos hr])
  · rename_i hr
    let s' : State := { s with lp := s.lp.idleParser }
    let u := s'.stopLayers (namesLayer layer)
    have hu : serveRumbleStop layer .active s' = (u, some ⟨.ok, [s'.busyLayers (namesLayer layer)]⟩) := by
      rw [serveRumbleStop, if_neg hr]
      rfl
    have hrep : u.report = u := State.report_of_reported hl.1.1 rfl rfl rfl rfl rfl rfl id rfl rfl rfl
    let v : State := { u with lp := (answered s Kind.rumbleStop h .ok [s'.busyLayers (namesLayer layer)]).lp }
    have hc := State.closes v
    have hru : v.serviceStore.refresh.ru = { u.ru with applied := v.serviceStore.refresh.ru.applied } :=
      hc.rumble ▸ rfl
    have hlen : v.serviceStore.refresh.ru.layers.length = 3 := by
      rw [hc.layers]
      exact (List.length_mapIdx ..).trans h3
    have hlayer : ∀ n, v.serviceStore.refresh.layer n = u.layer n := fun n => by
      rw [State.layer, hc.layers]
      rfl
    have hwaited : ∀ id, waited v.serviceStore.refresh id = waited (s'.mapLayers fun n l =>
        if namesLayer layer n && l.busy then l.stop else l) id := fun id => by
      rw [waited, hc.layers]
      rfl
    obtain ⟨-, -, -, hlist, hload⟩ := hc.store
    refine ⟨v.serviceStore.refresh, (exec_rumbleStop_eq h layer s).trans (request_replied hl hu rfl hrep), fun n hn => ?_,
      fun id => ?_, hload, ?_, ?_, ?_, hc.attention, hc.sc, ?_, hc.engine, hc.keep, ?_,
      s'.busyLayers (namesLayer layer), fun n hn => ?_, ?_⟩
    · rw [hlayer, s'.layer_stopLayers (namesLayer layer) (n := n) (by show n < s.ru.layers.length; omega)]
      simp only [namesLayer_iff]
      rfl
    · rw [hlist, hwaited]
      exact State.mem_purgeQueue (s'.mapLayers fun n l => if namesLayer layer n && l.busy then l.stop else l) id
    · rw [hru]; rfl
    · rw [hru]; rfl
    · rw [hru]; rfl
    · exact State.serviceStore_sameVoices v
    · rw [← largestOutput_eq hlen]
      rfl
    · rw [s'.busyLayers_bit _ hn]
      simp only [namesLayer_iff]
      rfl
    · rw [State.refresh_lp, State.serviceStore_lp]

end Sys2Proof.Proofs
end

section
/-! O43: RUMBLE-PLAY (R40, R117, R118, R122, R123). -/

namespace Sys2Proof.Machine

open Sys2Proof.Safety

/-! ### Directory entries (R40) -/

/-- R40: the directory entry of an id passes its checks. -/
abbrev State.stands (s : State) (id : Nat) : Prop :=
  id < s.sp.profile.patternCount ∧ 1 ≤ (s.sp.directory.getD id {}).steps ∧ (s.sp.directory.getD id {}).steps ≤ 32
    ∧ (s.sp.directory.getD id {}).address + 4 + 3 * (s.sp.directory.getD id {}).steps ≤ s.sp.profile.storeUnits * 65536

/-- R40: the load that the entry of an id calls for. -/
def State.calledLoad (s : State) (id : Nat) : Load :=
  { address := (s.sp.directory.getD id {}).address, size := 4 + 3 * (s.sp.directory.getD id {}).steps, buffer := [] }

theorem State.loadFor_eq (s : State) (id : Nat) :
    s.loadFor id = if s.stands id then some (s.calledLoad id) else none := by
  unfold State.loadFor State.dirEntry State.storeSize
  by_cases habsent : s.sp.profile.patternCount ≤ id ∨ (s.sp.directory.getD id {}).steps = 0
  · have hno : ¬ s.stands id := by omega
    simp only [if_pos habsent, if_neg hno]
  · simp only [if_neg habsent]
    split
    · rename_i hbad
      rw [if_neg (by omega)]
    · rename_i hok
      rw [if_pos (by omega)]
      rfl

/-! ### The ids of the load list in turn (R40, R120) -/

/-- R40: the ids at the head of a list whose directory entries fail their checks. -/
def State.fails (s : State) (id : Nat) : Bool := !decide (s.stands id)

theorem State.beginFrom_cons (s : State) (id : Nat) (ids : List Nat) : s.beginFrom (id :: ids) =
    if s.fails id then (s.loadFailed id).beginFrom ids
    else { s with sp := { s.sp with loadList := id :: ids, load := some (s.calledLoad id) } } := by
  rw [State.beginFrom, State.loadFor_eq, State.fails]
  by_cases h : s.stands id
  · rw [if_pos h, decide_eq_true h]
    rfl
  · rw [if_neg h, decide_eq_false h]
    rfl

/-- R40: the list goes on from the first id whose entry stands, which becomes the current load. -/
theorem State.beginFrom_list (s : State) (ids : List Nat) : (s.beginFrom ids).sp.loadList = ids.dropWhile s.fails
    ∧ (s.beginFrom ids).sp.load = (ids.dropWhile s.fails).head?.map s.calledLoad := by
  induction ids generalizing s with
  | nil => exact ⟨rfl, rfl⟩
  | cons id ids ih =>
    rw [State.beginFrom_cons]
    by_cases h : s.fails id = true
    · rw [if_pos h, List.dropWhile_cons_of_pos h]
      exact ih (s.loadFailed id)
    · rw [if_neg h, List.dropWhile_cons_of_neg h]
      exact ⟨rfl, rfl⟩

/-- R120: a failed load stops the layers that wait for it. -/
theorem State.layer_loadFailed (s : State) (id : Nat) {n : Nat} (hn : n < s.ru.layers.length) :
    (s.loadFailed id).layer n
      = if (s.layer n).state = .loading ∧ (s.layer n).id = id then (s.layer n).stop else s.layer n :=
  s.layer_mapLayers (fun _ l => if l.state = .loading ∧ l.id = id then l.stop else l) hn

/-- R120: of the ids in turn, the failing ones at the head stop the layers that wait for them. -/
theorem State.layer_beginFrom (s : State) (ids : List Nat) {n : Nat} (hn : n < s.ru.layers.length) :
    (s.beginFrom ids).layer n = if (s.layer n).state = .loading ∧ (s.layer n).id ∈ ids.takeWhile s.fails then
      (s.layer n).stop else s.layer n := by
  induction ids generalizing s with
  | nil => simp [State.beginFrom, State.layer]
  | cons id ids ih =>
    rw [State.beginFrom_cons]
    by_cases h : s.fails id = true
    · have hlen : n < (s.loadFailed id).ru.layers.length := by
        show n < (s.ru.layers.mapIdx _).length
        rwa [List.length_mapIdx]
      rw [if_pos h, List.takeWhile_cons_of_pos h, ih (s.loadFailed id) hlen, s.layer_loadFailed id hn]
      have hfails : (s.loadFailed id).fails = s.fails := rfl
      rw [hfails]
      by_cases hwait : (s.layer n).state = .loading ∧ (s.layer n).id = id
      · have hstop : (s.layer n).stop.state ≠ .loading := fun hc => LayerState.noConfusion hc
        rw [if_pos hwait, if_neg (fun hc => hstop hc.1), if_pos ⟨hwait.1, by simp [hwait.2]⟩]
      · rw [if_neg hwait]
        by_cases hload : (s.layer n).state = .loading
        · have hid : (s.layer n).id ≠ id := fun e => hwait ⟨hload, e⟩
          simp [hload, hid]
        · simp [hload]
    · rw [if_neg h, List.takeWhile_cons_of_neg h]
      simp [State.layer]

/-- R120: PATTERN_MISSING names the last of the failing ids at the head. -/
theorem State.missing_beginFrom (s : State) (ids : List Nat) :
    (s.beginFrom ids).au.details.patternMissing = (if ids.takeWhile s.fails ≠ [] then (ids.takeWhile s.fails).getLast?
      else s.au.details.patternMissing)
    ∧ (Member.patternMissing.isIn (s.beginFrom ids).au.latch = true
      ↔ ids.takeWhile s.fails ≠ [] ∨ Member.patternMissing.isIn s.au.latch = true) := by
  induction ids generalizing s with
  | nil => simp [State.beginFrom]
  | cons id ids ih =>
    rw [State.beginFrom_cons]
    by_cases h : s.fails id = true
    · obtain ⟨hdetail, hlatch⟩ := ih (s.loadFailed id)
      have hfails : (s.loadFailed id).fails = s.fails := rfl
      have hlatched : Member.patternMissing.isIn (s.loadFailed id).au.latch = true := raise_latch _ _ _
      have hnamed : (s.loadFailed id).au.details.patternMissing = some id := rfl
      rw [if_pos h, List.takeWhile_cons_of_pos h, hdetail, hlatch, hfails, hlatched, hnamed]
      cases hrest : ids.takeWhile s.fails with
      | nil => simp
      | cons a as => simp [List.getLast?_cons_cons]
    · rw [if_neg h, List.takeWhile_cons_of_neg h]
      simp

/-- R39, R40: the ids in turn leave the cache. -/
theorem State.beginFrom_cache (s : State) (ids : List Nat) : (s.beginFrom ids).ru.cache = s.ru.cache := by
  induction ids generalizing s with
  | nil => rfl
  | cons id ids ih =>
    rw [State.beginFrom_cons]
    by_cases h : s.fails id = true
    · rw [if_pos h, ih (s.loadFailed id)]
      rfl
    · rw [if_neg h]

/-! ### Findings and refusals (R118, R122) -/

/-- R118: a store pattern that is not cached has to be loaded. -/
theorem State.findPattern_load {s : State} {id : Nat} (hid : id < 64) (hc : s.ru.cache.filter (fun x => x.id == id) = []) :
    s.findPattern id = .load := by
  have hnone : s.cached id = none := by
    rw [State.cached, ← List.head?_filter, hc]
    rfl
  unfold State.findPattern
  rw [if_neg (by omega), hnone]

/-- R118: a pattern at hand, in a host slot or in the cache. -/
theorem State.findPattern_ready {s : State} {id : Nat} {p : Pattern}
    (h : if 64 ≤ id then s.ru.host.getD (id - 64) none = some p
      else ∃ x ∈ (s.ru.cache.filter fun x => x.id == id).head?, x.pattern = p) : s.findPattern id = .ready p := by
  unfold State.findPattern
  split at h
  · rename_i hid
    rw [if_pos hid, State.hostPattern, h]
  · rename_i hid
    obtain ⟨x, hx, rfl⟩ := h
    have hc : s.cached id = some x.pattern := by
      rw [State.cached, ← List.head?_filter, Option.mem_def.mp hx]
      rfl
    rw [if_neg hid, hc]

theorem State.findPattern_missing_iff (s : State) (id : Nat) :
    s.findPattern id = .missing ↔ 64 ≤ id ∧ s.ru.host.getD (id - 64) none = none := by
  unfold State.findPattern State.hostPattern
  split
  · rename_i hid
    cases s.ru.host.getD (id - 64) none <;> simp [hid]
  · rename_i hid
    cases s.cached id <;> simp [hid]

/-- R122: the checks of a RUMBLE-PLAY in their order. -/
theorem State.playRefused_eq (s : State) (layer pattern priority : Byte) : s.playRefused layer pattern priority =
    if 2 < layer.toNat ∨ 71 < pattern.toNat ∨ 15 < priority.toNat then some .range
    else if 64 ≤ pattern.toNat ∧ s.ru.host.getD (pattern.toNat - 64) none = none then some .notFound
    else if (s.layer layer.toNat).state ≠ .idle ∧ priority.toNat < (s.layer layer.toNat).priority then some .busy
    else none := by
  simp only [State.playRefused, State.startRefused, State.findPattern_missing_iff, Layer.busy_eq, decide_eq_true_eq]

/-! ### What a layer start leaves -/

/-- R159: layer starts and load ends bring up no condition. -/
theorem LayerWork.reported {s t : State} (h : LayerWork s t) (hs : s.report = s) : t.report = t := by
  obtain ⟨_, _, _, _, _, _, rfl⟩ := h.rest
  exact State.report_of_reported hs rfl rfl rfl rfl rfl rfl id rfl rfl rfl

/-- What a request that makes a layer start leaves of the state `u` that the start led to, and of the state `s` before. -/
structure LayerRequest (s u t : State) : Prop where
  layer : ∀ n, t.layer n = u.layer n
  cache : t.ru.cache = u.ru.cache
  list : t.sp.loadList = u.sp.loadList
  load : t.sp.load = u.sp.load
  latch : t.au.latch = u.au.latch
  details : t.au.details = u.au.details
  rest : t.ru.cues = s.ru.cues ∧ t.ru.host = s.ru.host ∧ t.sc = s.sc ∧ SameVoices s t ∧ SameKeep s t

/-- R176: a request that starts or ends layers' uses, from a listening part. -/
theorem request_layerWork {s u : State} {h : ReqHead} {k : Byte} {svc : Service} {c : Code} {p : List Byte}
    (hl : Listening s) (hw : LayerWork { s with lp := s.lp.idleParser } u)
    (hu : svc .active { s with lp := s.lp.idleParser } = (u, some ⟨c, p⟩)) :
    ∃ t, request h k svc s = .next t ∧ LayerRequest s u t ∧ t.lp = (answered s k h c p).lp := by
  have hrep : ({ s with lp := s.lp.idleParser } : State).report = { s with lp := s.lp.idleParser } := by
    rw [State.report_withLp, hl.1.1]
  have hur := hw.reported hrep
  obtain ⟨ls, ca, ll, ld, l, d, rfl⟩ := hw.rest
  refine ⟨_, request_replied hl hu rfl hur, ?_, by rw [State.refresh_lp, State.serviceStore_lp]⟩
  have hc := State.closes { ({ s with
    lp := s.lp.idleParser, ru := { s.ru with layers := ls, cache := ca }
    sp := { s.sp with loadList := ll, load := ld }
    au := { s.au with latch := l, details := { s.au.details with patternMissing := d } } } : State) with
      lp := (answered s k h c p).lp }
  obtain ⟨-, -, -, hlist, hload⟩ := hc.store
  refine ⟨fun n => by rw [State.layer, hc.layers]; rfl, ?_, hlist, hload, hc.latch, hc.details, ?_, ?_, hc.sc,
    State.serviceStore_sameVoices _, hc.keep⟩
  all_goals
    rw [State.serviceStore_eq]
    rfl

/-! ### The start on a record at hand -/

/-- R121, R123: a layer record with the fields of a start, before the start says in which state. -/
def Layer.starting (l : Layer) (id priority scale : Nat) : Layer :=
  { l with
    id := id, priority := priority, scale := scale, step := 0, tick := 0, start := 0, value := 0, output := 0 }

/-- R117: the ids of the cache with one of them moved to the front. -/
theorem cacheTouch_ids {cache : List Cached} {id : Nat} (h : cache.filter (fun x => x.id == id) ≠ []) :
    (cacheTouch cache id).map (·.id) = id :: (cache.filter fun x => x.id != id).map (·.id) := by
  obtain ⟨c, hc⟩ := Option.ne_none_iff_exists'.mp fun hn => h (List.head?_eq_none_iff.mp hn)
  rw [List.head?_filter] at hc
  have hid : c.id = id := by simpa using List.find?_some hc
  unfold cacheTouch
  rw [hc, List.map_cons, hid]

/-- R123: a layer start on a record at hand. -/
theorem State.startLayer_ready {s : State} {n id : Nat} {p : Pattern} (hn : n < s.ru.layers.length)
    (hf : s.findPattern id = .ready p) (priority scale : Nat) :
    (∀ m, (s.startLayer n id priority scale).layer m = if m = n then
        { (s.layer n).starting id priority scale with state := .running, pattern := p, passes := p.passes }
      else s.layer m)
    ∧ (s.startLayer n id priority scale).ru.cache = if id < 64 then cacheTouch s.ru.cache id else s.ru.cache := by
  unfold State.startLayer
  simp only [hf]
  exact ⟨fun m => s.layer_setLayer hn _ m, rfl⟩

/-! ### The start that waits for a load -/

/-- R39, R123: a start that waits while a load is under way. -/
theorem State.startLayer_queued {s : State} {n id : Nat} {l : Load} (hn : n < s.ru.layers.length)
    (hf : s.findPattern id = .load) (hl : s.sp.load = some l) (priority scale : Nat) :
    (∀ m, (s.startLayer n id priority scale).layer m = if m = n then (s.layer n).waiting id priority scale
      else s.layer m)
    ∧ (s.startLayer n id priority scale).ru.cache = s.ru.cache
    ∧ id ∈ (s.startLayer n id priority scale).sp.loadList
    ∧ (s.startLayer n id priority scale).sp.load = s.sp.load := by
  let u := (s.setLayer n ((s.layer n).waiting id priority scale)).purgeQueue
  have hrest : (u.enqueue id).ru = u.ru ∧ (u.enqueue id).sp.load = some l := by
    unfold State.enqueue
    split
    · exact ⟨rfl, hl⟩
    · exact ⟨rfl, hl⟩
  obtain ⟨hru, hload⟩ := hrest
  have hstay : (u.enqueue id).beginLoad = u.enqueue id := by
    unfold State.beginLoad
    rw [hload]
  rw [State.startLayer_of_load hf]
  show (∀ m, (u.enqueue id).beginLoad.layer m = _) ∧ (u.enqueue id).beginLoad.ru.cache = _
    ∧ id ∈ (u.enqueue id).beginLoad.sp.loadList ∧ (u.enqueue id).beginLoad.sp.load = _
  rw [hstay]
  refine ⟨fun m => ?_, by rw [hru]; rfl, (u.mem_enqueue id id).mpr (.inr rfl), hload.trans hl.symm⟩
  rw [State.layer, hru]
  exact s.layer_setLayer hn _ m

/-- R40, R123: a start that waits with the loader idle begins its load at once. -/
theorem State.startLayer_begins {s : State} {n id : Nat} (hf : s.findPattern id = .load) (hl : s.sp.load = none)
    (hlist : s.sp.loadList = []) (priority scale : Nat) : s.startLayer n id priority scale
      = (s.setLayer n ((s.layer n).waiting id priority scale)).beginFrom [id] := by
  let u := s.setLayer n ((s.layer n).waiting id priority scale)
  have hqueue : u.purgeQueue.enqueue id = { u with sp := { u.sp with loadList := [id] } } := by
    have hpurge : u.purgeQueue = u := by
      have hu : u.sp.loadList = [] := hlist
      rw [State.purgeQueue_eq (by rw [hu]; simp [u, hl])]
      have hp : u.purged = u.sp.loadList := by rw [hu]; exact (purged_eq_nil u).mpr hu
      rw [hp]
    rw [hpurge, State.enqueue]
    have hu : u.sp.loadList = [] := hlist
    simp [hu]
  rw [State.startLayer_of_load hf]
  show (u.purgeQueue.enqueue id).beginLoad = u.beginFrom [id]
  rw [hqueue, State.beginLoad]
  simp only [u, State.setLayer_sp, hl]
  show ({ u with sp := { u.sp with loadList := [id] } } : State).beginFrom [id] = u.beginFrom [id]
  rw [State.beginFrom_cons, State.beginFrom_cons]
  have hfails : ({ u with sp := { u.sp with loadList := [id] } } : State).fails id = u.fails id := rfl
  rw [hfails]
  split
  · rfl
  · rfl

/-! ### The start that finds the loader idle -/

/-- R40, R123: the loader idle and the entry good: the load of the layer that waits begins. -/
theorem State.startLayer_stands {s : State} {n id : Nat} (hn : n < s.ru.layers.length) (hf : s.findPattern id = .load)
    (hl : s.sp.load = none) (hlist : s.sp.loadList = []) (hstands : s.stands id) (priority scale : Nat) :
    let u := s.startLayer n id priority scale
    (∀ m, u.layer m = if m = n then (s.layer n).waiting id priority scale else s.layer m)
      ∧ u.sp.loadList = [id] ∧ u.sp.load = some (s.calledLoad id) := by
  let w := s.setLayer n ((s.layer n).waiting id priority scale)
  have hgood : w.fails id = false := by
    show (!decide (s.stands id)) = false
    rw [decide_eq_true hstands]
    rfl
  have hu : s.startLayer n id priority scale
      = { w with sp := { w.sp with loadList := [id], load := some (w.calledLoad id) } } := by
    rw [State.startLayer_begins hf hl hlist, State.beginFrom_cons, hgood]
    rfl
  intro u
  refine ⟨fun m => ?_, ?_, ?_⟩
  · rw [← s.layer_setLayer hn _ m]
    show (s.startLayer n id priority scale).layer m = _
    rw [hu]
    rfl
  · show (s.startLayer n id priority scale).sp.loadList = _
    rw [hu]
  · show (s.startLayer n id priority scale).sp.load = _
    rw [hu]
    rfl

/-- R40, R120: the loader idle and the entry bad: the load of the layer that waits fails at once. -/
theorem State.startLayer_fails {s : State} {n id : Nat} (hn : n < s.ru.layers.length) (hf : s.findPattern id = .load)
    (hl : s.sp.load = none) (hlist : s.sp.loadList = []) (hbad : ¬ s.stands id) (priority scale : Nat) :
    let u := s.startLayer n id priority scale
    u.layer n = ((s.layer n).waiting id priority scale).stop
      ∧ (∀ m < s.ru.layers.length, m ≠ n → (s.layer m).state ≠ .loading → u.layer m = s.layer m)
      ∧ u.sp.loadList = [] ∧ u.sp.load = none
      ∧ Member.patternMissing.isIn u.au.latch = true ∧ u.au.details.patternMissing = some id := by
  let w := s.setLayer n ((s.layer n).waiting id priority scale)
  have hfails : w.fails id = true := by
    show (!decide (s.stands id)) = true
    rw [decide_eq_false hbad]
    rfl
  have hlen : w.ru.layers.length = s.ru.layers.length := List.length_set ..
  have hw : ∀ m, w.layer m = if m = n then (s.layer n).waiting id priority scale else s.layer m :=
    fun m => s.layer_setLayer hn _ m
  have hu : s.startLayer n id priority scale = w.beginFrom [id] := State.startLayer_begins hf hl hlist priority scale
  have htake : [id].takeWhile w.fails = [id] := by simp [hfails]
  have hdrop : [id].dropWhile w.fails = [] := by simp [hfails]
  obtain ⟨hleft, hload⟩ := w.beginFrom_list [id]
  obtain ⟨hdetail, hlatch⟩ := w.missing_beginFrom [id]
  rw [hdrop] at hleft hload
  rw [htake] at hdetail hlatch
  intro u
  have hu : u = w.beginFrom [id] := hu
  rw [hu]
  refine ⟨?_, fun m hm hne hstate => ?_, hleft, hload, hlatch.mpr (.inl (List.cons_ne_nil _ _)), hdetail⟩
  · rw [w.layer_beginFrom [id] (hlen ▸ hn), htake, hw n, if_pos rfl, if_pos ⟨rfl, List.mem_singleton.mpr rfl⟩]
  · have hm' : w.layer m = s.layer m := by rw [hw m, if_neg hne]
    rw [w.layer_beginFrom [id] (hlen ▸ hm), hm', if_neg (fun hc => hstate hc.1)]

/-- R123: a start that waits leaves the cache. -/
theorem State.startLayer_cache {s : State} {n id : Nat} (hf : s.findPattern id = .load) (priority scale : Nat) :
    (s.startLayer n id priority scale).ru.cache = s.ru.cache := by
  rw [State.startLayer_of_load hf, State.beginLoad]
  have henqueue : ∀ u : State, (u.enqueue id).ru = u.ru := fun u => by
    rw [State.enqueue]
    split <;> rfl
  split
  · rw [henqueue]
    rfl
  · rw [State.beginFrom_cache, henqueue]
    rfl

end Sys2Proof.Machine

namespace Sys2Proof.Proofs

open Sys2Proof.Safety Sys2Proof.Machine

/-- R122: the bytes of the reply to an accepted RUMBLE-PLAY. -/
theorem playReply_started {s : State} (n : Nat) :
    flagByte (s.layer n).busy = if (s.layer n).state = .idle then 0 else 1 := by
  rw [Layer.busy_eq]
  by_cases h : (s.layer n).state = .idle
  · simp [h, flagByte]
  · simp [h, flagByte]

/-- Settles O43: the checks in their order; then a start on a record at hand, behind a load, or with the loader idle. -/
theorem rumblePlayStartsALayer : Obligations.RumblePlayStartsALayer := by
  unfold Obligations.RumblePlayStartsALayer
  intro h layer pattern priority scale s hl h3 n id c hosted cached replaced started
  let s' : State := { s with lp := s.lp.idleParser }
  have hrefused := State.playRefused_eq s layer pattern priority
  have hsame : s.playRefused layer pattern priority = s'.playRefused layer pattern priority := rfl
  rw [hsame] at hrefused
  split
  · rename_i hrange
    rw [if_pos hrange] at hrefused
    exact (exec_rumblePlay_eq ..).trans (request_refused hl (by rw [serveRumblePlay, hrefused]))
  rename_i hrange
  rw [if_neg hrange] at hrefused
  split
  · rename_i hmissing
    rw [if_pos hmissing] at hrefused
    exact (exec_rumblePlay_eq ..).trans (request_refused hl (by rw [serveRumblePlay, hrefused]))
  rename_i hmissing
  rw [if_neg hmissing] at hrefused
  split
  · rename_i hbusy
    rw [if_pos hbusy] at hrefused
    exact (exec_rumblePlay_eq ..).trans (request_refused hl (by rw [serveRumblePlay, hrefused]))
  rename_i hbusy
  rw [if_neg hbusy] at hrefused
  have hn : n < s'.ru.layers.length := by
    show n < s.ru.layers.length
    omega
  have hu : serveRumblePlay layer pattern priority scale .active s'
      = (s'.startLayer n id priority.toNat scale.toNat, some ⟨.ok, [layer, (s'.startState id).startedByte, replaced]⟩) := by
    rw [serveRumblePlay, hrefused, playReply_started]
    rfl
  obtain ⟨t, ht, hreq, hlp⟩ := request_layerWork (k := Kind.rumblePlay) (h := h) hl
    (LayerWork.startLayer s' n id priority.toNat scale.toNat) hu
  obtain ⟨hcues, hhost, hsc, hvoices, hkeep⟩ := hreq.rest
  refine ⟨t, ht, hcues, hhost, hsc, hvoices, hkeep, fun p hp => ?_, fun hid hnone => ?_⟩
  · have hf : s'.findPattern id = .ready p := State.findPattern_ready hp
    obtain ⟨hlayer, hcache⟩ := State.startLayer_ready hn hf priority.toNat scale.toNat
    refine ⟨?_, fun m _ hne => ?_, fun hid => ?_, fun hid => ?_, ?_⟩
    · rw [hreq.layer, hlayer, if_pos rfl]
      rfl
    · rw [hreq.layer, hlayer, if_neg hne]
      rfl
    · rw [if_neg (by omega)] at hp
      obtain ⟨x, hx, -⟩ := hp
      rw [hreq.cache, hcache, if_pos hid]
      refine cacheTouch_ids fun hnil => ?_
      have hnil : cached = [] := hnil
      rw [hnil] at hx
      exact absurd hx (by simp)
    · rw [hreq.cache, hcache, if_neg (by omega)]
    · rw [hlp, State.startState, hf]
      rfl
  · have hf : s'.findPattern id = .load := State.findPattern_load hid hnone
    refine ⟨hreq.cache.trans (State.startLayer_cache hf _ _), by rw [hlp, State.startState, hf]; rfl, fun hsome => ?_,
      ?_, ?_⟩
    · obtain ⟨l, hload⟩ := Option.isSome_iff_exists.mp hsome
      obtain ⟨hlayer, -, hlisted, hstay⟩ := State.startLayer_queued hn hf hload priority.toNat scale.toNat
      refine ⟨?_, fun m _ hne => ?_, hreq.list ▸ hlisted, hreq.load.trans hstay⟩
      · rw [hreq.layer, hlayer, if_pos rfl]
        rfl
      · rw [hreq.layer, hlayer, if_neg hne]
        rfl
    · intro hload hlist e hcount hsteps hmax hend
      obtain ⟨hlayer, hnext, hbegun⟩ := State.startLayer_stands hn hf hload hlist ⟨hcount, hsteps, hmax, hend⟩
        priority.toNat scale.toNat
      refine ⟨?_, fun m _ hne => ?_, hreq.list.trans hnext, hreq.load.trans hbegun⟩
      · rw [hreq.layer, hlayer, if_pos rfl]
        rfl
      · rw [hreq.layer, hlayer, if_neg hne]
        rfl
    · intro hload hlist e hbad
      have hno : ¬ s'.stands id := by
        show ¬ (id < s.sp.profile.patternCount ∧ 1 ≤ e.steps ∧ e.steps ≤ 32
          ∧ e.address + 4 + 3 * e.steps ≤ s.sp.profile.storeUnits * 65536)
        omega
      obtain ⟨hidle, hothers, hnext, hnever, hlatched, hnamed⟩ :=
        State.startLayer_fails hn hf hload hlist hno priority.toNat scale.toNat
      refine ⟨?_, fun m hm hne hstate => ?_, hreq.list.trans hnext, hreq.load.trans hnever, ?_, ?_⟩
      · rw [hreq.layer, hidle]
        rfl
      · rw [hreq.layer]
        exact hothers m (by show m < s.ru.layers.length; omega) hne hstate
      · rw [hreq.latch]
        exact hlatched
      · rw [hreq.details]
        exact hnamed

end Sys2Proof.Proofs
end

section
/-! O25: the end of a pattern load (R40, R42, R119, R120). -/

namespace Sys2Proof.Machine

open Sys2Proof.Safety

/-! ### The completion of a fetch (R31) -/

/-- R31: the state in which the bytes of a fetch reach its requester: the clock has run on, the port is free. -/
def State.fetched (s : State) (f : Fetch) (mv : Nat) : State :=
  { movedTo s f.due with sp := { s.sp with fetch := none }, sb := { s.sb with cellMv := mv } }

theorem exec_fetchCompletion_eq {s : State} {f : Fetch} {data : List Byte} (hq : Quiet s) (hf : s.sp.fetch = some f)
    (hd : data.length = f.size) (mv : Nat) :
    exec (.fetchCompletion data mv) s = .next (State.conclude s ((s.fetched f mv).deliver f data)) := by
  show execFetchCompletion data mv s = _
  unfold execFetchCompletion State.fetchDone
  simp only [hf, if_pos hd]
  rw [State.elapseTo, State.elapse_quiet s _ hq.1 hq.2]
  rfl

/-- R159: the way to the completion of a fetch brings up no condition. -/
theorem State.fetched_report {s : State} (h : s.report = s) (f : Fetch) (mv : Nat) :
    (s.fetched f mv).report = s.fetched f mv :=
  State.report_of_reported h rfl rfl (ClockUnit.count_valid _ _ _) rfl rfl rfl id rfl rfl rfl

/-- R159, R167: the close, in ACTIVE with no AWAIT held, of an event that brings up no condition. -/
theorem State.conclude_reported {s0 x : State} (hp : x.sb.power = .active) (ha : x.lp.await = none)
    (hr : x.report = x) : State.conclude s0 x = x.serviceStore.refresh := by
  obtain ⟨y, hy, hc⟩ := State.conclude_active s0 hp
  rw [hy, hc.noAwait ha, hr]

/-! ### The record of a load (R41, R42) -/

/-- R42: the checks of the record that a load has brought. -/
theorem Load.good_iff (l : Load) : l.good = true
    ↔ (byteAt l.buffer 0).toNat = l.steps ∧ ∀ x ∈ (patternOf l.buffer l.steps).steps, x.duration ≠ 0 := by
  simp [Load.good]

/-- R42: the end of a load, before the next id of the list is looked at. -/
def State.loadEnded (s : State) (id : Nat) (queue : List Nat) (l : Load) : State :=
  let s1 := { s with sp := { s.sp with loadList := queue, load := none } }
  if l.good then s1.loadDone id (patternOf l.buffer l.steps) else s1.loadFailed id

theorem State.endLoad_eq {s : State} {id : Nat} {queue : List Nat} (h : s.sp.loadList = id :: queue) (l : Load) :
    s.endLoad l = (s.loadEnded id queue l).beginFrom queue := by
  have hport : (s.loadEnded id queue l).sp = { s.sp with loadList := queue, load := none } := by
    unfold State.loadEnded
    simp only
    split <;> rfl
  have hend : s.endLoad l = (s.loadEnded id queue l).beginLoad := by
    unfold State.endLoad
    simp only [h]
    rfl
  rw [hend, State.beginLoad, hport]

/-- R41, R42: the fetch that completes the record ends the load. -/
theorem State.deliverLoader_last {s : State} {l : Load} {id : Nat} {queue : List Nat} {data : List Byte}
    (hl : s.sp.load = some l) (hlist : s.sp.loadList = id :: queue) (hsize : l.size = l.buffer.length + data.length) :
    s.deliverLoader data
      = (s.loadEnded id queue { l with buffer := l.buffer ++ data }).beginFrom queue := by
  have hfull : l.size ≤ (l.buffer ++ data).length := by rw [List.length_append]; omega
  unfold State.deliverLoader
  simp only [hl, if_pos hfull]
  exact State.endLoad_eq (s := { s with sp := { s.sp with load := some { l with buffer := l.buffer ++ data } } }) hlist _

/-- R117, R120: layer work leaves the cues, the host slots, the voices, the supply record and the Link Port. -/
theorem LayerWork.cues {s t : State} (h : LayerWork s t) : t.ru.cues = s.ru.cues := by
  obtain ⟨_, _, _, _, _, _, rfl⟩ := h.rest
  rfl

theorem LayerWork.host {s t : State} (h : LayerWork s t) : t.ru.host = s.ru.host := by
  obtain ⟨_, _, _, _, _, _, rfl⟩ := h.rest
  rfl

theorem LayerWork.voices {s t : State} (h : LayerWork s t) : t.se.voices = s.se.voices := by
  obtain ⟨_, _, _, _, _, _, rfl⟩ := h.rest
  rfl

theorem LayerWork.supply {s t : State} (h : LayerWork s t) : t.sb = s.sb := by
  obtain ⟨_, _, _, _, _, _, rfl⟩ := h.rest
  rfl

theorem LayerWork.link {s t : State} (h : LayerWork s t) : t.lp = s.lp := by
  obtain ⟨_, _, _, _, _, _, rfl⟩ := h.rest
  rfl

theorem LayerWork.loadEnded (s : State) (id : Nat) (queue : List Nat) (l : Load) :
    LayerWork s (s.loadEnded id queue l) := by
  have h1 : LayerWork s { s with sp := { s.sp with loadList := queue, load := none } } :=
    ⟨⟨_, _, _, _, _, _, rfl⟩, fun _ _ => rfl⟩
  unfold State.loadEnded
  simp only
  split
  · exact h1.trans ⟨⟨_, _, _, _, _, _, rfl⟩, fun _ _ => rfl⟩
  · exact h1.trans (LayerWork.loadFailed _ _)

/-- R119, R120: the layers that wait for a load run when it ends good, and become IDLE when it ends bad. -/
theorem State.layer_loadEnded (s : State) (id : Nat) (queue : List Nat) (l : Load) {n : Nat}
    (hn : n < s.ru.layers.length) : (s.loadEnded id queue l).layer n =
      if (s.layer n).state = .loading ∧ (s.layer n).id = id then
        if l.good then (s.layer n).run (patternOf l.buffer l.steps) else (s.layer n).stop
      else s.layer n := by
  unfold State.loadEnded
  simp only
  by_cases hg : l.good = true
  · simp only [if_pos hg]
    exact State.layer_mapLayers ({ s with sp := { s.sp with loadList := queue, load := none } }.place id
      (patternOf l.buffer l.steps)) _ hn
  · simp only [if_neg hg]
    exact State.layer_loadFailed _ id hn

/-- R120: a load that ends bad raises PATTERN_MISSING with its id. -/
theorem State.missing_loadEnded (s : State) (id : Nat) (queue : List Nat) (l : Load) :
    (s.loadEnded id queue l).au.details.patternMissing = (if l.good then s.au.details.patternMissing else some id)
    ∧ (Member.patternMissing.isIn (s.loadEnded id queue l).au.latch = true
      ↔ ¬ l.good = true ∨ Member.patternMissing.isIn s.au.latch = true) := by
  unfold State.loadEnded
  simp only
  by_cases hg : l.good = true
  · simp only [hg]
    exact ⟨rfl, by simp [State.loadDone, State.place, State.mapLayers]⟩
  · simp only [if_neg hg]
    exact ⟨rfl, by simp only [State.loadFailed, State.raisePatternMissing, raise_latch, hg]; simp⟩

/-- R40: the end of a load leaves the directory, and with it the entries that stand. -/
theorem State.fails_loadEnded (s : State) (id : Nat) (queue : List Nat) (l : Load) :
    (s.loadEnded id queue l).fails = s.fails := by
  unfold State.loadEnded
  simp only
  split <;> rfl

theorem State.calledLoad_loadEnded (s : State) (id : Nat) (queue : List Nat) (l : Load) :
    (s.loadEnded id queue l).calledLoad = s.calledLoad := by
  unfold State.loadEnded
  simp only
  split <;> rfl

theorem State.length_loadEnded (s : State) (id : Nat) (queue : List Nat) (l : Load) :
    (s.loadEnded id queue l).ru.layers.length = s.ru.layers.length := by
  unfold State.loadEnded
  simp only
  split
  · exact List.length_mapIdx ..
  · exact List.length_mapIdx ..

/-! ### The cache (R117, R119) -/

theorem State.cacheInUse_eq (s : State) (id : Nat) :
    s.cacheInUse id = s.ru.layers.any fun l => decide (l.state ≠ .idle ∧ l.id = id) := by
  unfold State.cacheInUse
  congr 1
  funext l
  rw [Layer.busy_eq, Bool.decide_and]
  rfl

/-- The last element of a list that a predicate names is erased from behind. -/
theorem reverse_eraseP_reverse {α : Type} {p : α → Bool} {as bs : List α} {a : α} (ha : p a = true)
    (hbs : ∀ b ∈ bs, ¬ p b = true) : ((as ++ a :: bs).reverse.eraseP p).reverse = as ++ bs := by
  rw [List.reverse_append, List.reverse_cons, List.append_assoc,
    List.eraseP_append_right _ (fun b hb => hbs b (List.mem_reverse.mp hb)), List.singleton_append,
    List.eraseP_cons_of_pos ha]
  simp

/-- R119: the victim is the entry latest in the recency order among those not in use. -/
theorem State.withoutVictim_eq {s : State} {i : Nat} (hi : i < s.ru.cache.length)
    (hlater : ∀ x ∈ s.ru.cache.drop (i + 1), s.cacheInUse x.id = true) (hfree : s.cacheInUse s.ru.cache[i].id = false) :
    s.withoutVictim = s.ru.cache.take i ++ s.ru.cache.drop (i + 1) := by
  have hsplit : s.ru.cache = s.ru.cache.take i ++ s.ru.cache[i] :: s.ru.cache.drop (i + 1) := by
    rw [← List.drop_eq_getElem_cons hi, List.take_append_drop]
  unfold State.withoutVictim
  conv_lhs => rw [hsplit]
  exact reverse_eraseP_reverse (by simp [hfree]) fun b hb => by simp [hlater b hb]

/-- R117, R119: only a load that ends good places a record. -/
theorem State.cache_loadEnded (s : State) (id : Nat) (queue : List Nat) (l : Load) :
    (s.loadEnded id queue l).ru.cache =
      if l.good then { id := id, pattern := patternOf l.buffer l.steps }
        :: (if s.ru.cache.length < 8 then s.ru.cache else s.withoutVictim)
      else s.ru.cache := by
  unfold State.loadEnded
  simp only
  split <;> rfl

end Sys2Proof.Machine

namespace Sys2Proof.Proofs

open Sys2Proof.Safety Sys2Proof.Machine

/-- Settles O25: the load that ends is said by `loadEnded`, the ids behind it by the rules of `beginFrom`. -/
theorem loadEnds : Obligations.LoadEnds := by
  unfold Obligations.LoadEnds
  intro f l id queue data mv s hs hp hq ha hf hreq hab hd hl hlist hid _ h3 hsize record k steps p good entry stands left
    failed inUse placed
  let s2 := s.fetched f mv
  let l' : Load := { l with buffer := l.buffer ++ data }
  let w := s2.loadEnded id queue l'
  let u := w.beginFrom queue
  have hgood : l'.good = true ↔ good := Load.good_iff l'
  have hfails : w.fails = fun x => !stands x := s2.fails_loadEnded id queue l'
  have hwork : LayerWork s2 u := (LayerWork.loadEnded s2 id queue l').trans (LayerWork.beginFrom w queue)
  have hdeliver : s2.deliver f data = u := by
    unfold State.deliver
    simp only [hab, hreq]
    exact State.deliverLoader_last hl hlist (hsize.trans (by rw [hd]))
  have hrep : u.report = u := hwork.reported (State.fetched_report hs.1 f mv)
  have hclose : State.conclude s u = u.serviceStore.refresh :=
    State.conclude_reported ((congrArg Supply.power hwork.supply).trans hp)
      ((congrArg LinkPort.await hwork.link).trans ha) hrep
  have hc := State.closes u
  obtain ⟨-, -, -, hlistc, hloadc⟩ := hc.store
  obtain ⟨hnext, hbegun⟩ := w.beginFrom_list queue
  obtain ⟨hdetail, hlatch⟩ := w.missing_beginFrom queue
  obtain ⟨hended, hlatched⟩ := s2.missing_loadEnded id queue l'
  have hcalled : w.calledLoad = s2.calledLoad := s2.calledLoad_loadEnded id queue l'
  have hlen : s2.ru.layers.length = 3 := h3
  have hrest : u.serviceStore.refresh.ru = { u.ru with applied := u.serviceStore.refresh.ru.applied } :=
    hc.rumble ▸ rfl
  have hcache : u.serviceStore.refresh.ru.cache = _ :=
    (congrArg RumbleUnit.cache hrest).trans ((w.beginFrom_cache queue).trans (s2.cache_loadEnded id queue l'))
  have hlayer : ∀ n, u.serviceStore.refresh.layer n = u.layer n := fun n => by
    rw [State.layer, hc.layers]
    rfl
  refine ⟨u.serviceStore.refresh, ?_, ?_, ?_, ?_, ?_, ?_, ?_, ?_, fun n hn => ?_, fun hno => ?_, fun hyes hfew => ?_,
    fun hyes hfull i hi hlater hfree => ?_⟩
  · rw [exec_fetchCompletion_eq hq hf hd, hdeliver, hclose]
  · rw [hlistc, hnext, hfails]
  · rw [hloadc, hbegun, hfails, hcalled]
    rfl
  · exact (congrArg RumbleUnit.cues hrest).trans hwork.cues
  · exact (congrArg RumbleUnit.host hrest).trans hwork.host
  · exact (State.serviceStore_sameVoices u).trans
      (congrArg (List.map fun v : Voice => { v with request := false }) hwork.voices)
  · rw [hc.details, hdetail, hfails, hended]
    simp only [hgood]
    rfl
  · rw [hc.latch, hlatch, hfails, hlatched, hgood]
    rfl
  · have hw : w.layer n = _ := s2.layer_loadEnded id queue l' (hlen ▸ hn)
    have hs2 : s2.layer n = s.layer n := rfl
    rw [hs2] at hw
    rw [hlayer, w.layer_beginFrom queue (by rw [s2.length_loadEnded]; exact hlen ▸ hn), hfails]
    by_cases hwaits : (s.layer n).state = .loading ∧ (s.layer n).id = id
    · obtain ⟨hloading, hthis⟩ := hwaits
      rw [if_pos ⟨hloading, hthis⟩] at hw
      have hover : (w.layer n).state ≠ .loading := by
        rw [hw]
        split
        · exact fun h => LayerState.noConfusion h
        · exact fun h => LayerState.noConfusion h
      rw [if_neg (fun h => hover h.1), hw]
      by_cases hg : good
      · have hnot : ¬ ((s.layer n).id ∈ failed ∨ (s.layer n).id = id ∧ ¬ good) := by
          rintro (hmem | ⟨-, hbad⟩)
          · exact hid (hthis ▸ List.takeWhile_subset _ hmem)
          · exact hbad hg
        rw [if_pos (hgood.mpr hg), if_neg (fun h => hnot h.2), if_pos ⟨hloading, hthis⟩]
        rfl
      · rw [if_neg (fun h => hg (hgood.mp h)), if_pos ⟨hloading, .inr ⟨hthis, hg⟩⟩]
        rfl
    · rw [if_neg hwaits] at hw
      rw [hw, if_neg hwaits]
      by_cases hmem : (s.layer n).state = .loading ∧ (s.layer n).id ∈ failed
      · rw [if_pos hmem, if_pos ⟨hmem.1, .inl hmem.2⟩]
        rfl
      · rw [if_neg hmem, if_neg fun h => h.2.elim (fun hm => hmem ⟨h.1, hm⟩) fun hb => hwaits ⟨h.1, hb.1⟩]
  · rw [hcache, if_neg (fun h => hno (hgood.mp h))]
    rfl
  · rw [hcache, if_pos (hgood.mpr hyes)]
    exact congrArg placed (if_pos hfew)
  · have hvictim : s2.withoutVictim = s.ru.cache.take i ++ s.ru.cache.drop (i + 1) := by
      refine s2.withoutVictim_eq (i := i) hi (fun x hx => ?_) ?_
      · rw [State.cacheInUse_eq]
        exact hlater x hx
      · rw [State.cacheInUse_eq]
        rw [List.getD_eq_getElem _ _ hi] at hfree
        exact hfree
    rw [hcache, if_pos (hgood.mpr hyes), ← hvictim]
    exact congrArg placed (if_neg (Nat.not_lt.mpr hfull))

end Sys2Proof.Proofs
end

section
/-! O24: the delivery of a fetch (R31, R36, R37, R41, R45) and the power-up reads (R182 to R184, R187). -/

namespace Sys2Proof.Machine

open Sys2Proof.Safety

/-! ### The profile image (R183) -/

/-- R183: the sizes that no layout may have. -/
theorem layoutLegal_iff {sizes : List Nat} (h1 : 1 ≤ sizes.length) (h8 : sizes.length ≤ 8) : layoutLegal sizes = false
    ↔ (∃ z ∈ sizes, z % 256 ≠ 0 ∨ z < 256 ∨ 32768 < z) ∨ 63488 < (sizes.map (· + 32)).sum := by
  have hsome : (sizes.all fun z => decide (z % 256 = 0) && decide (256 ≤ z) && decide (z ≤ 32768)) = false
      ↔ ∃ z ∈ sizes, z % 256 ≠ 0 ∨ z < 256 ∨ 32768 < z := by
    rw [List.all_eq_false]
    refine exists_congr fun z => and_congr_right fun _ => ?_
    simp only [Bool.and_eq_true, decide_eq_true_eq]
    omega
  rw [layoutLegal, decide_eq_true h1, decide_eq_true h8, Bool.true_and, Bool.true_and, Bool.and_eq_false_iff, hsome,
    decide_eq_false_iff_not, Nat.not_le]

/-- R183 (4): the fields out of range, of a profile with eight sizes. -/
theorem Profile.outOfRange_iff {p : Profile} (h8 : p.sizes.length = 8) : p.outOfRange = true ↔
    p.storeUnits < 1 ∨ 256 < p.storeUnits ∨ p.slotCount < 1 ∨ 8 < p.slotCount
      ∨ (∃ z ∈ p.sizes.take p.slotCount, z % 256 ≠ 0 ∨ z < 256 ∨ 32768 < z)
      ∨ 63488 < ((p.sizes.take p.slotCount).map (· + 32)).sum
      ∨ 23 < p.hour ∨ 59 < p.minute ∨ p.catchUp < 1 ∨ 1000 < p.catchUp ∨ p.catchUp < p.setCredit
      ∨ p.allowance < 40 ∨ 150 < p.allowance ∨ p.allowance % 5 ≠ 0 ∨ 64 < p.patternCount
      ∨ 0 < p.patternCount ∧ p.storeUnits * 65536 < p.directory + 256 := by
  simp only [Profile.outOfRange, Bool.or_eq_true, Bool.and_eq_true, decide_eq_true_eq, Bool.not_eq_true',
    Profile.rawLayout]
  by_cases hcount : p.slotCount < 1 ∨ 8 < p.slotCount
  · obtain hnone | hmany := hcount
    · simp only [hnone, true_or, or_true]
    · simp only [hmany, true_or, or_true]
  · have hlen : (p.sizes.take p.slotCount).length = p.slotCount := by rw [List.length_take]; omega
    rw [layoutLegal_iff (by omega) (by omega)]
    simp only [or_assoc]

/-- R183: the layout of an image whose fields are in range is the image's own. -/
theorem layout_of_imageGood {img : List Byte} (h : ¬ imageBad img = true) :
    (profileOf img).layout = (profileOf img).rawLayout := by
  have hlegal : layoutLegal (profileOf img).rawLayout = true := by
    by_contra hill
    exact h (by simp [imageBad, Profile.outOfRange, hill])
  rw [Profile.layout, if_pos hlegal]

/-- R183: a byte list of one value. -/
theorem all_take_iff {img : List Byte} (h : 16 ≤ img.length) (b : Byte) :
    (img.take 16).all (· == b) = true ↔ ∀ i < 16, byteAt img i = b := by
  rw [List.all_eq_true]
  constructor
  · intro hall i hi
    have hmem : byteAt img i ∈ img.take 16 := by
      rw [byteAt, List.getD_eq_getElem _ _ (by omega)]
      exact List.mem_take_iff_getElem.mpr ⟨i, by omega, rfl⟩
    exact eq_of_beq (hall _ hmem)
  · intro hall x hx
    obtain ⟨i, hi, rfl⟩ := List.mem_take_iff_getElem.mp hx
    have hi' := hall i (by omega)
    rw [byteAt, List.getD_eq_getElem _ _ (by omega)] at hi'
    exact beq_iff_eq.mpr hi'

/-- R183: the checks of a profile image. -/
theorem imageBad_iff {img : List Byte} (h : img.length = 64) : imageBad img = true ↔
    (∀ i < 16, byteAt img i = 0) ∨ (∀ i < 16, byteAt img i = 0xFF)
      ∨ byteAt img 0 ≠ 0x50 ∨ byteAt img 1 ≠ 0x4A ∨ byteAt img 2 ≠ 1
      ∨ half img 62 ≠ crc16 (img.take 62) ∨ (profileOf img).outOfRange = true := by
  have hmagic : (img.take 2 != profileMagic) = true ↔ byteAt img 0 ≠ 0x50 ∨ byteAt img 1 ≠ 0x4A := by
    obtain ⟨a, b, rest, rfl⟩ : ∃ a b rest, img = a :: b :: rest := by
      match img, h with
      | a :: b :: rest, _ => exact ⟨a, b, rest, rfl⟩
    simp [profileMagic, byteAt]
    tauto
  simp only [imageBad, Bool.or_eq_true, all_take_iff (show 16 ≤ img.length by omega), hmagic, bne_iff_ne,
    or_assoc]

/-! ### The close of a fetch's event -/

/-- R154, R167: the close of an event that brings up nothing wakes nothing and ends no AWAIT. -/
theorem State.conclude_same {s x : State} (hr : x.report = x) (hl : x.au.latch = s.au.latch) :
    State.conclude s x = x.serviceStore.refresh :=
  x.conclude_quiet s hr (by rw [hl]; exact BitVec.and_not_self _)

/-- R159: in WAKING no condition is reported. -/
theorem State.report_waking {s : State} (h : s.sb.power = .waking) : s.report = s :=
  s.reported_iff.mpr fun hawake => by rw [h] at hawake; cases hawake

theorem State.conclude_now (s0 s : State) : (State.conclude s0 s).now = s.now := by
  have hwake : ∀ fresh, (s.report.wakeBy fresh).now = s.report.now := fun fresh => by
    unfold State.wakeBy
    split <;> rfl
  unfold State.conclude State.attend
  obtain ⟨_, _, _, _, hawait⟩ := (s.report.wakeBy (s.report.au.latch &&& ~~~ s0.au.latch)).endAwait_rest
    (s.report.au.latch &&& ~~~ s0.au.latch)
  rw [State.refresh_now, State.serviceStore_now, hawait]
  exact (hwake _).trans s.report_now

/-! ### Voice fetches (R36, R37) -/

/-- R36, R37: a voice after a fetch granted to it has completed. -/
def Voice.fetchedBy (v : Voice) (f : Fetch) (data : List Byte) : Voice :=
  if f.abandoned = false ∧ v.generation = f.generation ∧ v.state ≠ .idle then v.take f.size data else v

/-- R32, R36: a matched completion in the rules' own terms. -/
theorem Voice.take_eq (v : Voice) (n : Nat) (data : List Byte) : v.take n data = { v with
    owed := v.owed - min v.owed n
    ring := v.ring ++ data.drop (min v.owed n)
    fetchAddr :=
      if v.loopLength ≠ 0 ∧ v.start + (v.loopStart + v.loopLength) * sampleBytes v ≤ v.fetchAddr + n then
        v.start + v.loopStart * sampleBytes v
          + (v.fetchAddr + n - (v.start + (v.loopStart + v.loopLength) * sampleBytes v)) % (v.loopLength * sampleBytes v)
      else v.fetchAddr + n } := by
  unfold Voice.take Voice.advanceFetch Voice.fetchEnd
  by_cases hloop : v.loopLength = 0
  · simp [Voice.looped_eq, hloop]
  · simp only [Voice.looped_eq, hloop, ne_eq, not_false_eq_true, decide_true, Bool.true_and, decide_eq_true_eq, true_and,
      if_true, Voice.width_eq, Voice.loopEnd]
    split <;> rfl

theorem State.setVoice_self (s : State) (n : Nat) : s.setVoice n (s.voice n) = s := by
  have hset : s.se.voices.set n (s.voice n) = s.se.voices := by
    refine List.ext_getElem (List.length_set ..) fun m hm _ => ?_
    rw [List.getElem_set]
    split
    · rename_i hnm
      subst hnm
      exact List.getD_eq_getElem _ _ _
    · rfl
  rw [State.setVoice, hset]

/-- R36, R37, R43: the bytes of a voice fetch reach the voice if they are matched, and otherwise none. -/
theorem State.deliver_voice {s : State} {f : Fetch} {n : Nat} (hr : f.requester = .voice n) (data : List Byte) :
    s.deliver f data = s.setVoice n ((s.voice n).fetchedBy f data) := by
  unfold State.deliver
  cases hab : f.abandoned with
  | true =>
    have hnone : (s.voice n).fetchedBy f data = s.voice n := by simp [Voice.fetchedBy, hab]
    rw [hnone, s.setVoice_self]
    rfl
  | false =>
    simp only [hr]
    show s.deliverVoice n f data = _
    have hbusy : (s.voice n).busy = true ↔ (s.voice n).state ≠ .idle := by simp [Voice.busy]
    unfold State.deliverVoice Voice.fetchedBy
    simp only [hab, hbusy, true_and]
    split
    · rfl
    · exact (s.setVoice_self n).symm

/-! ### The loader's and the reader's fetches (R41, R45) -/

/-- R41: bytes that are not yet the last of the record are appended. -/
theorem State.deliverLoader_more {s : State} {l : Load} {data : List Byte} (hl : s.sp.load = some l)
    (hmore : l.buffer.length + data.length < l.size) : s.deliverLoader data
      = { s with sp := { s.sp with load := some { l with buffer := l.buffer ++ data } } } := by
  have hshort : ¬ l.size ≤ (l.buffer ++ data).length := by rw [List.length_append]; omega
  unfold State.deliverLoader
  simp only [hl, if_neg hshort]

/-- R45: the reader with the bytes of a fetch appended. -/
def State.readOn (s : State) (data : List Byte) : State := { s with sp := { s.sp with reader := s.sp.reader ++ data } }

/-- R45: bytes that are not yet the last of the read are appended. -/
theorem State.deliverReader_more {s : State} {data : List Byte}
    (hmore : (s.sp.reader ++ data).length < s.readerSpan.2) : s.deliverReader data = s.readOn data :=
  if_pos hmore

/-- R182: the last bytes of the profile image. -/
theorem State.deliverReader_profile {s : State} {data : List Byte} (hp : s.sb.power = .waking) (hst : s.sb.stage = 4)
    (hfull : (s.sp.reader ++ data).length = 64) : s.deliverReader data = (s.readOn data).takeProfile := by
  have hspan : ¬ (s.readOn data).sp.reader.length < (s.readOn data).readerSpan.2 := by
    rw [State.readerSpan, if_pos (show (s.readOn data).sb.stage = 4 from hst)]
    show ¬ (s.sp.reader ++ data).length < 64
    omega
  have hstage : (s.readOn data).inStage 4 = true := by simp [State.inStage, State.readOn, hp, hst]
  unfold State.deliverReader
  exact (if_neg hspan).trans (if_pos hstage)

/-- R187: the last bytes of the directory. -/
theorem State.deliverReader_directory {s : State} {data : List Byte} (hp : s.sb.power = .waking) (hst : s.sb.stage = 6)
    (hfull : (s.sp.reader ++ data).length = 256) : s.deliverReader data = (s.readOn data).takeDirectory := by
  have hspan : ¬ (s.readOn data).sp.reader.length < (s.readOn data).readerSpan.2 := by
    rw [State.readerSpan, if_neg (show ¬ (s.readOn data).sb.stage = 4 by simp [State.readOn, hst]),
      if_pos (show (s.readOn data).sb.stage = 6 from hst)]
    show ¬ (s.sp.reader ++ data).length < 256
    omega
  have hstage4 : ¬ (s.readOn data).inStage 4 = true := by simp [State.inStage, State.readOn, hst]
  have hstage6 : (s.readOn data).inStage 6 = true := by simp [State.inStage, State.readOn, hp, hst]
  unfold State.deliverReader
  exact (if_neg hspan).trans ((if_neg hstage4).trans (if_pos hstage6))

/-! ### The last stages of WAKING (R71, R187) -/

/-- R92, R107: before ACTIVE a reckoning reaches the Day Reckoner and the events alone. -/
theorem State.reckonPowerUp_rest {s : State} (h : s.sb.power = .waking) :
    ∃ dr au, s.reckonPowerUp = { s with dr := dr, au := au } := by
  unfold State.reckonPowerUp State.reckon
  split
  · exact ⟨_, _, rfl⟩
  · unfold State.reckonNow State.fire State.raiseDayTurn
    simp only [h, reduceCtorEq, if_false]
    split
    · exact ⟨_, _, rfl⟩
    · exact ⟨_, _, rfl⟩

/-- R187: what stages 8 to 11 leave: all but the Day Reckoner, attention, the engine, the Rumble Unit, the cell class
and the stage. -/
theorem State.finishWaking_rest {s : State} (h : s.sb.power = .waking) :
    ∃ dr au se ru cell, s.finishWaking = { s with
      dr := dr, au := au, se := se, ru := ru
      sb := { s.sb with power := .active, cell := cell, stage := 11, stageStart := s.now } } := by
  obtain ⟨dr, au, hr⟩ := State.reckonPowerUp_rest (s := s.measureCell.beginStage 9) h
  unfold State.finishWaking
  rw [hr]
  exact ⟨_, _, _, _, _, rfl⟩

/-- R71: the scrub begins with slot 1. -/
theorem State.stageScrub_usable {s : State} (h : s.sc.layoutState = .usable) : s.stageScrub = { s with
    sc := { s.sc with slots := [] }, sb := { s.sb with stage := 7, stageStart := s.now, scrubSlot := 1 } } := by
  unfold State.stageScrub
  exact if_neg (by rw [h]; decide)

/-- R71, R187: under NO_LAYOUT there is nothing to scrub, and WAKING ends. -/
theorem State.stageScrub_noLayout {s : State} (hp : s.sb.power = .waking) (h : s.sc.layoutState = .noLayout) :
    ∃ dr au se ru cell, s.stageScrub = { s with
      dr := dr, au := au, se := se, ru := ru, sc := { s.sc with slots := [] }
      sb := { s.sb with power := .active, cell := cell, stage := 11, stageStart := s.now } } := by
  obtain ⟨dr, au, se, ru, cell, hend⟩ :=
    State.finishWaking_rest (s := { s with sc := { s.sc with slots := [] } }.beginStage 7) hp
  refine ⟨dr, au, se, ru, cell, ?_⟩
  unfold State.stageScrub
  exact (if_pos h).trans hend

/-- What the profile read leaves to stand for the stages behind it (R183, R184). -/
def State.bootPart (s : State) :
    Profile × List Byte × ProfileStatus × Nat × Bool × Option FormatKind × Option FormatRun × LayoutState :=
  (s.sp.profile, s.sp.reader, s.sb.profileStatus, s.sb.allowance, s.sb.decided, s.sb.formatKind, s.sb.format,
    s.sc.layoutState)

/-- What a power-up read leaves alone: keep memory, the face word and the time. -/
structure BootWork (s t : State) : Prop where
  rest : ∃ au se sp sc dr ru sb, t = { s with au := au, se := se, sp := sp, sc := sc, dr := dr, ru := ru, sb := sb }

theorem BootWork.trans {s t u : State} (h : BootWork s t) (h' : BootWork t u) : BootWork s u := by
  obtain ⟨_, _, _, _, _, _, _, rfl⟩ := h.rest
  obtain ⟨_, _, _, _, _, _, _, rfl⟩ := h'.rest
  exact ⟨_, _, _, _, _, _, _, rfl⟩

theorem BootWork.fields {s t : State} (h : BootWork s t) : t.now = s.now ∧ t.keep = s.keep ∧ t.face = s.face := by
  obtain ⟨_, _, _, _, _, _, _, rfl⟩ := h.rest
  exact ⟨rfl, rfl, rfl⟩

/-! ### The format decision (R184) -/

/-- R184: the decision, by whether the image was defaulted. -/
theorem State.formatDecision_eq {s : State} {bad : Prop} [Decidable bad]
    (h : s.sb.profileStatus = if bad then .defaulted else .fromStore) : s.formatDecision =
      (if s.sb.intact = false then some .full else if bad then none
        else if s.sp.profile.gameCode ≠ recordedCode s.keep then some .full
        else if s.layout ≠ recordedLayout s.keep then some .slots else none,
      if s.sb.intact = true ∧ bad ∧ s.layout ≠ recordedLayout s.keep then .noLayout else .usable) := by
  unfold State.formatDecision
  cases s.sb.intact with
  | false => simp
  | true =>
    by_cases hbad : bad
    · by_cases hlayout : s.layout = recordedLayout s.keep <;> simp [h, hbad, hlayout]
    · by_cases hcode : s.sp.profile.gameCode = recordedCode s.keep
      · by_cases hlayout : s.layout = recordedLayout s.keep <;> simp [h, hbad, hcode, hlayout]
      · simp [h, hbad, hcode]

/-- R183, R184: the state with the profile validated and the format decision recorded. -/
def State.decided (s : State) : State :=
  { s with
    sc := { s.sc with layoutState := s.formatDecision.2 }
    sb := { s.sb with
      decided := true, formatKind := s.formatDecision.1
      format := s.formatDecision.1.map fun k => { kind := k, made := 0, ran := 0 } } }

/-- R184: the format decided on begins, or stage 5 ends at once. -/
theorem State.decideFormat_eq (s : State) :
    s.decideFormat = if s.formatDecision.1 = none then s.decided.stageDirectory else s.decided := by
  have hcases : s.decideFormat = match s.formatDecision.1 with
      | some _ => s.decided
      | none => s.decided.stageDirectory := rfl
  rw [hcases]
  split
  · rename_i k hk
    rw [if_neg (by rw [hk]; exact Option.some_ne_none k)]
  · rename_i hnone
    rw [if_pos hnone]

/-- R187: the directory is read. -/
theorem State.stageDirectory_reads {s : State} (h : s.sb.profileStatus = .fromStore ∧ 0 < s.sp.profile.patternCount) :
    s.stageDirectory = s.beginStage 6 := if_pos h

/-- R187: there is no directory to read. -/
theorem State.stageDirectory_empty {s : State}
    (h : ¬ (s.sb.profileStatus = .fromStore ∧ 0 < s.sp.profile.patternCount)) : s.stageDirectory
      = { s.beginStage 6 with sp := { s.sp with directory := List.replicate 64 {} } }.stageScrub := if_neg h

/-- R182 to R187: the power-up reads leave keep memory, the face word and the time. -/
theorem BootWork.stageScrub {s : State} (h : s.sb.power = .waking) : BootWork s s.stageScrub := by
  cases hl : s.sc.layoutState with
  | usable =>
    rw [State.stageScrub_usable hl]
    exact ⟨_, _, _, _, _, _, _, rfl⟩
  | noLayout =>
    obtain ⟨_, _, _, _, _, hend⟩ := State.stageScrub_noLayout h hl
    rw [hend]
    exact ⟨_, _, _, _, _, _, _, rfl⟩

theorem BootWork.stageDirectory {s : State} (h : s.sb.power = .waking) : BootWork s s.stageDirectory := by
  by_cases hread : s.sb.profileStatus = .fromStore ∧ 0 < s.sp.profile.patternCount
  · rw [State.stageDirectory_reads hread]
    exact ⟨_, _, _, _, _, _, _, rfl⟩
  · rw [State.stageDirectory_empty hread]
    have hempty : BootWork s { s.beginStage 6 with sp := { s.sp with directory := List.replicate 64 {} } } :=
      ⟨_, _, _, _, _, _, _, rfl⟩
    exact hempty.trans (BootWork.stageScrub h)

theorem BootWork.deliverReader (s : State) (data : List Byte) : BootWork s (s.deliverReader data) := by
  have hread : BootWork s (s.readOn data) := ⟨_, _, _, _, _, _, _, rfl⟩
  show BootWork s (if (s.readOn data).sp.reader.length < (s.readOn data).readerSpan.2 then s.readOn data
    else if (s.readOn data).inStage 4 then (s.readOn data).takeProfile
    else if (s.readOn data).inStage 6 then (s.readOn data).takeDirectory
    else s.readOn data)
  split
  · exact hread
  split
  · rename_i h4
    obtain ⟨hp, -⟩ : (s.readOn data).sb.power = .waking ∧ (s.readOn data).sb.stage = 4 := by
      simpa [State.inStage] using h4
    let z := ((s.readOn data).beginStage 5).validateProfile
    have hz : BootWork (s.readOn data) z.decided := ⟨_, _, _, _, _, _, _, rfl⟩
    show BootWork s z.decideFormat
    rw [State.decideFormat_eq]
    split
    · exact (hread.trans hz).trans (BootWork.stageDirectory hp)
    · exact hread.trans hz
  split
  · rename_i h6
    obtain ⟨hp, -⟩ : (s.readOn data).sb.power = .waking ∧ (s.readOn data).sb.stage = 6 := by
      simpa [State.inStage] using h6
    let z : State := { s.readOn data with sp := { (s.readOn data).sp with
      directory := (List.range 64).map (dirEntryOf (s.readOn data).sp.reader), reader := [] } }
    have hz : BootWork (s.readOn data) z := ⟨_, _, _, _, _, _, _, rfl⟩
    exact (hread.trans hz).trans (BootWork.stageScrub (s := z) hp)
  · exact hread

/-! ### The close of a power-up read -/

/-- What the close of an event leaves of a state that no event can wake. -/
structure ReadClose (x t : State) : Prop where
  boot : t.bootPart = x.bootPart
  directory : t.sp.directory = x.sp.directory
  slots : t.sc.slots = x.sc.slots
  power : t.sb.power = x.sb.power
  stage : t.sb.stage = x.sb.stage
  scrubSlot : t.sb.scrubSlot = x.sb.scrubSlot
  keep : SameKeep x t

theorem State.conclude_read (s0 : State) {x : State} (h : x.sb.power ≠ .standby) :
    ReadClose x (State.conclude s0 x) := by
  obtain ⟨lp, au, hy⟩ : ∃ lp au, State.attend s0 x = { x with lp := lp, au := au } := by
    unfold State.attend
    have hwake : ∀ fresh, x.report.wakeBy fresh = x.report := fun fresh =>
      if_neg fun hc => h (by rw [← hc.1, State.report_sb])
    obtain ⟨lp, l, w, d, hawait⟩ :=
      (x.report.wakeBy (x.report.au.latch &&& ~~~ s0.au.latch)).endAwait_rest (x.report.au.latch &&& ~~~ s0.au.latch)
    rw [hawait, hwake, State.report_eq]
    exact ⟨_, _, rfl⟩
  have hc := State.closes { x with lp := lp, au := au }
  obtain ⟨hprofile, hdirectory, hreader, -, -⟩ := hc.store
  have hsb := hc.supply
  have hconclude : State.conclude s0 x = ({ x with lp := lp, au := au } : State).serviceStore.refresh := by
    rw [State.conclude, hy]
  rw [hconclude]
  refine ⟨?_, hdirectory, congrArg SaveController.slots hc.sc, (congrArg Supply.power hsb :),
    (congrArg Supply.stage hsb :), (congrArg Supply.scrubSlot hsb :), hc.keep⟩
  have hboot : ∀ t : State, t.bootPart = (t.sp.profile, t.sp.reader, t.sb.profileStatus, t.sb.allowance, t.sb.decided,
    t.sb.formatKind, t.sb.format, t.sc.layoutState) := fun _ => rfl
  rw [hboot, hprofile, hreader, hc.sc, congrArg Supply.profileStatus hsb, congrArg Supply.allowance hsb,
    congrArg Supply.decided hsb, congrArg Supply.formatKind hsb, congrArg Supply.format hsb]
  rfl

/-- R45, R187: the first fetch of the directory is granted as stage 6 begins. -/
theorem State.serviceStore_reader {s : State} (hf : s.sp.fetch = none) (hp : s.sb.power = .waking)
    (hst : s.sb.stage = 6) (hr : s.sp.reader = []) : s.serviceStore.sp.fetch = some {
      requester := .powerUp, generation := 0, address := s.sp.profile.directory, size := 32, abandoned := false
      due := s.now + 48 } := by
  have hspan : s.markRequests.readerSpan = (s.sp.profile.directory, 256) := by
    have hstage : s.markRequests.sb.stage = 6 := hst
    rw [State.readerSpan, if_neg (by rw [hstage]; decide), if_pos hstage]
    rfl
  have hreader : s.markRequests.sp.reader = [] := hr
  have hasked : s.markRequests.readerFetch = some {
      requester := .powerUp, generation := 0, address := s.sp.profile.directory, size := 32, abandoned := false
      due := s.now + 48 } := by
    unfold State.readerFetch
    rw [hspan, hreader]
    rfl
  have hfetch : s.markRequests.sp.fetch = none := hf
  have hpower : s.markRequests.sb.power = .waking := hp
  show s.markRequests.grant.sp.fetch = _
  unfold State.grant
  simp only [hfetch, hpower, hasked]

/-- R71, R187: the stages behind the decision leave what the profile read set, and end in WAKING or ACTIVE. -/
theorem State.stageScrub_boot {s : State} (h : s.sb.power = .waking) :
    s.stageScrub.bootPart = s.bootPart ∧ s.stageScrub.sb.power ≠ .standby := by
  cases hl : s.sc.layoutState with
  | usable =>
    rw [State.stageScrub_usable hl]
    exact ⟨rfl, fun hc => by rw [h] at hc; cases hc⟩
  | noLayout =>
    obtain ⟨_, _, _, _, _, hend⟩ := State.stageScrub_noLayout h hl
    rw [hend]
    exact ⟨rfl, fun hc => by cases hc⟩

theorem State.decideFormat_boot {s : State} (h : s.sb.power = .waking) :
    s.decideFormat.bootPart = s.decided.bootPart ∧ s.decideFormat.sb.power ≠ .standby := by
  have hstay : s.sb.power ≠ .standby := fun hc => by rw [h] at hc; cases hc
  rw [State.decideFormat_eq]
  split
  · by_cases hread : s.decided.sb.profileStatus = .fromStore ∧ 0 < s.decided.sp.profile.patternCount
    · rw [State.stageDirectory_reads hread]
      exact ⟨rfl, hstay⟩
    · rw [State.stageDirectory_empty hread]
      exact State.stageScrub_boot h
  · exact ⟨rfl, hstay⟩

/-- R184, R187: where the decision leads: to a format, to the read of the directory, or past the empty directory to the
scrub, which under NO_LAYOUT is over at once. -/
theorem State.decideFormat_close {s z : State} (hp : z.sb.power = .waking) (hst : z.sb.stage = 5)
    (hf : z.sp.fetch = none) (hr : z.sp.reader = []) (hl : z.au.latch = s.au.latch) :
    let t := State.conclude s z.decideFormat
    if z.formatDecision.1 ≠ none then t.sb.power = .waking ∧ t.sb.stage = 5 ∧ t.dr = z.dr
    else if z.sb.profileStatus = .fromStore ∧ 0 < z.sp.profile.patternCount then
      t.sb.power = .waking ∧ t.sb.stage = 6 ∧ t.dr = z.dr ∧ t.sp.fetch = some {
        requester := .powerUp, generation := 0, address := z.sp.profile.directory, size := 32, abandoned := false
        due := t.now + 48 }
    else t.sp.directory = List.replicate 64 {} ∧ t.sc.slots = []
      ∧ (if z.formatDecision.2 = .noLayout then t.sb.power = .active
        else t.sb.power = .waking ∧ t.sb.stage = 7 ∧ t.sb.scrubSlot = 1 ∧ t.dr = z.dr) := by
  have hc := State.conclude_read s (State.decideFormat_boot hp).2
  have hdecide := z.decideFormat_eq
  intro t
  show if z.formatDecision.1 ≠ none then _ else _
  split
  · rename_i hsome
    rw [if_neg hsome] at hdecide
    have ht : t = State.conclude s z.decided := congrArg (State.conclude s) hdecide
    rw [hdecide] at hc
    rw [ht]
    exact ⟨hc.power.trans hp, hc.stage.trans hst, hc.keep.2.2.2⟩
  rename_i hnone
  rw [if_pos (not_not.mp hnone)] at hdecide
  split
  · rename_i hread
    let x := z.decided.beginStage 6
    have hx : z.decideFormat = x := hdecide.trans (State.stageDirectory_reads hread)
    have ht : t = State.conclude s x := congrArg (State.conclude s) hx
    have hclose : State.conclude s x = x.serviceStore.refresh := State.conclude_same (State.report_waking hp) hl
    rw [hx] at hc
    rw [ht]
    refine ⟨hc.power.trans hp, hc.stage, hc.keep.2.2.2, ?_⟩
    rw [State.conclude_now, hclose, State.refresh_sp, State.serviceStore_reader (s := x) hf hp rfl hr]
    rfl
  · rename_i hread
    let e : State := { z.decided.beginStage 6 with sp := { z.decided.sp with directory := List.replicate 64 {} } }
    have he : z.decideFormat = e.stageScrub := hdecide.trans (State.stageDirectory_empty hread)
    have ht : t = State.conclude s e.stageScrub := congrArg (State.conclude s) he
    rw [he] at hc
    rw [ht]
    split
    · rename_i hno
      obtain ⟨_, _, _, _, _, hend⟩ := State.stageScrub_noLayout (s := e) hp hno
      rw [hend] at hc ⊢
      exact ⟨hc.directory, hc.slots, hc.power⟩
    · rename_i hyes
      have husable : e.sc.layoutState = .usable := by
        cases hstate : z.formatDecision.2 with
        | usable => exact hstate
        | noLayout => exact absurd hstate hyes
      rw [State.stageScrub_usable husable] at hc ⊢
      exact ⟨hc.directory, hc.slots, hc.power.trans hp, hc.stage, hc.scrubSlot, hc.keep.2.2.2⟩

/-- R182, R183: the profile image is complete and validated. -/
def State.validated (s : State) (data : List Byte) : State := ((s.readOn data).beginStage 5).validateProfile

/-- R31: a delivery takes no time. -/
theorem State.deliver_now (s : State) (f : Fetch) (data : List Byte) : (s.deliver f data).now = s.now := by
  unfold State.deliver
  split
  · rfl
  split
  · unfold State.deliverVoice
    simp only
    split <;> rfl
  · unfold State.deliverLoader
    split
    · rfl
    · rename_i l _
      have hend : ∀ (u : State) (l : Load), (u.endLoad l).now = u.now := fun u l => by
        cases hlist : u.sp.loadList with
        | nil =>
          unfold State.endLoad
          simp only [hlist]
        | cons id queue =>
          rw [State.endLoad_eq hlist]
          obtain ⟨_, _, _, _, _, _, he⟩ :=
            ((LayerWork.loadEnded u id queue l).trans (LayerWork.beginFrom _ queue)).rest
          rw [he]
      simp only
      split
      · exact hend _ _
      · rfl
  · exact (BootWork.deliverReader s data).fields.1

end Sys2Proof.Machine

namespace Sys2Proof.Proofs

open Sys2Proof.Safety Sys2Proof.Machine

/-- Settles O24: one delivery after another, by requester; the profile image by its checks and the decision. -/
theorem fetchDelivers : Obligations.FetchDelivers := by
  unfold Obligations.FetchDelivers
  intro f data mv s hs hq hf hd
  let s2 := s.fetched f mv
  have hs2 : s2.report = s2 := State.fetched_report hs.1 f mv
  have hreader : f.requester = .powerUp → f.abandoned = false → s2.deliver f data = s2.deliverReader data :=
    fun hr hab => by
      unfold State.deliver
      simp only [hab, hr]
      rfl
  refine ⟨State.conclude s (s2.deliver f data), exec_fetchCompletion_eq hq hf hd mv,
    (State.conclude_now _ _).trans (s2.deliver_now f data), fun n hn hr h8 => ?_, fun l hr hab hl hmore => ?_,
    fun hr hab hp hst hmore => ?_, fun hr hab hp hst hfull => ?_, fun hr hab hp hst hlay hfull => ?_⟩
  · intro v w stop a
    let v' := v.fetchedBy f data
    have hx : s2.deliver f data = s2.setVoice n v' := State.deliver_voice hr data
    have hclose : State.conclude s (s2.setVoice n v') = (s2.setVoice n v').serviceStore.refresh :=
      State.conclude_same (State.report_of_reported hs2 rfl rfl rfl rfl rfl rfl id rfl rfl rfl) rfl
    have hc := State.closes (s2.setVoice n v')
    have hvoice : ∀ m, (s2.setVoice n v').voice m = if m = n then v' else s.voice m := fun m =>
      s2.voice_setVoice (show n < s.se.voices.length by omega) v' m
    obtain ⟨-, -, -, hdr⟩ := hc.keep
    rw [hx, hclose]
    refine ⟨hc.store, hc.engine, hc.rumble, hc.attention, hc.sc, hdr, hc.keep.1, hc.keep.2.1, ?_, fun m _ hne => ?_, ?_⟩
    · rw [State.refresh_lp, State.serviceStore_lp]
      rfl
    · exact sameUse_of_eq (hc.voice m) (by rw [hvoice, if_neg hne])
    · refine sameUse_of_eq (hc.voice n) ?_
      rw [hvoice, if_pos rfl]
      show Voice.fetchedBy v f data = _
      unfold Voice.fetchedBy
      rw [v.take_eq]
      rfl
  · have hx : s2.deliver f data
        = { s2 with sp := { s2.sp with load := some { l with buffer := l.buffer ++ data } } } := by
      have hdeliver : s2.deliver f data = s2.deliverLoader data := by
        unfold State.deliver
        simp only [hab, hr]
        rfl
      rw [hdeliver]
      exact State.deliverLoader_more hl (by rw [hd]; exact hmore)
    let x : State := { s2 with sp := { s2.sp with load := some { l with buffer := l.buffer ++ data } } }
    have hclose : State.conclude s x = x.serviceStore.refresh :=
      State.conclude_same (State.report_of_reported hs2 rfl rfl rfl rfl rfl rfl id rfl rfl rfl) rfl
    have hc := State.closes x
    obtain ⟨-, -, -, hlist, hload⟩ := hc.store
    rw [hx, hclose]
    exact ⟨hload, hlist, hc.layers, (congrArg RumbleUnit.cache hc.rumble :), State.serviceStore_sameVoices x, hc.keep⟩
  · have hx : s2.deliver f data = s2.readOn data := by
      rw [hreader hr hab]
      refine State.deliverReader_more ?_
      rw [State.readerSpan, if_pos (show s2.sb.stage = 4 from hst), List.length_append, hd]
      exact hmore
    have hc := State.conclude_read s (x := s2.readOn data) (fun hc => by cases hp.symm.trans hc)
    rw [hx]
    exact ⟨(congrArg (·.2.1) hc.boot :), hc.stage.trans hst, (congrArg (·.1) hc.boot :), hc.keep⟩
  · intro image slots sizes layout c k a patterns directory units bad profile differs decision noLayout
    have hlen : image.length = 64 := by rw [List.length_append, hd]; exact hfull
    let z := s2.validated data
    have hx : s2.deliver f data = z.decideFormat := by
      rw [hreader hr hab, State.deliverReader_profile (s := s2) hp hst hlen]
      rfl
    have hbad : imageBad image = true ↔ bad := by
      rw [imageBad_iff hlen, Profile.outOfRange_iff (p := profileOf image) (List.length_map ..)]
      rfl
    have hstatus : z.sb.profileStatus = if bad then .defaulted else .fromStore := by
      show (if imageBad image then _ else _) = _
      simp only [hbad]
    have hprofile : z.sp.profile = profile := by
      show (if imageBad image then _ else _) = _
      simp only [hbad]
      rfl
    have hlayout : z.layout = if bad then [8192] else layout := by
      rw [State.layout, hprofile]
      by_cases hb : bad
      · have hdefault : profile = {} := if_pos hb
        rw [if_pos hb, hdefault]
        decide
      · have himage : profile = profileOf image := if_neg hb
        rw [if_neg hb, himage]
        exact layout_of_imageGood fun h => hb (hbad.mp h)
    have hdecision : z.formatDecision = (decision, if noLayout then .noLayout else .usable) := by
      rw [State.formatDecision_eq hstatus, hlayout, hprofile]
      rfl
    obtain ⟨hboot, hawake⟩ := State.decideFormat_boot (s := z) hp
    have hc := State.conclude_read s hawake
    obtain ⟨-, hkeep, hface⟩ :
        z.decideFormat.now = s2.now ∧ z.decideFormat.keep = s.keep ∧ z.decideFormat.face = s.face := by
      rw [← hx, hreader hr hab]
      exact (BootWork.deliverReader s2 data).fields
    have hpart : (State.conclude s z.decideFormat).bootPart = (profile, [], if bad then .defaulted else .fromStore,
        profile.allowance, true, decision, decision.map (fun d => { kind := d, made := 0, ran := 0 }),
        if noLayout then .noLayout else .usable) := by
      rw [hc.boot, hboot]
      show (z.sp.profile, [], z.sb.profileStatus, z.sp.profile.allowance, true, z.formatDecision.1,
        z.formatDecision.1.map _, z.formatDecision.2) = _
      rw [hdecision, hprofile, hstatus]
    rw [hx]
    refine ⟨(congrArg (·.1) hpart :), (congrArg (·.2.1) hpart :), (congrArg (·.2.2.1) hpart :),
      (congrArg (·.2.2.2.1) hpart :), (congrArg (·.2.2.2.2.1) hpart :), (congrArg (·.2.2.2.2.2.1) hpart :),
      (congrArg (·.2.2.2.2.2.2.2) hpart :), (congrArg (·.2.2.2.2.2.2.1) hpart :), ?_, ?_, ?_⟩
    · exact hc.keep.1.trans hkeep
    · exact hc.keep.2.1.trans hface
    · have hkind : z.formatDecision.1 = decision := congrArg Prod.fst hdecision
      have hstate : z.formatDecision.2 = if noLayout then .noLayout else .usable := congrArg Prod.snd hdecision
      have hclose := State.decideFormat_close (s := s) (z := z) hp rfl rfl rfl rfl
      split
      · rename_i hsome
        rw [if_pos (by rw [hkind]; exact hsome)] at hclose
        exact hclose
      rename_i hnone
      rw [if_neg (by rw [hkind]; exact hnone)] at hclose
      have hreads : (z.sb.profileStatus = .fromStore ∧ 0 < z.sp.profile.patternCount) ↔ ¬ bad ∧ 0 < patterns := by
        by_cases hb : bad
        · simp [hstatus, hb]
        · rw [hstatus, if_neg hb, hprofile, show profile = profileOf image from if_neg hb]
          exact ⟨fun h => ⟨hb, h.2⟩, fun h => ⟨rfl, h.2⟩⟩
      split
      · rename_i hread
        rw [if_pos (hreads.mpr hread), hprofile, show profile = profileOf image from if_neg hread.1] at hclose
        exact hclose
      · rename_i hread
        rw [if_neg fun h => hread (hreads.mp h), hstate] at hclose
        obtain ⟨hdirectory, hslots, hend⟩ := hclose
        refine ⟨hdirectory, hslots, ?_⟩
        by_cases hno : noLayout
        · rw [if_pos hno]
          rw [if_pos hno, if_pos rfl] at hend
          exact hend
        · rw [if_neg hno]
          rw [if_neg hno, if_neg (fun h => by cases h)] at hend
          exact hend
  · intro image
    have hlen : image.length = 256 := by rw [List.length_append, hd]; exact hfull
    let x : State := { s2 with
      sp := { s2.sp with directory := (List.range 64).map (dirEntryOf image), reader := [] }
      sc := { s2.sc with slots := [] }
      sb := { s2.sb with stage := 7, stageStart := s2.now, scrubSlot := 1 } }
    have hx : s2.deliver f data = x := by
      rw [hreader hr hab, State.deliverReader_directory (s := s2) hp hst hlen]
      exact State.stageScrub_usable (s := { s2.readOn data with sp := { (s2.readOn data).sp with
        directory := (List.range 64).map (dirEntryOf image), reader := [] } }) hlay
    have hc := State.conclude_read s (x := x) (fun hc => by cases hp.symm.trans hc)
    rw [hx]
    exact ⟨hc.directory, (congrArg (·.2.1) hc.boot :), (congrArg (·.1) hc.boot :), hc.power.trans hp, hc.stage,
      hc.scrubSlot, hc.slots, hc.keep⟩

end Sys2Proof.Proofs
end

section
/-! SUPPORT. The slot-half area (R46, R183): the layout in force is legal, the halves lie apart from one another and
inside keep memory, and what a write at rising addresses leaves. -/

set_option Elab.async false

namespace Sys2Proof.Machine

open Sys2Proof.Safety

/-! ### Writes at rising addresses -/

/-- What a byte reads as after writes at rising addresses inside keep memory. -/
theorem Memory.read_writeAll_eq (m : List Host.Cell) (a : Nat) (bs : List Byte) (x : Nat) (h : Memory.wf m)
    (ha : a + bs.length ≤ Config.keepSize) : Memory.read (Memory.writeAll m a bs) x =
      if a ≤ x ∧ x < a + bs.length then byteAt bs (x - a) else Memory.read m x := by
  split
  · rename_i hx
    have hread := Memory.read_writeAll m a bs (x - a) h (by omega) ha
    rwa [Nat.add_sub_cancel' hx.1] at hread
  · exact Memory.read_writeAll_ne m a bs x h (by omega)

theorem length_readAll (m : List Host.Cell) (a n : Nat) : (Memory.readAll m a n).length = n := by
  rw [Memory.readAll, List.length_map, List.length_range]

theorem length_leBytes (n x : Nat) : (leBytes n x).length = n := by
  induction n generalizing x with
  | zero => rfl
  | succ n ih => rw [leBytes, List.length_cons, ih]

/-- R192: a half header is 32 bytes. -/
theorem HeaderFields.length_bytes (h : HeaderFields) : h.bytes.length = 32 := by
  simp [HeaderFields.bytes, HeaderFields.body, headerMagic, halfBytes, length_leBytes]

/-! ### The layout in force (R46, R183) -/

/-- R183: the layout in force is one that a profile may give. -/
theorem Profile.layout_legal (p : Profile) : layoutLegal p.layout = true := by
  unfold Profile.layout
  split
  · assumption
  · decide

theorem State.layout_legal (s : State) : layoutLegal s.layout = true := s.sp.profile.layout_legal

/-- R46, R183: a legal layout has 1 to 8 slots of 256 to 32,768 bytes, and its halves fit the slot-half area. -/
theorem layoutLegal_bounds {sizes : List Nat} (h : layoutLegal sizes = true) : 1 ≤ sizes.length ∧ sizes.length ≤ 8
    ∧ (∀ z ∈ sizes, 256 ≤ z ∧ z ≤ 32768) ∧ (sizes.map (· + 32)).sum ≤ 63488 := by
  simp only [layoutLegal, Bool.and_eq_true, decide_eq_true_eq, List.all_eq_true] at h
  obtain ⟨⟨⟨h1, h8⟩, hsize⟩, hsum⟩ := h
  exact ⟨h1, h8, fun z hz => ⟨(hsize z hz).1.2, (hsize z hz).2⟩, hsum⟩

/-! ### Halves (R46) -/

/-- R46: the keep addresses of a half, header and data. -/
abbrev inHalf (layout : List Nat) (n : Nat) (b : Bool) (a : Nat) : Prop :=
  halfAddr layout n b ≤ a ∧ a < halfAddr layout n b + 32 + layout.getD (n - 1) 0

/-- R46: a slot's base lies behind both halves of the slot before it. -/
theorem slotBase_succ {layout : List Nat} {n : Nat} (h1 : 1 ≤ n) (hn : n ≤ layout.length) :
    slotBase layout (n + 1) = slotBase layout n + 2 * (layout.getD (n - 1) 0 + 32) := by
  have hlt : n - 1 < layout.length := by omega
  have hsplit : layout.take n = layout.take (n - 1) ++ [layout[n - 1]] := by
    rw [List.take_append_getElem hlt, Nat.sub_add_cancel h1]
  rw [slotBase, slotBase, Nat.add_sub_cancel, hsplit, List.getD_eq_getElem _ _ hlt, List.map_append,
    List.sum_append_nat, List.map_singleton, List.sum_singleton, Nat.add_assoc]

/-- R46: the slots stand in order. -/
theorem slotBase_le {layout : List Nat} {n m : Nat} (h1 : 1 ≤ n) (hn : n < m) (hm : m ≤ layout.length + 1) :
    slotBase layout n + 2 * (layout.getD (n - 1) 0 + 32) ≤ slotBase layout m := by
  induction m, hn using Nat.le_induction with
  | base => exact (slotBase_succ h1 (by omega)).ge
  | succ m hnm ih =>
    rw [slotBase_succ (n := m) (by omega) (by omega)]
    exact (ih (by omega)).trans (Nat.le_add_right _ _)

/-- R46: behind the last slot the slot-half area holds what all the halves take. -/
theorem slotBase_end (layout : List Nat) :
    slotBase layout (layout.length + 1) = Config.slotArea + 2 * (layout.map (· + 32)).sum := by
  have hdouble : ∀ l : List Nat, (l.map fun z => 2 * (z + 32)).sum = 2 * (l.map (· + 32)).sum := by
    intro l
    induction l with
    | nil => rfl
    | cons z l ih => rw [List.map_cons, List.map_cons, List.sum_cons, List.sum_cons, ih, ← Nat.mul_add]
  rw [slotBase, Nat.add_sub_cancel, List.take_length, hdouble]

theorem halfAddr_false (layout : List Nat) (n : Nat) : halfAddr layout n false = slotBase layout n := rfl

theorem halfAddr_true (layout : List Nat) (n : Nat) :
    halfAddr layout n true = slotBase layout n + (layout.getD (n - 1) 0 + 32) := rfl

/-- R46: both halves of a slot lie behind its base, and before the base of the next. -/
theorem inHalf_slot {layout : List Nat} {n a : Nat} {b : Bool} (h : inHalf layout n b a) :
    slotBase layout n ≤ a ∧ a < slotBase layout n + 2 * (layout.getD (n - 1) 0 + 32) := by
  obtain ⟨hlow, hhigh⟩ := h
  cases b
  · rw [halfAddr_false] at hlow hhigh
    omega
  · rw [halfAddr_true] at hlow hhigh
    omega

/-- R46: no byte lies in two halves. -/
theorem inHalf_unique {layout : List Nat} {n m a : Nat} {b c : Bool} (hn1 : 1 ≤ n) (hn : n ≤ layout.length)
    (hm1 : 1 ≤ m) (hm : m ≤ layout.length) (h : inHalf layout n b a) (h' : inHalf layout m c a) : n = m ∧ b = c := by
  obtain ⟨hlow, hhigh⟩ := inHalf_slot h
  obtain ⟨hlow', hhigh'⟩ := inHalf_slot h'
  have hnm : n = m := by
    rcases Nat.lt_trichotomy n m with hlt | heq | hgt
    · have := slotBase_le (layout := layout) hn1 hlt (by omega)
      omega
    · exact heq
    · have := slotBase_le (layout := layout) hm1 hgt (by omega)
      omega
  subst hnm
  refine ⟨rfl, ?_⟩
  have apart : ¬ (inHalf layout n false a ∧ inHalf layout n true a) := by
    rw [inHalf, inHalf, halfAddr_false, halfAddr_true]
    omega
  cases b with
  | false =>
    cases c with
    | false => rfl
    | true => exact absurd ⟨h, h'⟩ apart
  | true =>
    cases c with
    | false => exact absurd ⟨h', h⟩ apart
    | true => rfl

/-- R46, R183: a half of a legal layout lies in the slot-half area of keep memory. -/
theorem half_bounds {layout : List Nat} (hl : layoutLegal layout = true) {n : Nat} (hn1 : 1 ≤ n)
    (hn : n ≤ layout.length) (b : Bool) : Config.slotArea ≤ halfAddr layout n b
      ∧ halfAddr layout n b + 32 + layout.getD (n - 1) 0 ≤ Config.keepSize := by
  obtain ⟨-, -, -, hsum⟩ := layoutLegal_bounds hl
  have hend := slotBase_le (m := layout.length + 1) hn1 (by omega) (le_refl _)
  rw [slotBase_end] at hend
  have harea : slotBase layout n = Config.slotArea + _ := rfl
  have hhalf : halfAddr layout n b ≤ slotBase layout n + (layout.getD (n - 1) 0 + 32) := by
    cases b
    · exact Nat.le_add_right _ _
    · exact le_refl _
  refine ⟨?_, ?_⟩
  · rw [halfAddr, harea]
    omega
  · simp only [Config.keepSize, Config.slotArea] at hend ⊢
    omega

/-- R46: the shadow half of a slot, header and data, lies inside keep memory. -/
theorem State.shadow_bounds (s : State) {n : Nat} (hn1 : 1 ≤ n) (hn : n ≤ s.slotCount) :
    s.shadowAddr n + 32 + s.slotSize n ≤ Config.keepSize := (half_bounds s.layout_legal hn1 hn _).2

/-- R48, R49: no byte of a face half lies in a shadow half. -/
theorem State.face_not_shadow (s : State) {n m a : Nat} (hn1 : 1 ≤ n) (hn : n ≤ s.slotCount) (hm1 : 1 ≤ m)
    (hm : m ≤ s.slotCount) (h : inFace s n a) : a < s.shadowAddr m ∨ s.shadowAddr m + 32 + s.slotSize m ≤ a := by
  by_contra hc
  have hshadow : inHalf s.layout m (!s.faceIsB m) a := by
    rw [not_or, Nat.not_lt, Nat.not_le] at hc
    exact hc
  obtain ⟨rfl, hb⟩ := inHalf_unique hn1 hn hm1 hm h hshadow
  cases hf : s.faceIsB n <;> rw [hf] at hb <;> cases hb

end Sys2Proof.Machine
end

section
/-! SUPPORT. The save records and the faces (R48, R49, R51): what each operation keeps of the records' agreement, and
that it leaves keep memory and the face word but where a rule writes them. -/

set_option Elab.async false

namespace Sys2Proof.Machine

open Sys2Proof.Safety

/-! ### The parts -/

/-- What the agreement of the save records rests on, but for the power state. -/
def State.savePart (s : State) : Option KeepOp × Option Nat × Nat × Profile :=
  (s.sc.op, s.sc.openSlot, s.sc.highMark, s.sp.profile)

/-- R46, R48: what the places of the face halves rest on, and whether a format is under way. -/
def State.facePart (s : State) : BitVec 8 × Profile × Option FormatRun := (s.face, s.sp.profile, s.sb.format)

/-- An operation keeps the agreement of the save records, and leaves keep memory and the face word. -/
structure Saves (s t : State) : Prop where
  ok : SaveOk s → SaveOk t
  keep : t.keep = s.keep
  face : t.face = s.face

/-- R48, R49: what any event but a flip keeps: the agreement of the save records; the face word, but in a format, which
makes it all A; and outside a format every byte of every face half. -/
structure Guards (s t : State) : Prop where
  ok : SaveOk s → SaveOk t
  word : t.face = s.face ∨ s.sb.format ≠ none ∧ t.face = 0
  bytes : SaveOk s → Memory.wf s.keep → s.sb.format = none → ∀ n a, 1 ≤ n → n ≤ s.slotCount → inFace s n a →
    Memory.read t.keep a = Memory.read s.keep a

/-- R51: the agreement stands in a part that is awake, and in one that is not where it was not before. -/
theorem saveOk_congr {s t : State} (h : t.savePart = s.savePart)
    (hp : t.sb.power.awake = false → s.sb.power.awake = false) (hs : SaveOk s) : SaveOk t := by
  simp only [State.savePart, Prod.mk.injEq] at h
  obtain ⟨h1, h2, h3, h4⟩ := h
  obtain ⟨hop, hopen, hawake⟩ := hs
  have hlayout : t.layout = s.layout := congrArg Profile.layout h4
  have hcount : t.slotCount = s.slotCount := congrArg List.length hlayout
  have hsize : t.slotSize = s.slotSize := by
    funext n
    rw [State.slotSize, hlayout]
    rfl
  simp only [SaveOk, OpOk, h1, h2, h3, hcount, hsize]
  exact ⟨hop, hopen, fun h => hawake (hp h)⟩

/-- R51: a change of the save records, and of what they do not rest on. -/
theorem saveOk_of_sc {s t : State} {sc : SaveController} (hsc : t.sc = sc) (hsp : t.sp = s.sp)
    (hp : t.sb.power = s.sb.power) (h : SaveOk { s with sc := sc }) : SaveOk t :=
  saveOk_congr (s := { s with sc := sc }) (by simp only [State.savePart, hsc, hsp]) (fun ht => hp ▸ ht) h

/-- R51: the records in their reset state. -/
theorem saveOk_of_idle {s : State} (hop : s.sc.op = none) (hopen : s.sc.openSlot = none) : SaveOk s := by
  refine ⟨?_, ?_, fun _ => ⟨hop, hopen⟩⟩
  · rw [hop]
    nofun
  · rw [hopen]
    nofun

/-- R51: in WAKING and KEEP the records are in their reset state. -/
theorem idle_of_saveOk {s : State} (h : SaveOk s) (hp : s.sb.power.awake = false) :
    s.sc.op = none ∧ s.sc.openSlot = none := h.2.2 hp

/-- R51: a part with an operation in flight is awake. -/
theorem awake_of_op {s : State} (h : SaveOk s) (hs : s.sc.op ≠ none) : s.sb.power.awake = true := by
  cases ha : s.sb.power.awake with
  | true => rfl
  | false => exact absurd (idle_of_saveOk h ha).1 hs

namespace Saves

theorem refl (s : State) : Saves s s := ⟨id, rfl, rfl⟩

theorem trans {s t u : State} (h : Saves s t) (h' : Saves t u) : Saves s u :=
  ⟨h'.ok ∘ h.ok, h'.keep.trans h.keep, h'.face.trans h.face⟩

/-- A change of nothing that the save records rest on. -/
theorem of_parts {s t : State} (h : t.savePart = s.savePart := by rfl) (hp : t.sb.power = s.sb.power := by rfl)
    (hk : t.keep = s.keep := by rfl) (hf : t.face = s.face := by rfl) : Saves s t :=
  ⟨saveOk_congr h fun ht => hp ▸ ht, hk, hf⟩

/-- A change that leaves the part awake. -/
theorem of_awake {s t : State} (ha : t.sb.power.awake = true) (h : t.savePart = s.savePart := by rfl)
    (hk : t.keep = s.keep := by rfl) (hf : t.face = s.face := by rfl) : Saves s t :=
  ⟨saveOk_congr h fun ht => Bool.noConfusion (ha.symm.trans ht), hk, hf⟩

/-- A change that leaves the records in their reset state. -/
theorem of_idle {s t : State} (hop : t.sc.op = none) (hopen : t.sc.openSlot = none) (hk : t.keep = s.keep := by rfl)
    (hf : t.face = s.face := by rfl) : Saves s t := ⟨fun _ => saveOk_of_idle hop hopen, hk, hf⟩

/-- R154: what the events and the layer starts of a boundary leave. -/
theorem of_works {s t : State} (h : BlockWork s t) : Saves s t := by
  obtain ⟨_, _, _, _, _, _, _, rfl⟩ := h.rest
  exact of_parts

/-! ### Flags, link, store and recomputed values -/

theorem report (s : State) : Saves s s.report := by rw [State.report_eq]; exact of_parts
theorem refresh (s : State) : Saves s s.refresh := of_parts
theorem withLp (s : State) (l : LinkPort) : Saves s { s with lp := l } := of_parts
theorem withPending (s : State) (q : List Instr) : Saves s { s with pending := q } := of_parts

theorem raiseUnless (s : State) (p : Prop) [Decidable p] (m : Member) (merge : Details → Details) :
    Saves s (if p then s else s.raise m merge) := of_works (s.raiseUnless_works p m merge)

theorem serviceStore (s : State) : Saves s s.serviceStore := by rw [State.serviceStore_eq]; exact of_parts

theorem endAwait (s : State) (fresh : MemberSet) : Saves s (s.endAwait fresh) := by
  obtain ⟨_, _, _, _, h⟩ := s.endAwait_rest fresh
  rw [h]
  exact of_parts

/-! ### Power states -/

theorem enterActive (s : State) : Saves s s.enterActive := of_awake rfl

theorem enterKeep (s : State) : Saves s s.enterKeep := of_idle rfl rfl

theorem enterWaking (s : State) : Saves s s.enterWaking := by
  unfold State.enterWaking
  simp only
  split <;> exact of_idle rfl rfl

theorem resetMade (s : State) : Saves s s.resetMade := by
  unfold State.resetMade State.enterWaking
  simp only
  split <;> exact of_idle rfl rfl

theorem wakeBy (s : State) (fresh : MemberSet) : Saves s (s.wakeBy fresh) := by
  unfold State.wakeBy
  split
  · exact of_awake rfl
  · exact refl s

/-! ### The close of an event -/

theorem attend (s0 s : State) : Saves s (State.attend s0 s) := ((report s).trans (wakeBy _ _)).trans (endAwait _ _)

theorem conclude (s0 s : State) : Saves s (State.conclude s0 s) :=
  ((attend s0 s).trans (serviceStore _)).trans (refresh _)

theorem concludeRequest (s : State) : Saves s s.concludeRequest :=
  ((report s).trans (serviceStore _)).trans (refresh _)

/-! ### Voices, layers and cues -/

theorem lapseCues (s : State) (vs : BitVec 8) : Saves s (s.lapseCues vs) := of_works (State.lapseCues_lapses s vs).works

theorem endVoices (s : State) (vs : BitVec 8) (event : Bool) : Saves s (s.endVoices vs event) := by
  have hend : Saves s (s.mapVoices fun n v => if vs.getLsbD n then v.endUse else v) := of_parts
  have hraise : ∀ u : State, Saves u (if event then u.raiseVoiceEnd vs else u) := by
    intro u
    split
    · exact raiseUnless u _ _ _
    · exact refl u
  exact (hend.trans (hraise _)).trans (lapseCues _ vs)

theorem render (s : State) : Saves s s.render := by
  obtain ⟨_, _, _, _, _, _, _, h⟩ := s.render_rest
  rw [h]
  exact of_parts

theorem startLayer (s : State) (n id priority scale : Nat) : Saves s (s.startLayer n id priority scale) :=
  of_works (LayerWork.startLayer s n id priority scale).works

theorem tickLayers (s : State) : Saves s s.tickLayers :=
  (of_parts (t := s.mapLayers fun _ l => l.atTick)).trans (raiseUnless _ _ _ _)

theorem endLoad (s : State) (l : Load) : Saves s (s.endLoad l) := by
  cases hlist : s.sp.loadList with
  | nil =>
    have hnone : s.endLoad l = s := by
      unfold State.endLoad
      simp only [hlist]
    rw [hnone]
    exact refl s
  | cons id queue =>
    rw [State.endLoad_eq hlist]
    exact of_works ((LayerWork.loadEnded s id queue l).trans (LayerWork.beginFrom _ queue)).works

/-! ### Firing passes and reckonings -/

theorem runAction (s : State) (x : Nat × Action) : Saves s (s.runAction x) := by
  unfold State.runAction
  split
  · exact refl s
  · exact (startLayer s _ _ _ _).trans of_parts

theorem runActions (xs : List (Nat × Action)) (s : State) : Saves s (xs.foldl State.runAction s) := by
  induction xs generalizing s with
  | nil => exact refl s
  | cons x xs ih => exact (runAction s x).trans (ih _)

theorem fire (s : State) (gOld gNew : Nat) : Saves s (s.fire gOld gNew) := by
  let o := firingPass gOld gNew s.cu.seconds s.dr.table s.dr.fired
  have hpass : Saves s { s with dr := { s.dr with table := o.table, fired := o.fired } } := of_parts
  unfold State.fire
  simp only
  split
  · exact hpass.trans (runActions _ _)
  · exact hpass

theorem reckonNow (s : State) (c : Causes) (limit : Nat) : Saves s (s.reckonNow c limit) := by
  let r := s.dr.reckon s.rawDay (c.restart || !s.cu.valid) limit
  have hpass : Saves s (({ s with dr := r.1 } : State).fire s.dr.g r.1.g) :=
    (of_parts (t := { s with dr := r.1 })).trans (fire _ _ _)
  have hturn : ∀ u : State, Saves u (if 0 < r.2 then u.raiseDayTurn r.2 else u) := by
    intro u
    split
    · exact of_parts
    · exact refl u
  have hcell : ∀ u : State, Saves u (if c.rollover then u.measureCell else u) := by
    intro u
    split
    · exact of_parts
    · exact refl u
  exact (hpass.trans (hturn _)).trans (hcell _)

theorem reckon (s : State) (c : Causes) (limit : Nat) : Saves s (s.reckon c limit) := by
  unfold State.reckon
  split
  · exact of_parts
  · exact reckonNow s c limit

theorem runDeferred (s : State) : Saves s s.runDeferred := by
  unfold State.runDeferred
  split
  · exact refl s
  · exact (of_parts (t := { s with dr := { s.dr with deferred := none } })).trans (reckonNow _ _ _)

theorem secondEvent (s : State) : Saves s s.secondEvent := by
  unfold State.secondEvent
  split
  · exact reckon s _ _
  · split
    · exact refl s
    · exact fire s _ _

end Saves

/-! ### Events -/

namespace Guards

theorem of_saves {s t : State} (h : Saves s t) : Guards s t :=
  ⟨h.ok, .inl h.face, fun _ _ _ _ _ _ _ _ => by rw [h.keep]⟩

theorem refl (s : State) : Guards s s := of_saves (Saves.refl s)

/-- What leaves keep memory and the face word may follow. -/
theorem trans {s t u : State} (h : Guards s t) (h' : Saves t u) : Guards s u :=
  ⟨h'.ok ∘ h.ok, h.word.imp h'.face.trans fun hw => ⟨hw.1, h'.face.trans hw.2⟩,
    fun hs hm hf n a h1 hn ha => by rw [h'.keep]; exact h.bytes hs hm hf n a h1 hn ha⟩

/-- What leaves the faces in their places may come before. -/
theorem after {s t u : State} (h : Saves s t) (hp : t.facePart = s.facePart) (h' : Guards t u) : Guards s u := by
  simp only [State.facePart, Prod.mk.injEq] at hp
  obtain ⟨hface, hprofile, hformat⟩ := hp
  have hlayout : t.layout = s.layout := congrArg Profile.layout hprofile
  refine ⟨h'.ok ∘ h.ok, ?_, fun hs hm hf n a h1 hn ha => ?_⟩
  · rw [← hface, ← hformat]
    exact h'.word
  · have hin : inFace t n a := by
      simpa only [inFace, State.faceAddr, State.faceIsB, State.slotSize, hlayout, hface] using ha
    rw [← h.keep]
    exact h'.bytes (h.ok hs) (by rw [h.keep]; exact hm) (by rw [hformat]; exact hf) n a h1
      (by rw [State.slotCount, hlayout]; exact hn) hin

theorem conclude {s u : State} (s0 : State) (h : Guards s u) : Guards s (State.conclude s0 u) :=
  h.trans (Saves.conclude s0 u)

/-- An event taken where its condition holds. -/
theorem whenever {s t : State} {p : Prop} [Decidable p] (h : p → Guards s t) : Guards s (if p then t else s) := by
  split
  · rename_i hp
    exact h hp
  · exact refl s

/-- R49: a write inside the shadow half of a slot of the layout. -/
theorem of_write {s t : State} {n first : Nat} {bs : List Byte} (hok : SaveOk s → SaveOk t) (hface : t.face = s.face)
    (hkeep : t.keep = Memory.writeAll s.keep first bs)
    (hin : SaveOk s → 1 ≤ n ∧ n ≤ s.slotCount ∧ s.shadowAddr n ≤ first
      ∧ first + bs.length ≤ s.shadowAddr n + 32 + s.slotSize n) : Guards s t := by
  refine ⟨hok, .inl hface, fun hs hm _ m a h1 hm' ha => ?_⟩
  obtain ⟨hn1, hn, hlow, hhigh⟩ := hin hs
  have hout := s.face_not_shadow h1 hm' hn1 hn ha
  rw [hkeep]
  exact Memory.read_writeAll_ne s.keep first bs a hm (by omega)

end Guards

/-! ### The passing of time -/

/-- R185: a format's writes leave the face word or make it all A. -/
theorem State.formatWrites_face (s : State) (ws : List KeepWrite) :
    (ws.foldl State.formatWrite s).face = s.face ∨ (ws.foldl State.formatWrite s).face = 0 := by
  induction ws generalizing s with
  | nil => exact .inl rfl
  | cons w ws ih =>
    rw [List.foldl_cons]
    rcases ih (s.formatWrite w) with h | h
    · cases w with
      | faces => exact .inr h
      | byte a b => exact .inl h
      | clock => exact .inl h
      | days => exact .inl h
    · exact .inr h

/-- R55, R58: the operation in flight after a time. -/
def KeepOp.after (op : KeepOp) (now dt : Nat) : KeepOp :=
  if op.phase = .settling then op
  else { op with done := min op.extent (op.done + periods Config.byteTime op.began now dt) }

theorem KeepOp.after_settling {op : KeepOp} (h : op.phase = .settling) (now dt : Nat) : op.after now dt = op := if_pos h

/-- R51: an operation that has moved on is one as before, with no fewer bytes done and no more than its extent. -/
theorem KeepOp.after_rest (op : KeepOp) (now dt : Nat) (h : op.done ≤ op.extent) :
    ∃ d, op.after now dt = { op with done := d } ∧ op.done ≤ d ∧ d ≤ op.extent := by
  unfold KeepOp.after
  split
  · exact ⟨op.done, rfl, le_refl _, h⟩
  · exact ⟨_, rfl, le_min h (Nat.le_add_right _ _), min_le_left _ _⟩

/-- R55: the progress of an operation: its count of bytes, and for a seeding the bytes themselves. -/
theorem State.workOn_eq {s : State} {op : KeepOp} (h : s.sc.op = some op) (dt : Nat) : s.workOn dt = { s with
    keep := if op.phase = .seeding then
        Memory.writeAll s.keep (s.shadowAddr op.slot + 32 + op.done)
          (Memory.readAll s.keep (s.faceAddr op.slot + 32 + op.done) ((op.after s.now dt).done - op.done))
      else s.keep
    sc := { s.sc with op := some (op.after s.now dt) } } := by
  unfold State.workOn KeepOp.after
  rw [h]
  cases hp : op.phase with
  | settling =>
    simp only [hp, reduceCtorEq, if_true, if_false]
    rw [← h]
  | verifying =>
    simp only [hp, reduceCtorEq, if_false]
  | seeding =>
    simp only [hp, reduceCtorEq, if_true, if_false]
    rfl

theorem State.workOn_none {s : State} (h : s.sc.op = none) (dt : Nat) : s.workOn dt = s := by
  unfold State.workOn
  rw [h]

/-- With no format under way, time moves the clock and the operation alone. -/
theorem State.elapse_unformatted {s : State} (h : s.sb.format = none) (dt : Nat) :
    s.elapse dt = { ({ s with cu := s.cu.count s.now dt } : State).workOn dt with now := s.now + dt } := by
  have hsb : (({ s with cu := s.cu.count s.now dt } : State).workOn dt).sb = s.sb := by
    unfold State.workOn
    split
    · rfl
    · simp only
      split <;> rfl
  unfold State.elapse State.formatOn
  simp only [hsb, h]

/-- With no format under way, the keep domain and the save records after a time, an operation being in flight. -/
theorem State.elapse_working {s : State} {op : KeepOp} (hf : s.sb.format = none) (h : s.sc.op = some op) (dt : Nat) :
    s.elapse dt = { s with
      keep := if op.phase = .seeding then
          Memory.writeAll s.keep (s.shadowAddr op.slot + 32 + op.done)
            (Memory.readAll s.keep (s.faceAddr op.slot + 32 + op.done) ((op.after s.now dt).done - op.done))
        else s.keep
      sc := { s.sc with op := some (op.after s.now dt) }
      cu := s.cu.count s.now dt, now := s.now + dt } := by
  rw [State.elapse_unformatted hf]
  rw [State.workOn_eq (s := { s with cu := s.cu.count s.now dt }) h]
  rfl

/-- While time passes, the write-open record, the slot states and the layout state stand, and the operation moves on. -/
theorem State.elapse_sc (s : State) (dt : Nat) :
    (s.elapse dt).sc = { s.sc with op := s.sc.op.map fun op => op.after s.now dt } := by
  have hformat : ∀ u : State, (u.formatOn dt).sc = u.sc := by
    intro u
    unfold State.formatOn
    split
    · rfl
    · split
      · rfl
      · simp only [State.formatMore]
        rw [State.formatWrites_eq]
  have hwork : (({ s with cu := s.cu.count s.now dt } : State).workOn dt).sc
      = { s.sc with op := s.sc.op.map fun op => op.after s.now dt } := by
    cases hop : s.sc.op with
    | none =>
      rw [State.workOn_none (by exact hop), Option.map_none, ← hop]
    | some op =>
      rw [State.workOn_eq (op := op) (by exact hop)]
      rfl
  exact (hformat _).trans hwork

/-- R51: while time passes the save records stay in agreement. -/
theorem saveOk_elapse {s : State} (h : SaveOk s) (dt : Nat) : SaveOk (s.elapse dt) := by
  obtain ⟨hop, hopen, hawake⟩ := h
  obtain ⟨cu, sc, dr, keep, face, f, he⟩ := s.elapse_rest dt
  have hsc := s.elapse_sc dt
  have hsp : (s.elapse dt).sp = s.sp := by rw [he]
  have hpower : (s.elapse dt).sb.power = s.sb.power := by rw [he]
  have hlayout : (s.elapse dt).layout = s.layout := by rw [State.layout, hsp]; rfl
  have hcount : (s.elapse dt).slotCount = s.slotCount := congrArg List.length hlayout
  have hsize : (s.elapse dt).slotSize = s.slotSize := by
    funext n
    rw [State.slotSize, hlayout]
    rfl
  refine ⟨fun op' hop' => ?_, ?_, fun ha => ?_⟩
  · rw [hsc] at hop'
    obtain ⟨op, hmem, rfl⟩ := Option.map_eq_some_iff.mp hop'
    obtain ⟨h1, hn, hextent, hlength, hdone, hkinds⟩ := hop op hmem
    obtain ⟨d, hafter, -, hd⟩ := op.after_rest s.now dt hdone
    rw [hafter, OpOk, hcount, hsize, hsc]
    exact ⟨h1, hn, hextent, hlength, hd, hkinds⟩
  · rw [hsc, hcount, hsize]
    exact hopen
  · rw [hpower] at ha
    obtain ⟨hnone, hclosed⟩ := hawake ha
    rw [hsc, hnone]
    exact ⟨rfl, hclosed⟩

/-- R49, R55: while time passes only a seeding writes, to the shadow half of its slot, and a format. -/
theorem Guards.elapse (s : State) (dt : Nat) : Guards s (s.elapse dt) := by
  cases hf : s.sb.format with
  | none =>
    cases hop : s.sc.op with
    | none =>
      rw [State.elapse_quiet s dt hop hf]
      exact of_saves Saves.of_parts
    | some op =>
      have hworking := State.elapse_working hf hop dt
      have hface : (s.elapse dt).face = s.face := by rw [hworking]
      by_cases hp : op.phase = .seeding
      · refine of_write (n := op.slot) (fun h => saveOk_elapse h dt) hface
          (by rw [hworking]; exact if_pos hp) fun hs => ?_
        obtain ⟨h1, hn, hextent, -, hdone, -⟩ := hs.1 op hop
        obtain ⟨d, hafter, hle, hd⟩ := op.after_rest s.now dt hdone
        have hlast : (op.after s.now dt).done = d := congrArg KeepOp.done hafter
        rw [length_readAll, hlast]
        exact ⟨h1, hn, by omega, by omega⟩
      · refine ⟨fun h => saveOk_elapse h dt, .inl hface, fun _ _ _ _ _ _ _ _ => ?_⟩
        rw [hworking]
        exact congrArg (fun m => Memory.read m _) (if_neg hp)
  | some f =>
    refine ⟨fun h => saveOk_elapse h dt, ?_, fun _ _ hnone => absurd (hf.symm.trans hnone) nofun⟩
    have hwork : ∀ u : State, (u.workOn dt).face = u.face := by
      intro u
      unfold State.workOn
      split
      · rfl
      · simp only
        split <;> rfl
    have hformat : ∀ u : State, (u.formatOn dt).face = u.face ∨ (u.formatOn dt).face = 0 := by
      intro u
      unfold State.formatOn
      split
      · exact .inl rfl
      · split
        · exact .inl rfl
        · exact State.formatWrites_face u _
    rw [hf]
    rcases hformat (({ s with cu := s.cu.count s.now dt } : State).workOn dt) with h | h
    · exact .inl (h.trans (hwork _))
    · exact .inr ⟨Option.some_ne_none f, h⟩

end Sys2Proof.Machine
end

section
/-! SUPPORT. The requests (R53 to R63) and the save records: the checks of the save requests in the rules' own terms,
and what the service of each kind keeps of the records and the faces. -/

set_option Elab.async false

namespace Sys2Proof.Machine

open Sys2Proof.Safety Sys2Proof.Proofs

/-! ### The checks of the save requests -/

section Checks

variable (s : State) (slot : Byte)

theorem State.layoutRefused_eq : s.layoutRefused slot =
    if s.sc.layoutState = .noLayout then some .noLayout
    else if slot.toNat = 0 ∨ s.slotCount < slot.toNat then some .range
    else none := by
  unfold State.layoutRefused State.slotBad
  simp only [Bool.or_eq_true, decide_eq_true_eq]

theorem State.openRefused_eq (seed : Byte) : s.openRefused slot seed =
    if seed ≠ 0 ∧ seed ≠ 1 then some .range
    else if s.sc.layoutState = .noLayout then some .noLayout
    else if slot.toNat = 0 ∨ s.slotCount < slot.toNat then some .range
    else if s.sc.openSlot ≠ none ∨ s.sc.op ≠ none then some .busy
    else if s.sb.supply = .fence then some .power
    else none := by
  unfold State.openRefused
  rw [State.layoutRefused_eq]
  simp only [Bool.or_eq_true, Option.isSome_iff_ne_none]
  split_ifs <;> rfl

theorem State.writeRefused_eq (offset : Half) (count : Byte) : s.writeRefused slot offset count =
    if count = 0 ∨ 240 < count.toNat then some .range
    else if s.sc.layoutState = .noLayout then some .noLayout
    else if slot.toNat = 0 ∨ s.slotCount < slot.toNat then some .range
    else if s.sc.openSlot ≠ some slot.toNat then some .state
    else if s.sc.op ≠ none then some .busy
    else if s.slotSize slot.toNat < offset.toNat + count.toNat then some .range
    else if s.sb.supply = .fence then some .power
    else none := by
  unfold State.writeRefused
  rw [State.layoutRefused_eq]
  simp only [Option.isSome_iff_ne_none]
  split_ifs <;> rfl

theorem State.commitRefused_eq (length : Half) : s.commitRefused slot length =
    if s.sc.layoutState = .noLayout then some .noLayout
    else if slot.toNat = 0 ∨ s.slotCount < slot.toNat then some .range
    else if s.sc.openSlot ≠ some slot.toNat then some .state
    else if s.sc.op ≠ none then some .busy
    else if s.slotSize slot.toNat < length.toNat then some .range
    else if s.sb.supply = .fence then some .power
    else none := by
  unfold State.commitRefused
  rw [State.layoutRefused_eq]
  simp only [Option.isSome_iff_ne_none]
  split_ifs <;> rfl

theorem State.eraseRefused_eq : s.eraseRefused slot =
    if s.sc.layoutState = .noLayout then some .noLayout
    else if slot.toNat = 0 ∨ s.slotCount < slot.toNat then some .range
    else if s.sc.op ≠ none ∨ s.sc.openSlot = some slot.toNat then some .busy
    else if s.sb.supply = .fence then some .power
    else none := by
  unfold State.eraseRefused
  rw [State.layoutRefused_eq]
  simp only [Bool.or_eq_true, Option.isSome_iff_ne_none, beq_iff_eq]
  split_ifs <;> rfl

theorem State.abortRefused_eq : s.abortRefused slot =
    if s.sc.layoutState = .noLayout then some .noLayout
    else if slot.toNat = 0 ∨ s.slotCount < slot.toNat then some .range
    else if s.sc.openSlot ≠ some slot.toNat then some .state
    else none := by
  unfold State.abortRefused
  rw [State.layoutRefused_eq]
  split_ifs <;> rfl

end Checks

/-- R53 to R55: what an accepted SLOT-OPEN finds. -/
theorem State.openRefused_none {s : State} {slot seed : Byte} (h : s.openRefused slot seed = none) :
    1 ≤ slot.toNat ∧ slot.toNat ≤ s.slotCount ∧ s.sc.openSlot = none ∧ s.sc.op = none := by
  rw [State.openRefused_eq] at h
  split_ifs at h with _ _ hslot hbusy
  rw [not_or, not_not, not_not] at hbusy
  exact ⟨by omega, by omega, hbusy.1, hbusy.2⟩

/-- R56: what an accepted SLOT-WRITE finds. -/
theorem State.writeRefused_none {s : State} {slot : Byte} {offset : Half} {count : Byte}
    (h : s.writeRefused slot offset count = none) : 1 ≤ slot.toNat ∧ slot.toNat ≤ s.slotCount
      ∧ s.sc.openSlot = some slot.toNat ∧ s.sc.op = none ∧ offset.toNat + count.toNat ≤ s.slotSize slot.toNat := by
  rw [State.writeRefused_eq] at h
  split_ifs at h with _ _ hslot hopen hop hsize
  exact ⟨by omega, by omega, not_not.mp hopen, not_not.mp hop, Nat.not_lt.mp hsize⟩

/-- R57: what an accepted SLOT-COMMIT finds. -/
theorem State.commitRefused_none {s : State} {slot : Byte} {length : Half} (h : s.commitRefused slot length = none) :
    1 ≤ slot.toNat ∧ slot.toNat ≤ s.slotCount ∧ s.sc.openSlot = some slot.toNat ∧ s.sc.op = none
      ∧ length.toNat ≤ s.slotSize slot.toNat := by
  rw [State.commitRefused_eq] at h
  split_ifs at h with _ hslot hopen hop hsize
  exact ⟨by omega, by omega, not_not.mp hopen, not_not.mp hop, Nat.not_lt.mp hsize⟩

/-- R62: what an accepted SLOT-ERASE finds. -/
theorem State.eraseRefused_none {s : State} {slot : Byte} (h : s.eraseRefused slot = none) :
    1 ≤ slot.toNat ∧ slot.toNat ≤ s.slotCount ∧ s.sc.op = none ∧ s.sc.openSlot ≠ some slot.toNat := by
  rw [State.eraseRefused_eq] at h
  split_ifs at h with _ hslot hbusy
  rw [not_or, not_not] at hbusy
  exact ⟨by omega, by omega, hbusy.1, hbusy.2⟩

/-- R63: what an accepted SLOT-ABORT finds. -/
theorem State.abortRefused_none {s : State} {slot : Byte} (h : s.abortRefused slot = none) :
    s.sc.openSlot = some slot.toNat := by
  rw [State.abortRefused_eq] at h
  split_ifs at h with _ _ hopen
  exact not_not.mp hopen

/-! ### The records that the save requests make -/

/-- R50: no read extent is above the size of its slot. -/
theorem State.readExtent_le (s : State) (n : Nat) : s.readExtent n ≤ s.slotSize n := by
  unfold State.readExtent
  split
  · exact Nat.zero_le _
  · exact Nat.min_le_right _ _
  · exact Nat.min_le_right _ _

theorem State.seedExtent_le (s : State) (slot seed : Byte) : s.seedExtent slot seed ≤ s.slotSize slot.toNat := by
  unfold State.seedExtent
  split
  · exact s.readExtent_le _
  · exact Nat.zero_le _

/-- R51, R57: an operation that verifies is a commit of the open slot. -/
theorem commit_of_verifying {s : State} {op : KeepOp} (h : OpOk s op) (hp : op.phase = .verifying) :
    op.kind = .commit ∧ s.sc.openSlot = some op.slot := by
  obtain ⟨-, -, -, -, -, hseed, hcommit, herase⟩ := h
  cases hk : op.kind with
  | commit => exact ⟨rfl, (hcommit hk).2⟩
  | seed => exact absurd (hp.symm.trans (hseed hk).1) nofun
  | erase => exact absurd (hp.symm.trans (herase hk).1) nofun

/-- R51, R55: an operation that seeds is one of the open slot. -/
theorem open_of_seeding {s : State} {op : KeepOp} (h : OpOk s op) (hp : op.phase = .seeding) :
    s.sc.openSlot = some op.slot := by
  obtain ⟨-, -, -, -, -, hseed, hcommit, herase⟩ := h
  cases hk : op.kind with
  | seed => exact (hseed hk).2
  | commit => exact (hcommit hk).2
  | erase => exact absurd (hp.symm.trans (herase hk).1) nofun

/-- R51: the records of a part that is awake, with no operation in flight. -/
theorem saveOk_of_open {s : State} (ha : s.sb.power.awake = true) (hop : s.sc.op = none)
    (hopen : ∀ n ∈ s.sc.openSlot, 1 ≤ n ∧ n ≤ s.slotCount ∧ s.sc.highMark ≤ s.slotSize n) : SaveOk s :=
  ⟨by rw [hop]; nofun, hopen, fun h => Bool.noConfusion (ha.symm.trans h)⟩

/-- R51: the records of a part that is awake, with an operation in flight. -/
theorem saveOk_of_op {s : State} {op : KeepOp} (ha : s.sb.power.awake = true) (hop : s.sc.op = some op)
    (hok : OpOk s op) (hopen : ∀ n ∈ s.sc.openSlot, 1 ≤ n ∧ n ≤ s.slotCount ∧ s.sc.highMark ≤ s.slotSize n) :
    SaveOk s :=
  ⟨fun _ ho => Option.some.inj (hop.symm.trans ho) ▸ hok, hopen, fun h => Bool.noConfusion (ha.symm.trans h)⟩

/-- R58 to R60: the end of a verify. -/
theorem Guards.endVerify {s : State} {op : KeepOp} (hop : SaveOk s → OpOk s op) (hp : op.phase = .verifying)
    (hs : s.sc.op ≠ none) : Guards s (s.endVerify op) := by
  unfold State.endVerify
  split
  · refine Guards.of_write (n := op.slot) (first := s.shadowAddr op.slot) (bs := (s.commitHeader op).bytes)
      (fun h => saveOk_of_sc (s := s) (State.setOp_sc _ _) (by simp) (by simp) ?_) (by simp) (by simp) fun h => ?_
    · obtain ⟨hkind, hslot⟩ := commit_of_verifying (hop h) hp
      obtain ⟨h1, hn, hextent, hlength, hdone, -⟩ := hop h
      have ha : s.sb.power.awake = true := awake_of_op h hs
      refine saveOk_of_op ha rfl ⟨h1, hn, hextent, hlength, hdone, ?_, ?_, ?_⟩ h.2.1
      · exact fun hk => absurd (hkind.symm.trans hk) nofun
      · exact fun _ => ⟨.inr rfl, hslot⟩
      · exact fun hk => absurd (hkind.symm.trans hk) nofun
    · obtain ⟨h1, hn, -⟩ := hop h
      rw [HeaderFields.length_bytes]
      exact ⟨h1, hn, le_refl _, by omega⟩
  · refine Guards.of_saves ⟨fun h => saveOk_of_sc (s := s) rfl rfl rfl ?_, rfl, rfl⟩
    have ha : s.sb.power.awake = true := awake_of_op h hs
    exact saveOk_of_open ha rfl h.2.1

/-! ### Services -/

/-- What a service leaves guards the faces, served in a part that is awake. -/
def GuardsFaces (svc : Service) : Prop := ∀ p s, s.sb.power.awake = true → Guards s (svc p s).1

theorem guardsFaces_of_reads {svc : Service} (h : ReadsOnly svc) : GuardsFaces svc := by
  intro p s _
  obtain ⟨_, _, he⟩ := h p s
  rw [he]
  exact Guards.refl s

/-- R53 to R55: an accepted SLOT-OPEN opens a slot of the layout, and seeds within its size. -/
theorem serveSlotOpen_guards (slot seed : Byte) : GuardsFaces (serveSlotOpen slot seed) := by
  intro p s ha
  unfold serveSlotOpen
  split
  · exact Guards.refl s
  · rename_i hok
    obtain ⟨h1, hn, hopen, hop⟩ := State.openRefused_none hok
    let s1 := s.setOpen (some slot.toNat) 0
    have hmark : ∀ n ∈ s1.sc.openSlot, 1 ≤ n ∧ n ≤ s1.slotCount ∧ s1.sc.highMark ≤ s1.slotSize n := by
      rintro _ ⟨⟩
      exact ⟨h1, hn, Nat.zero_le _⟩
    show Guards s (if s.seedExtent slot seed = 0 then s1
      else s1.setOp (some (seedOp slot.toNat (s.seedExtent slot seed) s.now)))
    split
    · exact Guards.of_saves ⟨fun _ => saveOk_of_open ha hop hmark, rfl, rfl⟩
    · refine Guards.of_saves ⟨fun _ => saveOk_of_op ha rfl ⟨h1, hn, s.seedExtent_le _ _, Nat.zero_le _, Nat.zero_le _,
        fun _ => ⟨rfl, rfl⟩, nofun, nofun⟩ hmark, rfl, rfl⟩

/-- R56: an accepted SLOT-WRITE writes within the shadow data of the open slot. -/
theorem serveSlotWrite_guards (slot : Byte) (offset : Half) (count : Byte) (data : List Byte) :
    GuardsFaces (serveSlotWrite slot offset count data) := by
  intro p s ha
  unfold serveSlotWrite
  split
  · exact Guards.refl s
  · rename_i hok
    obtain ⟨h1, hn, hopen, hop, hsize⟩ := State.writeRefused_none hok
    refine Guards.of_write (n := slot.toNat) (first := s.shadowData slot.toNat + offset.toNat)
      (bs := dataBytes data count.toNat) (fun h => saveOk_of_sc (s := s) (State.setOpen_sc _ _ _) (by simp [serve])
        (by simp [serve]) (saveOk_of_open ha hop ?_)) (by simp [serve]) (by simp [serve]) fun _ => ?_
    · rintro _ ⟨⟩
      exact ⟨h1, hn, max_le (h.2.1 _ hopen).2.2 hsize⟩
    · have hdata : s.shadowData slot.toNat = s.shadowAddr slot.toNat + 32 := rfl
      have hlength : (dataBytes data count.toNat).length = count.toNat := by simp [dataBytes]
      rw [hdata, hlength]
      exact ⟨h1, hn, by omega, by omega⟩

/-- R57, R58: an accepted SLOT-COMMIT verifies within the open slot; one of no bytes ends its verify. -/
theorem serveSlotCommit_guards (slot : Byte) (length crc : Half) : GuardsFaces (serveSlotCommit slot length crc) := by
  intro p s ha
  unfold serveSlotCommit
  split
  · exact Guards.refl s
  · rename_i hok
    obtain ⟨h1, hn, hopen, hop, hsize⟩ := State.commitRefused_none hok
    let op := commitOp slot.toNat length crc s.now
    have hcommit : Saves s (s.setOp (some op)) := ⟨fun h => saveOk_of_op ha rfl ⟨h1, hn, hsize, hsize, Nat.zero_le _,
      nofun, fun _ => ⟨.inl rfl, hopen⟩, nofun⟩ h.2.1, rfl, rfl⟩
    show Guards s (if length = 0 then (s.setOp (some op)).endVerify op else s.setOp (some op))
    split
    · exact Guards.after hcommit rfl (Guards.endVerify (fun h => h.1 op rfl) rfl (Option.some_ne_none op))
    · exact Guards.of_saves hcommit

/-- R62: an accepted SLOT-ERASE writes the shadow header of a slot that is not open. -/
theorem serveSlotErase_guards (slot : Byte) : GuardsFaces (serveSlotErase slot) := by
  intro p s ha
  unfold serveSlotErase
  split
  · exact Guards.refl s
  · rename_i hok
    obtain ⟨h1, hn, hop, hopen⟩ := State.eraseRefused_none hok
    refine Guards.of_write (n := slot.toNat) (first := s.shadowAddr slot.toNat) (bs := (s.eraseHeader slot.toNat).bytes)
      (fun h => saveOk_of_sc (s := s) (State.setOp_sc _ _) (by simp [serve]) (by simp [serve]) (saveOk_of_op ha rfl
        ⟨h1, hn, Nat.zero_le _, Nat.zero_le _, le_refl _, nofun, nofun, fun _ => ⟨rfl, hopen⟩⟩ h.2.1))
      (by simp [serve]) (by simp [serve]) fun _ => ?_
    rw [HeaderFields.length_bytes]
    exact ⟨h1, hn, le_refl _, by omega⟩

/-- R63: an accepted SLOT-ABORT ends what concerns the open slot; an erase elsewhere runs on. -/
theorem serveSlotAbort_guards (slot : Byte) : GuardsFaces (serveSlotAbort slot) := by
  intro p s ha
  unfold serveSlotAbort
  split
  · exact Guards.refl s
  · rename_i hok
    have hopen := State.abortRefused_none hok
    refine Guards.of_saves ⟨fun h => ?_, rfl, rfl⟩
    show SaveOk ((s.setOp (opAfterAbort s.sc.op slot.toNat)).setOpen none 0)
    cases hop : opAfterAbort s.sc.op slot.toNat with
    | none => exact saveOk_of_open ha rfl nofun
    | some o =>
      obtain ⟨hmem, hother⟩ : s.sc.op = some o ∧ o.slot ≠ slot.toNat := by
        unfold opAfterAbort at hop
        split at hop
        · rename_i o' ho
          split at hop
          · cases hop
          · rename_i hne
            cases hop
            exact ⟨ho, hne⟩
        · cases hop
      obtain ⟨h1, hn, hextent, hlength, hdone, hseed, hcommit, herase⟩ := h.1 o hmem
      have hclosed : s.sc.openSlot ≠ some o.slot := fun he => hother (Option.some.inj (he.symm.trans hopen))
      exact saveOk_of_op ha rfl ⟨h1, hn, hextent, hlength, hdone, fun hk => absurd (hseed hk).2 hclosed,
        fun hk => absurd (hcommit hk).2 hclosed, fun hk => ⟨(herase hk).1, nofun⟩⟩ nofun

/-- R84: a rewind recorded. -/
theorem Saves.recordRewind (s : State) (old : Nat) : Saves s (s.recordRewind old) := by
  unfold State.recordRewind
  split
  · exact of_parts
  · exact refl s

theorem serveClockSet_guards (year : Half) (month day hour minute second : Byte) :
    GuardsFaces (serveClockSet year month day hour minute second) := by
  intro p s _
  have hset : ∀ seconds, Saves s (({ s with cu := s.cu.set seconds } : State).recordRewind s.cu.seconds) :=
    fun seconds => (Saves.of_parts (t := { s with cu := s.cu.set seconds })).trans (Saves.recordRewind _ _)
  unfold serveClockSet
  split
  · exact Guards.refl s
  · split
    · exact Guards.refl s
    · simp only
      split
      · exact Guards.of_saves ((hset _).trans (Saves.reckon _ _ _))
      · exact Guards.of_saves ((hset _).trans (Saves.reckon _ _ _))

theorem serveClockNudge_guards (amount : Half) : GuardsFaces (serveClockNudge amount) := by
  intro p s _
  unfold serveClockNudge
  split
  · exact Guards.refl s
  · split
    · exact Guards.refl s
    · have hmoved : Saves s { s with cu := { s.cu with seconds := nudged s.cu.seconds amount.toInt } } := Saves.of_parts
      exact Guards.of_saves ((hmoved.trans (Saves.recordRewind _ _)).trans (Saves.reckon _ _ _))

theorem serveVoiceStart_guards (f : VoiceStartFields) : GuardsFaces (serveVoiceStart f) := by
  intro p s _
  unfold serveVoiceStart
  split
  · exact Guards.refl s
  · split
    · exact Guards.refl s
    · rename_i n _
      have hended : Saves s (if (s.voice n).busy then s.endVoices (single n) false else s) := by
        split
        · exact Saves.endVoices s _ _
        · exact Saves.refl s
      exact Guards.of_saves (hended.trans Saves.of_parts)

theorem serveVoiceStop_guards (voice : Byte) (generation : Half) (mode : Byte) (ramp : Half) :
    GuardsFaces (serveVoiceStop voice generation mode ramp) := by
  intro p s _
  unfold serveVoiceStop
  split
  · exact Guards.refl s
  · refine Guards.of_saves ?_
    show Saves s (if mode = 0 then s.endVoices (s.stopSet voice) false else s.releaseVoices (s.stopSet voice) ramp.toNat)
    split
    · exact Saves.endVoices s _ _
    · have hrelease : Saves s (s.mapVoices fun n v =>
          if (s.stopSet voice).getLsbD n then v.release ramp.toNat else v) := Saves.of_parts
      exact hrelease.trans (Saves.endVoices _ _ _)

theorem serveAwait_guards (h : ReqHead) (members : Triple) (limit : Half) :
    GuardsFaces (serveAwait h members limit) := by
  intro p s _
  unfold serveAwait
  split
  · exact Guards.refl s
  · simp only
    split <;> exact Guards.of_saves Saves.of_parts

theorem serveRumblePlay_guards (layer pattern priority scale : Byte) :
    GuardsFaces (serveRumblePlay layer pattern priority scale) := by
  intro p s _
  unfold serveRumblePlay
  split
  · exact Guards.refl s
  · exact Guards.of_saves (Saves.startLayer s _ _ _ _)

theorem serveVoiceAdjust_guards (f : VoiceAdjustFields) : GuardsFaces (serveVoiceAdjust f) := by
  intro p s _
  unfold serveVoiceAdjust
  simp only
  split
  · exact Guards.refl s
  · exact Guards.of_saves Saves.of_parts

theorem serveEntryAdd_guards (f : EntryFields) : GuardsFaces (serveEntryAdd f) := by
  intro p s _
  unfold serveEntryAdd
  split
  · exact Guards.refl s
  · split
    · exact Guards.refl s
    · split
      · exact Guards.refl s
      · exact Guards.of_saves Saves.of_parts

theorem serveEntryDrop_guards (id : Byte) : GuardsFaces (serveEntryDrop id) := by
  intro p s _
  unfold serveEntryDrop
  split
  · exact Guards.refl s
  · split
    · exact Guards.refl s
    · split
      · exact Guards.refl s
      · exact Guards.of_saves Saves.of_parts

theorem serveFiredTake_guards (count : Byte) : GuardsFaces (serveFiredTake count) := by
  intro p s _
  unfold serveFiredTake
  split
  · exact Guards.refl s
  · split
    · exact Guards.refl s
    · exact Guards.of_saves Saves.of_parts

theorem serveWatchSet_guards (members : Triple) : GuardsFaces (serveWatchSet members) := by
  intro p s _
  unfold serveWatchSet
  split
  · exact Guards.refl s
  · exact Guards.of_saves Saves.of_parts

theorem serveReasonsGroups_guards (groups : Byte) : GuardsFaces (serveReasonsGroups groups) := by
  intro p s _
  unfold serveReasonsGroups
  split
  · exact Guards.refl s
  · exact Guards.of_saves Saves.of_parts

theorem serveMixSet_guards (gain : Half) (hold : Byte) : GuardsFaces (serveMixSet gain hold) := by
  intro p s _
  unfold serveMixSet
  split
  · exact Guards.refl s
  · exact Guards.of_saves Saves.of_parts

theorem servePatternDefine_guards (f : PatternFields) : GuardsFaces (servePatternDefine f) := by
  intro p s _
  unfold servePatternDefine
  split
  · exact Guards.refl s
  · exact Guards.of_saves Saves.of_parts

theorem serveRumbleStop_guards (layer : Byte) : GuardsFaces (serveRumbleStop layer) := by
  intro p s _
  unfold serveRumbleStop
  split
  · exact Guards.refl s
  · exact Guards.of_saves Saves.of_parts

theorem serveCueArm_guards (f : CueFields) : GuardsFaces (serveCueArm f) := by
  intro p s _
  unfold serveCueArm
  split
  · exact Guards.refl s
  · exact Guards.of_saves Saves.of_parts

theorem serveCueDisarm_guards (cue : Byte) : GuardsFaces (serveCueDisarm cue) := by
  intro p s _
  unfold serveCueDisarm
  split
  · exact Guards.refl s
  · exact Guards.of_saves Saves.of_parts

/-- The service of every request guards the faces. -/
theorem serviceOf_guards {c : Instr} {svc : Service} (h : serviceOf c = some svc) : GuardsFaces svc := by
  cases c <;> simp only [serviceOf, Option.some.injEq, reduceCtorEq] at h <;> subst h
  case hello => exact guardsFaces_of_reads serveHello_reads
  case resetActive => exact fun _ _ _ => Guards.of_saves Saves.of_parts
  case watchSet => exact serveWatchSet_guards _
  case watchRead => exact guardsFaces_of_reads serveWatchRead_reads
  case reasonsTakeGroups => exact serveReasonsGroups_guards _
  case reasonsTakeSummary => exact guardsFaces_of_reads (serveReasonsSummary_reads _)
  case await => exact serveAwait_guards _ _ _
  case voiceStart => exact serveVoiceStart_guards _
  case voiceAdjust => exact serveVoiceAdjust_guards _
  case voiceStopImmediate => exact serveVoiceStop_guards _ _ _ _
  case voiceStopRelease => exact serveVoiceStop_guards _ _ _ _
  case voiceQuery => exact guardsFaces_of_reads (serveVoiceQuery_reads _)
  case mixSet => exact serveMixSet_guards _ _
  case slotOpen => exact serveSlotOpen_guards _ _
  case slotWrite => exact serveSlotWrite_guards _ _ _ _
  case slotCommit => exact serveSlotCommit_guards _ _ _
  case slotErase => exact serveSlotErase_guards _
  case slotAbort => exact serveSlotAbort_guards _
  case slotRead => exact guardsFaces_of_reads (serveSlotRead_reads _ _ _ _)
  case slotList => exact guardsFaces_of_reads serveSlotList_reads
  case clockRead => exact guardsFaces_of_reads serveClockRead_reads
  case clockSet => exact serveClockSet_guards _ _ _ _ _ _
  case clockNudge => exact serveClockNudge_guards _
  case clockTrim => exact fun _ _ _ => Guards.of_saves Saves.of_parts
  case entryAdd => exact serveEntryAdd_guards _
  case entryDrop => exact serveEntryDrop_guards _
  case entryList => exact guardsFaces_of_reads (serveEntryList_reads _)
  case firedTake => exact serveFiredTake_guards _
  case daysRead => exact guardsFaces_of_reads serveDaysRead_reads
  case patternDefine => exact servePatternDefine_guards _
  case rumblePlay => exact serveRumblePlay_guards _ _ _ _
  case rumbleStop => exact serveRumbleStop_guards _
  case rumbleQuery => exact guardsFaces_of_reads serveRumbleQuery_reads
  case cueArm => exact serveCueArm_guards _
  case cueDisarm => exact serveCueDisarm_guards _
  case standbyEnter => exact fun _ _ _ => Guards.of_saves (Saves.of_awake rfl)
  case budgetRead => exact guardsFaces_of_reads serveBudgetRead_reads

end Sys2Proof.Machine
end

section
/-! SUPPORT. What every event keeps of the save records and the faces (R48, R49, R51). -/

set_option Elab.async false

namespace Sys2Proof.Machine

open Sys2Proof.Safety Sys2Proof.Proofs

/-! ### Requests (R153, R174, R176, R179) -/

/-- R176: the arrival of a frame, which leaves STANDBY for ACTIVE. -/
theorem Saves.arrive (s : State) : Saves s s.arrive := by
  let s1 := if s.sb.power = .standby then s.enterActive else s
  have h1 : Saves s s1 := by
    show Saves s (if s.sb.power = .standby then s.enterActive else s)
    split
    · exact Saves.enterActive s
    · exact Saves.refl s
  unfold State.arrive
  simp only
  split
  · exact ((h1.trans (Saves.withLp _ _)).trans (Saves.report _)).trans (Saves.refresh _)
  · exact ((h1.trans Saves.of_parts).trans (Saves.report _)).trans (Saves.refresh _)

/-- R33, R159: to report the conditions and recompute moves no face. -/
theorem State.report_refresh_place (u : State) :
    u.report.refresh.facePart = u.facePart ∧ u.report.refresh.sb.power = u.sb.power := by
  rw [State.report_eq]
  exact ⟨rfl, rfl⟩

/-- R153: the arrival of a frame leaves the power state, or wakes the part, and the faces in their places. -/
theorem State.arrive_place (s : State) : s.arrive.facePart = s.facePart
    ∧ (s.arrive.sb.power = s.sb.power ∨ s.arrive.sb.power = .active) := by
  have hwake : (if s.sb.power = .standby then s.enterActive else s).facePart = s.facePart
      ∧ ((if s.sb.power = .standby then s.enterActive else s).sb.power = s.sb.power
        ∨ (if s.sb.power = .standby then s.enterActive else s).sb.power = .active) := by
    split
    · exact ⟨rfl, .inr rfl⟩
    · exact ⟨rfl, .inl rfl⟩
  unfold State.arrive
  simp only
  split
  all_goals
    rw [(State.report_refresh_place _).1, (State.report_refresh_place _).2]
    exact hwake

theorem Saves.answer (kind tag : Byte) (extra : Bool) (r : State × Option Reply) :
    Saves r.1 (State.answer kind tag extra r) := by
  unfold State.answer
  split
  · exact Saves.of_parts
  · exact Saves.refl _

/-- R179: a pending reset made in place of a frame's service. -/
theorem Guards.reset (s : State) : Guards s s.resetMade.serviceStore.refresh :=
  Guards.of_saves (((Saves.resetMade s).trans (Saves.serviceStore _)).trans (Saves.refresh _))

/-- R153: a frame that arrives in a part not in KEEP or WAKING finds it awake. -/
theorem State.arrive_awake {s : State} (hk : s.sb.power ≠ .keep) (hw : s.sb.power ≠ .waking) :
    s.arrive.sb.power.awake = true := by
  rcases s.arrive_place.2 with h | h
  · rw [h]
    cases hp : s.sb.power with
    | keep => exact absurd hp hk
    | waking => exact absurd hp hw
    | active => rfl
    | standby => rfl
  · rw [h]
    rfl

theorem complete_guards (s : State) {kind : Byte} (tag : Byte) (extra : Bool) {svc : Service} (h : GuardsFaces svc)
    (hk : kind = Kind.hello → svc = serveHello) : Guards s (s.complete kind tag extra svc) := by
  unfold State.complete
  split
  · exact Guards.refl s
  · rename_i hkeep
    split
    · exact Guards.reset s
    · have hserved : Guards s.arrive (readied kind svc s.sb.power s.arrive).1 := by
        unfold readied
        split
        · exact Guards.refl _
        · rename_i hready
          by_cases hw : s.sb.power = .waking
          · have hello : kind = Kind.hello := by
              by_contra hne
              exact hready ⟨hw, hne⟩
            rw [hk hello]
            exact Guards.refl _
          · exact h _ _ (State.arrive_awake hkeep hw)
      exact Guards.after (Saves.arrive s) s.arrive_place.1
        ((hserved.trans (Saves.answer kind tag extra _)).trans (Saves.concludeRequest _))

theorem exec_request_guards {c : Instr} {svc : Service} (hc : serviceOf c = some svc) {s t : State}
    (ht : exec c s = .next t) : Guards s t := by
  obtain ⟨h, k, hk, he⟩ := exec_of_service hc
  rw [he] at ht
  cases ht
  exact complete_guards s h.tag h.extra (serviceOf_guards hc) hk

/-! ### The byte path (R170, R172) -/

theorem reject_guards (s : State) (f : Frame) (c : Code) (fault : Option FaultCause) : Guards s (s.reject f c fault) := by
  unfold State.reject
  split
  · exact Guards.reset s
  · have hfault : Saves s.arrive (match fault with
        | some k => s.arrive.raiseFrameFault k
        | none => s.arrive) := by
      split
      · exact Saves.of_parts
      · exact Saves.refl _
    exact Guards.of_saves ((((Saves.arrive s).trans hfault).trans Saves.of_parts).trans (Saves.concludeRequest _))

theorem completeFrame_guards (s : State) (f : Frame) (check : Byte) : Guards s (s.completeFrame f check) := by
  unfold State.completeFrame
  split
  · exact reject_guards s _ _ _
  · simp only
    split
    · rename_i svc hsvc
      refine complete_guards s _ _ ?_ fun hk => ?_
      · unfold Asked.service at hsvc
        split at hsvc
        · exact serviceOf_guards hsvc
        · cases hsvc
          exact fun _ _ _ => Guards.refl _
        · cases hsvc
      · rw [hk, decodeRequest_hello] at hsvc
        cases hsvc
        rfl
    · exact reject_guards s _ _ _

theorem Guards.link (s : State) (l : LinkPort) : Guards s { s with lp := l } := of_saves (Saves.withLp s l)

theorem takeByte_guards (s : State) (din : Byte) : Guards s (s.takeByte din) := by
  unfold State.takeByte
  split
  · exact Guards.whenever fun _ => Guards.link s _
  · split
    · exact completeFrame_guards s _ _
    · exact Guards.link s _

theorem transfer_guards (s : State) (din : Byte) : Guards s (s.transfer din) := by
  have hout : Saves s { s with lp := s.lp.shiftOut } := Saves.withLp s _
  unfold State.transfer
  simp only
  split
  · exact Guards.conclude s (Guards.of_saves (hout.trans (Saves.resetMade _)))
  · exact Guards.after hout rfl (takeByte_guards _ din)

theorem closeWindow_guards (s : State) : Guards s s.closeWindow := by
  unfold State.closeWindow
  split
  · exact Guards.conclude s (Guards.of_saves (Saves.resetMade s))
  · simp only
    split
    · exact Guards.conclude s (Guards.of_saves Saves.of_parts)
    · exact Guards.conclude s (Guards.link s _)

/-! ### Timed events -/

/-- An event at its moment: time passes to it, and what it does leaves keep memory and the face word. -/
theorem Guards.timed {s u : State} {dt : Nat} (h : Saves (s.elapse dt) u) : Guards s (State.conclude s u) :=
  Guards.conclude s ((Guards.elapse s dt).trans h)

theorem expireAwait_guards (s : State) (a : PendingAwait) : Guards s (s.expireAwait a) := Guards.timed Saves.of_parts

theorem boundary_guards (s : State) : Guards s s.boundary := Guards.whenever fun _ => Guards.timed (Saves.render _)

theorem tick_guards (s : State) : Guards s s.tick := by
  refine Guards.whenever fun _ => Guards.conclude s ?_
  unfold State.markTick
  split
  · exact Guards.of_saves ((Saves.of_parts).trans (Saves.tickLayers _))
  · exact (Guards.elapse s _).trans ((Saves.of_parts).trans (Saves.tickLayers _))

/-- R55: the end of a seeding leaves its slot open with the extent copied as high mark. -/
theorem Saves.endSeeding {s : State} {op : KeepOp} {slot : Option Nat} (hop : s.sc.op = some op)
    (hp : op.phase = .seeding) (hslot : s.sc.openSlot = slot) : Saves s ((s.setOp none).setOpen slot op.extent) := by
  refine ⟨fun h => ?_, rfl, rfl⟩
  have hok := h.1 op hop
  have hopen := hslot.symm.trans (open_of_seeding hok hp)
  obtain ⟨h1, hn, hextent, -⟩ := hok
  have ha : s.sb.power.awake = true := awake_of_op h (hop ▸ Option.some_ne_none op)
  refine saveOk_of_open ha rfl fun n hn' => ?_
  cases (hopen.symm.trans hn' : some op.slot = some n)
  exact ⟨h1, hn, hextent⟩

/-- R51: time moves nothing of an operation but its count of bytes. -/
theorem KeepOp.after_eq (op : KeepOp) (now dt : Nat) : op.after now dt = { op with done := (op.after now dt).done } := by
  unfold KeepOp.after
  split <;> rfl

/-- R55: the operation in flight after a time. -/
theorem State.elapse_op {s : State} {op : KeepOp} (hop : s.sc.op = some op) (dt : Nat) :
    (s.elapse dt).sc.op = some (op.after s.now dt) := by
  rw [s.elapse_sc dt, hop]
  rfl

theorem seedingDone_guards {s : State} {op : KeepOp} (hop : s.sc.op = some op) (hp : op.phase = .seeding) :
    Guards s (s.seedingDone op) := by
  let dt := op.began + op.extent * Config.byteTime - s.now
  have hafter := op.after_eq s.now dt
  have hopen : (s.elapse dt).sc.openSlot = s.sc.openSlot := by rw [s.elapse_sc dt]
  have hend := Saves.endSeeding (State.elapse_op hop dt) ((congrArg KeepOp.phase hafter).trans hp) hopen
  rw [hafter] at hend
  exact Guards.timed hend

/-- R58: a verify reads keep memory alone, and its end writes the shadow header of the slot it concerns. -/
theorem verifyDone_guards {s : State} {op : KeepOp} (hop : s.sc.op = some op) (hp : op.phase = .verifying) :
    Guards s (s.verifyDone op) := by
  let dt := op.began + op.extent * Config.byteTime - s.now
  let u := s.elapse dt
  have hmem : u.sc.op = some (op.after s.now dt) := State.elapse_op hop dt
  have hend : Guards u (u.endVerify { op with done := op.extent }) := by
    refine Guards.endVerify (fun h => ?_) hp (by rw [hmem]; exact Option.some_ne_none _)
    have hok := h.1 _ hmem
    rw [op.after_eq] at hok
    obtain ⟨h1, hn, hextent, hlength, -, hkinds⟩ := hok
    exact ⟨h1, hn, hextent, hlength, le_refl _, hkinds⟩
  refine Guards.conclude s ?_
  show Guards s (u.endVerify { op with done := op.extent })
  cases hf : s.sb.format with
  | none =>
    have hworking := State.elapse_working hf hop dt
    have hseeding : ¬ op.phase = .seeding := by
      rw [hp]
      nofun
    rw [if_neg hseeding] at hworking
    have helapse : Saves s u := by
      refine ⟨fun h => saveOk_elapse h dt, ?_, ?_⟩
      · exact (congrArg State.keep hworking :)
      · exact (congrArg State.face hworking :)
    exact Guards.after helapse (congrArg State.facePart hworking :) hend
  | some f =>
    have hsf : s.sb.format ≠ none := by
      rw [hf]
      exact Option.some_ne_none f
    have hface : (u.endVerify { op with done := op.extent }).face = u.face := by
      unfold State.endVerify
      split
      · simp
      · rfl
    refine ⟨fun h => hend.ok (saveOk_elapse h dt), ?_, fun _ _ hnone => absurd hnone hsf⟩
    rw [hface]
    exact (Guards.elapse s dt).word

/-- R61: the flip ends the operation and inverts the face bit of its slot; it writes no byte. -/
theorem State.flip_moves {s : State} {op : KeepOp} (hop : s.sc.op = some op) (hp : op.phase = .settling) :
    (SaveOk s → SaveOk (s.flip op))
    ∧ (∃ dt, (s.flip op).keep = (s.elapse dt).keep ∧ (s.flip op).face = (s.elapse dt).face ^^^ slotBit op.slot) := by
  let dt := op.began + Config.settleTime - s.now
  let u := s.elapse dt
  have hmem : u.sc.op = some op := (State.elapse_op hop dt).trans (congrArg some (op.after_settling hp s.now dt))
  have hclose := Saves.conclude s (u.flipSlot op)
  refine ⟨fun h => hclose.ok ?_, dt, ?_, ?_⟩
  · have hu : SaveOk u := saveOk_elapse h dt
    have ha : u.sb.power.awake = true := awake_of_op hu (by rw [hmem]; exact Option.some_ne_none _)
    unfold State.flipSlot
    simp only
    split
    · exact saveOk_of_open ha rfl nofun
    · exact saveOk_of_open ha rfl hu.2.1
  · refine hclose.keep.trans ?_
    unfold State.flipSlot
    simp only
    split <;> rfl
  · refine hclose.face.trans ?_
    unfold State.flipSlot
    simp only
    split <;> rfl

theorem endSecond_guards (s : State) (mv : Nat) : Guards s (s.endSecond mv) := by
  refine Guards.whenever fun _ => Guards.timed (dt := s.secondDue - s.now) ?_
  split
  · exact (Saves.of_parts).trans (Saves.secondEvent _)
  · exact Saves.of_parts

/-! ### WAKING (R180 to R187) -/

/-- R180: in WAKING the save records are in their reset state, whatever the profile. -/
theorem Saves.of_asleep {s t : State} (ha : s.sb.power.awake = false) (hop : t.sc.op = s.sc.op := by rfl)
    (hopen : t.sc.openSlot = s.sc.openSlot := by rfl) (hk : t.keep = s.keep := by rfl) (hf : t.face = s.face := by rfl) :
    Saves s t :=
  ⟨fun h => saveOk_of_idle (hop.trans (idle_of_saveOk h ha).1) (hopen.trans (idle_of_saveOk h ha).2), hk, hf⟩

theorem Saves.finishWaking (s : State) : Saves s s.finishWaking := by
  let s8 := s.measureCell.beginStage 9
  have h9 : Saves s8 s8.reckonPowerUp := Saves.reckon _ _ _
  have h11 : Saves s8.reckonPowerUp ((s8.reckonPowerUp.beginStage 10).syncConditions.beginStage 11) := Saves.of_parts
  exact (((Saves.of_parts (t := s8)).trans h9).trans h11).trans (Saves.enterActive _)

theorem Saves.stageScrub (s : State) : Saves s s.stageScrub := by
  unfold State.stageScrub
  simp only
  split
  · exact (Saves.of_parts).trans (Saves.finishWaking _)
  · exact Saves.of_parts

theorem Saves.takeDirectory (s : State) : Saves s s.takeDirectory := (Saves.of_parts).trans (Saves.stageScrub _)

theorem Saves.stageDirectory (s : State) : Saves s s.stageDirectory := by
  unfold State.stageDirectory
  simp only
  split
  · exact Saves.of_parts
  · exact (Saves.of_parts).trans (Saves.stageScrub _)

/-- R183: the validation of a profile image changes the profile and what is known of it alone. -/
theorem State.validateProfile_rest (s : State) : s.validateProfile.sc = s.sc ∧ s.validateProfile.keep = s.keep
    ∧ s.validateProfile.face = s.face := ⟨rfl, rfl, rfl⟩

/-- R182 to R184: a profile is read in WAKING. -/
theorem Saves.takeProfile {s : State} (ha : s.sb.power.awake = false) : Saves s s.takeProfile := by
  have h5 : Saves s (s.beginStage 5).validateProfile := by
    obtain ⟨hsc, hkeep, hface⟩ := (s.beginStage 5).validateProfile_rest
    exact Saves.of_asleep ha (by rw [hsc]; rfl) (by rw [hsc]; rfl) hkeep hface
  unfold State.takeProfile State.decideFormat
  simp only
  split
  · exact h5.trans Saves.of_parts
  · exact h5.trans ((Saves.of_parts).trans (Saves.stageDirectory _))

theorem awake_of_stage {s : State} {n : Nat} (h : s.inStage n = true) : s.sb.power.awake = false := by
  obtain ⟨hp, -⟩ : s.sb.power = .waking ∧ s.sb.stage = n := by simpa [State.inStage] using h
  rw [hp]
  rfl

/-- R185, R186: the closing writes of a format are bytes of keep memory. -/
theorem State.closeFormat_keep (s : State) (k : FormatKind) : ∃ m, s.closeFormat k = { s with keep := m } := by
  have hbytes : ∀ (ws : List KeepWrite) (u : State), (∀ w ∈ ws, ∃ a b, w = .byte a b) →
      ∃ m, ws.foldl State.formatWrite u = { u with keep := m } := by
    intro ws
    induction ws with
    | nil => exact fun u _ => ⟨u.keep, rfl⟩
    | cons w ws ih =>
      intro u h
      obtain ⟨a, b, rfl⟩ := h w (List.mem_cons_self ..)
      obtain ⟨m, hm⟩ := ih (u.formatWrite (.byte a b)) fun w hw => h w (List.mem_cons_of_mem _ hw)
      exact ⟨m, hm⟩
  have hwrites : ∀ a bs, ∀ w ∈ byteWrites a bs, ∃ x b, w = .byte x b := by
    intro a bs w hw
    obtain ⟨i, hi, rfl⟩ := List.mem_mapIdx.mp hw
    exact ⟨_, _, rfl⟩
  refine hbytes _ s ?_
  cases k <;> exact hwrites _ _

/-- R185, R186: the end of a format. -/
theorem formatDone_guards {s : State} {f : FormatRun} (hf : s.sb.format ≠ none) : Guards s (s.formatDone f) := by
  let s1 := s.elapse (Config.formatTime - f.ran)
  obtain ⟨m, hm⟩ := s1.closeFormat_keep f.kind
  let s2 := ({ s1.closeFormat f.kind with sb := { (s1.closeFormat f.kind).sb with format := none } } : State).raiseFormatted f.kind
  have hclosed : s2.savePart = s1.savePart ∧ s2.sb.power = s1.sb.power ∧ s2.face = s1.face := by
    refine ⟨?_, ?_, ?_⟩
    · exact (congrArg State.savePart hm :)
    · exact (congrArg (fun u : State => u.sb.power) hm :)
    · exact (congrArg State.face hm :)
  obtain ⟨hparts, hpower, hface⟩ := hclosed
  have hrest := (Saves.stageDirectory s2).trans (Saves.conclude s _)
  refine ⟨fun h => hrest.ok (saveOk_congr hparts (fun ha => hpower ▸ ha) (saveOk_elapse h _)), ?_,
    fun _ _ hnone => absurd hnone hf⟩
  have hword := (Guards.elapse s (Config.formatTime - f.ran)).word
  rwa [← hface, ← hrest.face] at hword

theorem scrubbed_guards (s : State) (mv : Nat) : Guards s (s.scrubbed mv) := by
  refine Guards.timed (dt := s.sb.stageStart + s.scrubTime s.sb.scrubSlot - s.now) ?_
  split
  · exact Saves.of_parts
  · exact (Saves.of_parts).trans (Saves.finishWaking _)

theorem signatureChecked_guards (s : State) : Guards s s.signatureChecked := Guards.timed Saves.of_parts

theorem crystalChecked_guards (s : State) (edge : Bool) : Guards s (s.crystalChecked edge) := by
  cases edge with
  | true => exact Guards.conclude s (Guards.of_saves Saves.of_parts)
  | false => exact Guards.timed (dt := s.sb.stageStart + Config.monitorWindow - s.now) Saves.of_parts

/-! ### The store port (R31, R36, R41, R45) -/

theorem Saves.deliver (s : State) (f : Fetch) (data : List Byte) : Saves s (s.deliver f data) := by
  have hvoice : ∀ n, Saves s (s.deliverVoice n f data) := by
    intro n
    unfold State.deliverVoice
    simp only
    split
    · exact of_parts
    · exact refl s
  have hloader : Saves s (s.deliverLoader data) := by
    unfold State.deliverLoader
    split
    · exact refl s
    · simp only
      split
      · exact (of_parts).trans (endLoad _ _)
      · exact of_parts
  have hreader : Saves s (s.deliverReader data) := by
    let s1 : State := { s with sp := { s.sp with reader := s.sp.reader ++ data } }
    have h1 : Saves s s1 := of_parts
    show Saves s (if s1.sp.reader.length < s1.readerSpan.2 then s1
      else if s1.inStage 4 then s1.takeProfile
      else if s1.inStage 6 then s1.takeDirectory
      else s1)
    split_ifs with _ h4 h6
    · exact h1
    · exact h1.trans (takeProfile (awake_of_stage h4))
    · exact h1.trans (takeDirectory s1)
    · exact h1
  unfold State.deliver
  split
  · exact refl s
  · split
    · exact hvoice _
    · exact hloader
    · exact hreader

theorem fetchDone_guards (s : State) (f : Fetch) (data : List Byte) (mv : Nat) : Guards s (s.fetchDone f data mv) :=
  Guards.timed (dt := f.due - s.now) ((Saves.of_parts).trans (Saves.deliver _ f data))

/-! ### Supply (R140 to R144) -/

theorem losePower_guards (s : State) (mv : Nat) : Guards s (s.losePower mv) :=
  Guards.conclude s (Guards.of_saves ((Saves.of_parts (t := s.setPins mv s.sb.cellMv)).trans (Saves.enterKeep _)))

theorem returnPower_guards (s : State) (mv : Nat) : Guards s (s.returnPower mv) :=
  Guards.conclude s (Guards.of_saves ((Saves.of_parts (t := s.setPins mv s.sb.cellMv)).trans (Saves.enterWaking _)))

/-- R65: a rise to FENCE ends the operation in flight, and closes the slot unless it was an erase. -/
theorem Saves.abandonSave (s : State) : Saves s s.abandonSave := by
  unfold State.abandonSave
  split
  · exact refl s
  · rename_i op hop
    have ha : SaveOk s → s.sb.power.awake = true := fun h => awake_of_op h (hop ▸ Option.some_ne_none op)
    simp only
    split
    · exact ⟨fun h => saveOk_of_open (ha h) rfl h.2.1, rfl, rfl⟩
    · exact of_idle rfl rfl

theorem Saves.classChanged (s : State) (old : SupplyClass) : Saves s (s.classChanged old) := by
  have hwait : Saves s s.endSupplyWait := by
    unfold State.endSupplyWait
    split
    · exact of_parts
    · exact refl s
  unfold State.classChanged
  split_ifs
  · exact abandonSave s
  · exact hwait.trans (runDeferred _)
  · exact refl s

theorem supplyMoves_guards (s : State) (supplyMv cellMv : Nat) : Guards s (s.supplyMoves supplyMv cellMv) := by
  unfold State.supplyMoves
  split
  · exact Guards.after (Saves.of_parts (t := s.setPins s.sb.supplyMv cellMv)) rfl (losePower_guards _ _)
  · exact Guards.conclude s (Guards.of_saves ((Saves.of_parts
      (t := (s.setPins supplyMv cellMv).setClass (classAfter s.sb.supply supplyMv))).trans (Saves.classChanged _ _)))

/-! ### Every command -/

/-- R184: a format runs while one is under way. -/
theorem format_of_runs {s : State} {k : FormatKind} {f : FormatRun} (h : s.formatRuns k = some f) :
    s.sb.format ≠ none := by
  intro hnone
  rw [State.formatRuns, hnone] at h
  cases h

/-- The commands that are no requests, but for the flip. -/
theorem exec_event_guards {c : Instr} (hc : serviceOf c = none) (hflip : c ≠ .flip) {s t : State}
    (h : exec c s = .next t) : Guards s t := by
  cases c
  case windowOpen =>
    cases h
    split
    · exact Guards.refl s
    · exact Guards.link s _
  case windowClose => cases h; exact Guards.whenever fun _ => closeWindow_guards s
  case frameCompletion b => cases h; exact Guards.whenever fun _ => transfer_guards s b
  case replyCollected b => cases h; exact Guards.whenever fun _ => transfer_guards s b
  case byteTransfer b => cases h; exact Guards.whenever fun _ => transfer_guards s b
  case awaitExpiry =>
    cases h
    split
    · exact expireAwait_guards s _
    · exact Guards.refl s
  case mixBlockBoundary => cases h; exact boundary_guards s
  case primingLimit n => cases h; exact Guards.whenever fun _ => boundary_guards s
  case amplifierIdleOff => cases h; exact Guards.whenever fun _ => boundary_guards s
  case rumbleTick => cases h; exact tick_guards s
  case layerStepEnd n => cases h; exact Guards.whenever fun _ => tick_guards s
  case fetchCompletion data mv =>
    cases h
    split
    · exact Guards.whenever fun _ => fetchDone_guards s _ data mv
    · exact Guards.refl s
  case seedingCompletion =>
    cases h
    split
    · rename_i op hop
      exact Guards.whenever fun hp => seedingDone_guards hop hp
    · exact Guards.refl s
  case verifyEnd =>
    cases h
    split
    · rename_i op hop
      exact Guards.whenever fun hp => verifyDone_guards hop hp
    · exact Guards.refl s
  case flip => exact absurd rfl hflip
  case scrubSlotEnd mv => cases h; exact Guards.whenever fun _ => scrubbed_guards s mv
  case secondEnd mv => cases h; exact endSecond_guards s mv
  case crystalStopFound =>
    cases h
    exact Guards.whenever fun _ => Guards.conclude s (Guards.of_saves Saves.of_parts)
  case crystalEdgeReturn =>
    cases h
    split
    · exact Guards.refl s
    · exact Guards.conclude s (Guards.of_saves Saves.of_parts)
  case supplyClassChange supplyMv cellMv =>
    cases h
    split
    · exact Guards.refl s
    · exact supplyMoves_guards s supplyMv cellMv
  case consolePowerLost mv => cases h; exact Guards.whenever fun _ => losePower_guards s mv
  case consolePowerReturn mv => cases h; exact Guards.whenever fun _ => returnPower_guards s mv
  case keepSignatureCheck => cases h; exact Guards.whenever fun _ => signatureChecked_guards s
  case crystalCheckEnd edge => cases h; exact Guards.whenever fun _ => crystalChecked_guards s edge
  case fullFormatEnd =>
    cases h
    split
    · rename_i f hf
      exact formatDone_guards (format_of_runs hf)
    · exact Guards.refl s
  case slotFormatEnd =>
    cases h
    split
    · rename_i f hf
      exact formatDone_guards (format_of_runs hf)
    · exact Guards.refl s
  all_goals cases hc

/-- What any command but the flip keeps. -/
theorem exec_guards {c : Instr} (hflip : c ≠ .flip) {s t : State} (h : exec c s = .next t) : Guards s t := by
  cases hc : serviceOf c with
  | some svc => exact exec_request_guards hc h
  | none => exact exec_event_guards hc hflip h

/-- R61: a flip event takes place while an operation is SETTLING, and is none otherwise. -/
theorem exec_flip_cases {s t : State} (h : exec .flip s = .next t) :
    (∃ op, s.sc.op = some op ∧ op.phase = .settling ∧ t = s.flip op) ∨ t = s := by
  cases h
  cases hop : s.sc.op with
  | none => exact .inr rfl
  | some op =>
    simp only
    split
    · rename_i hp
      exact .inl ⟨op, rfl, hp, rfl⟩
    · exact .inr rfl

/-- What any step keeps, but for one whose command is the flip. -/
theorem step_guards {s t : State} (hflip : s.pending.head? ≠ some .flip) (h : step s = .next t) : Guards s t := by
  unfold step at h
  split at h
  · cases h
    exact (Guards.elapse s 1).trans (Saves.refresh _)
  · rename_i c rest hpending
    have hc : c ≠ .flip := by
      rintro rfl
      exact hflip (congrArg List.head? hpending)
    exact Guards.after (Saves.withPending s rest) rfl (exec_guards hc h)

/-- R61: a step whose command is the flip. -/
theorem step_flip_cases {s t : State} (hflip : s.pending.head? = some .flip) (h : step s = .next t) :
    ∃ rest, (∃ op, s.sc.op = some op ∧ op.phase = .settling ∧ t = ({ s with pending := rest } : State).flip op)
      ∨ t = { s with pending := rest } := by
  unfold step at h
  split at h
  · rename_i hpending
    rw [hpending] at hflip
    cases hflip
  · rename_i c rest hpending
    rw [hpending] at hflip
    cases hflip
    exact ⟨rest, exec_flip_cases h⟩

end Sys2Proof.Machine

namespace Sys2Proof.Proofs

open Sys2Proof.Safety Sys2Proof.Machine

/-- Settles O55: every event but the flip guards the records, and the flip ends the operation that settles. -/
theorem saveRecordsStaySound : Obligations.SaveRecordsStaySound := by
  unfold Obligations.SaveRecordsStaySound
  intro s t hs ht
  by_cases hflip : s.pending.head? = some .flip
  · obtain ⟨rest, ⟨op, hop, hp, rfl⟩ | rfl⟩ := step_flip_cases hflip ht
    · exact (State.flip_moves (s := { s with pending := rest }) hop hp).1 hs
    · exact hs
  · exact (step_guards hflip ht).ok hs

/-- Settles O59: every event but the flip guards the faces; the flip inverts the bit of the slot that settles, in a part
that is awake, where no format is under way. -/
theorem facesAreProtected : Obligations.FacesAreProtected := by
  unfold Obligations.FacesAreProtected
  intro s t hcalm hs hm ht
  by_cases hflip : s.pending.head? = some .flip
  · obtain ⟨rest, ⟨op, hop, hp, rfl⟩ | rfl⟩ := step_flip_cases hflip ht
    · let s1 : State := { s with pending := rest }
      have hawake : s1.sb.power.awake = true := awake_of_op (s := s1) hs (hop ▸ Option.some_ne_none op)
      have hf : s1.sb.format = none := by
        refine format_none_of_power (s := s1) (fun hw => ?_) hcalm.2
        rw [hw] at hawake
        cases hawake
      obtain ⟨-, dt, hkeep, hface⟩ := State.flip_moves (s := s1) hop hp
      have hguards := Guards.elapse s1 dt
      refine ⟨fun _ => .inl ⟨hflip, op, hop, hp, ?_⟩, fun _ n a h1 hn ha => ?_⟩
      · rw [hface, hguards.word.resolve_right fun h => h.1 hf]
      · rw [hkeep]
        exact hguards.bytes hs hm hf n a h1 hn ha
    · exact ⟨fun hne => absurd rfl hne, fun _ _ _ _ _ _ => rfl⟩
  · have hguards := step_guards hflip ht
    exact ⟨fun hne => .inr (hguards.word.resolve_left hne), fun hf n a h1 hn ha => hguards.bytes hs hm hf n a h1 hn ha⟩

end Sys2Proof.Proofs
end

section
/-! The save requests (R53 to R59, R62, R63, R68, R69). -/

set_option Elab.async false

namespace Sys2Proof.Machine

open Sys2Proof.Safety

/-- R159: of the SC's records the conditions rest on the slot states alone. -/
theorem State.ownerLevels_slots {s t : State} (hslots : t.sc.slots = s.sc.slots) :
    t.ownerLevels = ({ t with sc := s.sc } : State).ownerLevels := by
  have hdamaged : t.damagedSet = s.damagedSet := by rw [State.damagedSet, State.damagedSet, hslots]
  have hold : t.holds = ({ t with sc := s.sc } : State).holds := by
    funext m
    cases m with
    | slotDamaged => exact congrArg (· != 0) hdamaged
    | _ => rfl
  rw [State.ownerLevels, State.ownerLevels, hold]

/-- R159: a change of the save records that leaves the slot states needs no report. -/
theorem State.report_of_slots {s t : State} (h : s.report = s) (hslots : t.sc.slots = s.sc.slots) (hdr : t.dr = s.dr)
    (hcu : t.cu.valid = s.cu.valid) (hc : t.sb.supply = s.sb.supply) (hl : t.sb.cell = s.sb.cell)
    (hp : t.sb.profileStatus = s.sb.profileStatus) (ha : t.sb.power.awake = true → s.sb.power.awake = true)
    (h1 : t.au.level = s.au.level) (h2 : t.au.details.slotDamaged = s.au.details.slotDamaged)
    (h3 : t.au.details.firedWaiting = s.au.details.firedWaiting) : t.report = t := by
  rw [State.reported_iff] at h ⊢
  intro hw
  obtain ⟨e1, e2, e3⟩ := h (ha hw)
  have hlevels : t.ownerLevels = s.ownerLevels :=
    (State.ownerLevels_slots hslots).trans (State.ownerLevels_congr rfl hdr hcu hc hl hp)
  rw [h1, h2, h3, hlevels, hdr]
  exact ⟨e1, by rw [e2, State.damagedSet, State.damagedSet, hslots], e3⟩

/-- R176: an accepted save request changes keep memory, the save records but for the slot states, and what is recomputed
from them. -/
theorem request_saved {s : State} {h : ReqHead} {k : Byte} {svc : Service} {c : Code} {p : List Byte}
    {keep : List Host.Cell} {sc : SaveController} {au : Attention} (hl : Listening s)
    (hsvc : svc .active { s with lp := s.lp.idleParser }
      = ({ s with lp := s.lp.idleParser, keep := keep, sc := sc, au := au }, some ⟨c, p⟩))
    (hslots : sc.slots = s.sc.slots) (hlevel : au.level = s.au.level)
    (hdamaged : au.details.slotDamaged = s.au.details.slotDamaged)
    (hfired : au.details.firedWaiting = s.au.details.firedWaiting) :
    request h k svc s = .next (State.refresh (answered { s with keep := keep, sc := sc, au := au } k h c p)) := by
  let t : State := { s with keep := keep, sc := sc, au := au }
  have hstore : (answered t k h c p).serviceStore = answered t k h c p :=
    State.serviceStore_of_serviced hl.1.2.1 rfl rfl rfl rfl rfl
  exact (request_replied hl hsvc rfl (State.report_of_slots hl.1.1 hslots rfl rfl rfl rfl rfl id hlevel hdamaged hfired)).trans
    (congrArg (fun u : State => Host.Outcome.next u.refresh) hstore)

theorem motorCeiling_settling (p : PowerState) (c : SupplyClass) (a u w : Nat) : motorCeiling p c true a u w = 0 := by
  unfold motorCeiling
  split
  · rfl
  · cases c <;> rfl

/-- R146, R147: while a header settles, W is 0 and the motor rests. -/
theorem State.refresh_settling {s : State} {op : KeepOp} (hop : s.sc.op = some op) (hp : op.phase = .settling) :
    s.refresh.sb.settle = true ∧ s.refresh.sb.w = 0 ∧ s.refresh.sb.m = 0 := by
  have hsettle : settling s.sc.op = true := by rw [hop, settling, hp]; rfl
  have hshare : keepShare s.sc.op = 0 := by rw [hop, keepShare, hp]
  refine ⟨hsettle, hshare, ?_⟩
  show motorCeiling _ _ (settling s.sc.op) _ _ _ = 0
  rw [hsettle, motorCeiling_settling]

theorem flagByte_not (b : Bool) : flagByte (!b) = if b then 0 else 1 := by cases b <;> rfl

/-! ### SLOT-OPEN (R53 to R55) -/

/-- R53: the seed flag of an accepted SLOT-OPEN. -/
theorem State.openRefused_seed {s : State} {slot seed : Byte} (h : s.openRefused slot seed = none) :
    seed = 0 ∨ seed = 1 := by
  rw [State.openRefused_eq] at h
  by_contra hseed
  rw [if_pos (not_or.mp hseed)] at h
  cases h

/-- R50: the read extent as the face header stores it. -/
theorem State.readExtent_eq (s : State) (n : Nat) :
    s.readExtent n = if s.sc.slots.getD (n - 1) .empty = .empty then 0
      else min (half (Memory.readAll s.keep (s.faceAddr n) 32) 8).toNat (s.slotSize n) := by
  unfold State.readExtent
  cases s.sc.slots.getD (n - 1) .empty <;> rfl

/-- R50, R55: the bytes a seeded open copies. -/
theorem State.seedExtent_eq (s : State) (slot : Byte) {seed : Byte} (hseed : seed = 0 ∨ seed = 1) :
    s.seedExtent slot seed = if seed = 0 ∨ s.sc.slots.getD (slot.toNat - 1) .empty = .empty then 0
      else min (half (Memory.readAll s.keep (s.faceAddr slot.toNat) 32) 8).toNat (s.slotSize slot.toNat) := by
  rcases hseed with rfl | rfl
  · rfl
  · rw [State.seedExtent, if_pos rfl, State.readExtent_eq]
    simp

theorem serveSlotOpen_refused {s : State} {slot seed : Byte} {c : Code} (p : PowerState)
    (hc : s.openRefused slot seed = some c) : serveSlotOpen slot seed p s = refuse s c := by
  rw [serveSlotOpen, hc]

/-- R54, R55: a SLOT-OPEN that passes its checks changes the SC's records alone. -/
theorem serveSlotOpen_accepted {s : State} {slot seed : Byte} (p : PowerState) (hc : s.openRefused slot seed = none) :
    serveSlotOpen slot seed p s = ({ s with sc := { s.sc with
        openSlot := some slot.toNat, highMark := 0
        op := if s.seedExtent slot seed = 0 then none else some (seedOp slot.toNat (s.seedExtent slot seed) s.now) } },
      some ⟨if seed = 1 then .accepted else .ok,
        [slot, if s.face.getLsbD (slot.toNat - 1) then 0 else 1] ++ leBytes 2 (s.seedExtent slot seed)⟩) := by
  obtain ⟨-, -, -, hop⟩ := State.openRefused_none hc
  rw [serveSlotOpen, hc]
  simp only [serve, flagByte_not, State.faceIsB]
  split
  · rw [State.setOpen, ← hop]
  · rfl

/-! ### SLOT-WRITE (R56) -/

theorem serveSlotWrite_refused {s : State} {slot : Byte} {offset : Half} {count : Byte} {c : Code} (data : List Byte)
    (p : PowerState) (hc : s.writeRefused slot offset count = some c) :
    serveSlotWrite slot offset count data p s = refuse s c := by
  rw [serveSlotWrite, hc]

/-- R148: what is recomputed rests neither on keep memory nor on the high mark. -/
theorem refresh_answered {s : State} (hs : s.refresh = s) (keep : List Host.Cell) (mark : Nat) (k : Byte) (h : ReqHead)
    (c : Code) (p : List Byte) :
    (answered { s with keep := keep, sc := { s.sc with highMark := mark } } k h c p).refresh
      = answered { s with keep := keep, sc := { s.sc with highMark := mark } } k h c p :=
  congrArg (fun u : State => answered { u with keep := keep, sc := { s.sc with highMark := mark } } k h c p) hs

/-- R56: a SLOT-WRITE that passes its checks writes the shadow data and raises the high mark. -/
theorem serveSlotWrite_accepted {s : State} {slot : Byte} {offset : Half} {count : Byte} (data : List Byte)
    (p : PowerState) (hc : s.writeRefused slot offset count = none) :
    serveSlotWrite slot offset count data p s = ({ s with
        keep := Memory.writeAll s.keep (s.shadowAddr slot.toNat + 32 + offset.toNat) (dataBytes data count.toNat)
        sc := { s.sc with highMark := max s.sc.highMark (offset.toNat + count.toNat) } },
      some ⟨.ok, slot :: leBytes 2 (max s.sc.highMark (offset.toNat + count.toNat))⟩) := by
  obtain ⟨-, -, hopen, -⟩ := State.writeRefused_none hc
  rw [serveSlotWrite, hc]
  simp only [serve, State.setOpen, ← hopen]
  rfl

theorem byteAt_dataBytes (data : List Byte) {n i : Nat} (h : i < n) : byteAt (dataBytes data n) i = byteAt data i := by
  simp [byteAt, dataBytes, h]

/-! ### SLOT-COMMIT (R57 to R59) -/

/-- R157, R158: the flags and details after SAVE_FAILED for a slot. -/
theorem raiseSaveFailed_au (s : State) (n : Nat) (c : SaveCause) : (s.raiseSaveFailed n c).au = { s.au with
    latch := s.au.latch ||| Member.saveFailed.set
    details := { s.au.details with
      saveFailed := (if Member.saveFailed.isIn s.au.latch then s.au.details.saveFailed else 0) ||| slotBit n
      saveCause := some c } } := by
  unfold State.raiseSaveFailed State.raise Attention.raise
  cases Member.saveFailed.isIn s.au.latch <;> rfl

/-- R59: the end of a verify that matched. -/
theorem State.endVerify_match {s : State} {op : KeepOp}
    (h : crc16 (Memory.readAll s.keep (s.shadowAddr op.slot + 32) op.length) = op.expected) :
    s.endVerify op = { s with
      keep := Memory.writeAll s.keep (s.shadowAddr op.slot) (s.commitHeader op).bytes
      sc := { s.sc with op := some { op with phase := .settling, began := s.now } } } := by
  have hmatch : s.verifyCrc op = op.expected := h
  rw [State.endVerify, if_pos hmatch]
  rfl

/-- R58: the end of a verify that did not match. -/
theorem State.endVerify_mismatch {s : State} {op : KeepOp}
    (h : crc16 (Memory.readAll s.keep (s.shadowAddr op.slot + 32) op.length) ≠ op.expected) :
    s.endVerify op = { s with sc := { s.sc with op := none }, au := (s.raiseSaveFailed op.slot .mismatch).au } := by
  have hmismatch : ¬ s.verifyCrc op = op.expected := h
  rw [State.endVerify, if_neg hmismatch]
  rfl

theorem serveSlotCommit_refused {s : State} {slot : Byte} {length crc : Half} {c : Code} (p : PowerState)
    (hc : s.commitRefused slot length = some c) : serveSlotCommit slot length crc p s = refuse s c := by
  rw [serveSlotCommit, hc]

/-- R57: a SLOT-COMMIT that passes its checks and names bytes starts their verify. -/
theorem serveSlotCommit_starts {s : State} {slot : Byte} {length crc : Half} (p : PowerState)
    (hc : s.commitRefused slot length = none) (hlength : length ≠ 0) :
    serveSlotCommit slot length crc p s
      = ({ s with sc := { s.sc with op := some (commitOp slot.toNat length crc s.now) } }, some ⟨.accepted, [slot]⟩) := by
  rw [serveSlotCommit, hc]
  simp only [if_neg hlength]
  rfl

/-- R58: the CRC of no bytes. -/
theorem crc16_nil : crc16 [] = 0xFFFF := rfl

/-- R58, R59: a SLOT-COMMIT of no bytes against their CRC settles at once. -/
theorem serveSlotCommit_settles {s : State} {slot : Byte} (p : PowerState) (hc : s.commitRefused slot 0 = none) :
    serveSlotCommit slot 0 0xFFFF p s = ({ s with
        keep := Memory.writeAll s.keep (s.shadowAddr slot.toNat) (s.commitHeader (commitOp slot.toNat 0 0xFFFF s.now)).bytes
        sc := { s.sc with op := some { commitOp slot.toNat 0 0xFFFF s.now with phase := .settling } } },
      some ⟨.accepted, [slot]⟩) := by
  let op := commitOp slot.toNat 0 0xFFFF s.now
  have hsettles := State.endVerify_match (s := s.setOp (some op)) (op := op) crc16_nil
  rw [serveSlotCommit, hc]
  simp only [serve, if_true]
  exact congrArg (fun u : State => (u, some (⟨.accepted, [slot]⟩ : Reply))) hsettles

/-- R58: a SLOT-COMMIT of no bytes against another CRC fails at once, and no operation is left. -/
theorem serveSlotCommit_fails {s : State} {slot : Byte} {crc : Half} (p : PowerState)
    (hc : s.commitRefused slot 0 = none) (hcrc : crc ≠ 0xFFFF) :
    serveSlotCommit slot 0 crc p s
      = ({ s with au := (s.raiseSaveFailed slot.toNat .mismatch).au }, some ⟨.accepted, [slot]⟩) := by
  obtain ⟨-, -, -, hop, -⟩ := State.commitRefused_none hc
  let op := commitOp slot.toNat 0 crc s.now
  have hfails := State.endVerify_mismatch (s := s.setOp (some op)) (op := op) (crc16_nil.trans_ne hcrc.symm)
  have hsc : ({ s.sc with op := none } : SaveController) = s.sc := by rw [← hop]
  rw [serveSlotCommit, hc]
  simp only [serve, if_true]
  refine congrArg (fun u : State => (u, some (⟨.accepted, [slot]⟩ : Reply))) (hfails.trans ?_)
  exact congrArg (fun sc => ({ s with sc := sc, au := (s.raiseSaveFailed slot.toNat .mismatch).au } : State)) hsc

/-! ### SLOT-ERASE and SLOT-ABORT (R62, R63) -/

theorem serveSlotErase_refused {s : State} {slot : Byte} {c : Code} (p : PowerState) (hc : s.eraseRefused slot = some c) :
    serveSlotErase slot p s = refuse s c := by
  rw [serveSlotErase, hc]

/-- R62: a SLOT-ERASE that passes its checks writes the shadow header and begins SETTLING. -/
theorem serveSlotErase_accepted {s : State} {slot : Byte} (p : PowerState) (hc : s.eraseRefused slot = none) :
    serveSlotErase slot p s = ({ s with
        keep := Memory.writeAll s.keep (s.shadowAddr slot.toNat) (s.eraseHeader slot.toNat).bytes
        sc := { s.sc with op := some (eraseOp slot.toNat s.now) } }, some ⟨.accepted, [slot]⟩) := by
  rw [serveSlotErase, hc]
  rfl

theorem serveSlotAbort_refused {s : State} {slot : Byte} {c : Code} (p : PowerState) (hc : s.abortRefused slot = some c) :
    serveSlotAbort slot p s = refuse s c := by
  rw [serveSlotAbort, hc]

/-- R63: an operation on another slot runs on. -/
theorem opAfterAbort_eq (op : Option KeepOp) (n : Nat) : opAfterAbort op n = op.filter fun o => decide (o.slot ≠ n) := by
  cases op with
  | none => rfl
  | some o => by_cases h : o.slot = n <;> simp [opAfterAbort, Option.filter, h]

/-- R63: a SLOT-ABORT that passes its check changes the SC's records alone. -/
theorem serveSlotAbort_accepted {s : State} {slot : Byte} (p : PowerState) (hc : s.abortRefused slot = none) :
    serveSlotAbort slot p s = ({ s with sc := { s.sc with
        openSlot := none, highMark := 0, op := s.sc.op.filter fun o => decide (o.slot ≠ slot.toNat) } },
      some ⟨.ok, []⟩) := by
  rw [serveSlotAbort, hc]
  simp only [opAfterAbort_eq]
  rfl

/-! ### SLOT-READ (R50, R68, R69) -/

/-- R69: the outcome and the data of a SLOT-READ, by the first that applies. -/
theorem State.readCode_eq (s : State) (n offset count : Nat) (expected : Quad) :
    (s.readCode n offset expected, s.readData n offset count (s.readCode n offset expected))
      = if s.slotState n = .empty then (.empty, [])
        else if expected ≠ 0xFFFFFFFF ∧ expected ≠ quad (s.faceHeader n) 4 then (.stale, [])
        else if s.readExtent n ≤ offset then (.fin, [])
        else (if s.slotState n = .damaged then .damaged else .ok,
          Memory.readAll s.keep (s.faceData n + offset) (min count (s.readExtent n - offset))) := by
  have hgeneration : expected.toNat ≠ headerGeneration (s.faceHeader n) ↔ expected ≠ quad (s.faceHeader n) 4 :=
    not_congr BitVec.toNat_inj
  simp only [State.readCode, hgeneration]
  split_ifs <;> rfl

theorem serveSlotRead_uncounted {s : State} {slot : Byte} {offset : Half} {count : Byte} {expected : Quad}
    (p : PowerState) (hcount : count = 0 ∨ 240 < count.toNat) :
    serveSlotRead slot offset count expected p s = refuse s .range := by
  rw [serveSlotRead, if_pos hcount]

theorem serveSlotRead_refused {s : State} {slot : Byte} {offset : Half} {count : Byte} {expected : Quad} {c : Code}
    (p : PowerState) (hcount : ¬ (count = 0 ∨ 240 < count.toNat)) (hc : s.layoutRefused slot = some c) :
    serveSlotRead slot offset count expected p s = refuse s c := by
  rw [serveSlotRead, if_neg hcount, hc]

theorem serveSlotRead_answers {s : State} {slot : Byte} {offset : Half} {count : Byte} {expected : Quad} {c : Code}
    {bytes : List Byte} (p : PowerState) (hcount : ¬ (count = 0 ∨ 240 < count.toNat)) (hc : s.layoutRefused slot = none)
    (hpair : (s.readCode slot.toNat offset.toNat expected,
      s.readData slot.toNat offset.toNat count.toNat (s.readCode slot.toNat offset.toNat expected)) = (c, bytes)) :
    serveSlotRead slot offset count expected p s = serve s c
      (slot :: leBytes 4 (headerGeneration (s.faceHeader slot.toNat)) ++ leBytes 2 (s.readExtent slot.toNat) ++ bytes) := by
  obtain ⟨rfl, rfl⟩ := Prod.mk.inj hpair
  rw [serveSlotRead, if_neg hcount, hc]

end Sys2Proof.Machine

namespace Sys2Proof.Proofs

open Sys2Proof.Safety Sys2Proof.Machine

/-- Settles O26: the checks refuse in their order, and an open that passes them changes the SC's records alone. -/
theorem slotOpenOpens : Obligations.SlotOpenOpens := by
  unfold Obligations.SlotOpenOpens
  intro h slot seed s hl n stored extent op
  show request h Kind.slotOpen (serveSlotOpen slot seed) s = _
  have refused : ∀ {c}, s.openRefused slot seed = some c →
      request h Kind.slotOpen (serveSlotOpen slot seed) s = .next (answered s Kind.slotOpen h c []) :=
    fun hc => request_refused hl (serveSlotOpen_refused _ hc)
  have accepted : s.openRefused slot seed = none →
      request h Kind.slotOpen (serveSlotOpen slot seed) s = .next (State.refresh (answered
        { s with sc := { s.sc with openSlot := some n, highMark := 0, op := op } }
        Kind.slotOpen h (if seed = 1 then .accepted else .ok)
        ([slot, if s.face.getLsbD (n - 1) then 0 else 1] ++ leBytes 2 extent))) := by
    intro hc
    have hextent : s.seedExtent slot seed = extent := s.seedExtent_eq slot (State.openRefused_seed hc)
    have hserved := request_saved (h := h) (k := Kind.slotOpen) hl (serveSlotOpen_accepted .active hc) rfl rfl rfl rfl
    rwa [show ({ s with lp := s.lp.idleParser } : State).seedExtent slot seed = extent from hextent] at hserved
  generalize State.refresh _ = t at accepted ⊢
  have hchecks := s.openRefused_eq slot seed
  split_ifs at hchecks ⊢
  · exact refused hchecks
  · exact refused hchecks
  · exact refused hchecks
  · exact refused hchecks
  · exact refused hchecks
  · exact accepted hchecks

/-- Settles O28: the checks refuse in their order, and a write that passes them stores its bytes in the shadow data, which
lies inside keep memory. -/
theorem slotWriteWrites : Obligations.SlotWriteWrites := by
  unfold Obligations.SlotWriteWrites
  intro h slot offset count data s hl hm n first mark c
  have refused : ∀ {code}, s.writeRefused slot offset count = some code →
      exec c s = .next (answered s Kind.slotWrite h code []) :=
    fun hc => request_refused hl (serveSlotWrite_refused data _ hc)
  have accepted : s.writeRefused slot offset count = none → ∃ t, exec c s = .next t
      ∧ t = answered { s with keep := t.keep, sc := { s.sc with highMark := mark } } Kind.slotWrite h .ok
          (slot :: leBytes 2 mark)
      ∧ ∀ a, Memory.read t.keep a =
        if first ≤ a ∧ a < first + count.toNat then byteAt data (a - first) else Memory.read s.keep a := by
    intro hc
    obtain ⟨h1, hn, -, -, hsize⟩ := State.writeRefused_none hc
    have hbounds := s.shadow_bounds h1 hn
    have hlength : (dataBytes data count.toNat).length = count.toNat := by simp [dataBytes]
    have hinside : first + (dataBytes data count.toNat).length ≤ Config.keepSize := by
      rw [hlength]
      calc s.shadowAddr n + 32 + offset.toNat + count.toNat = s.shadowAddr n + 32 + (offset.toNat + count.toNat) :=
            Nat.add_assoc ..
        _ ≤ s.shadowAddr n + 32 + s.slotSize n := Nat.add_le_add_left hsize _
        _ ≤ Config.keepSize := hbounds
    have hserved := request_saved (h := h) (k := Kind.slotWrite) hl (serveSlotWrite_accepted data .active hc)
      rfl rfl rfl rfl
    refine ⟨_, hserved.trans (congrArg Host.Outcome.next (refresh_answered hl.1.2.2 _ _ _ _ _ _)), rfl, fun a => ?_⟩
    refine (Memory.read_writeAll_eq s.keep first (dataBytes data count.toNat) a hm hinside).trans ?_
    rw [hlength]
    split
    · exact byteAt_dataBytes data (by omega)
    · rfl
  generalize (∃ t, _) = written at accepted ⊢
  have hchecks := s.writeRefused_eq slot offset count
  split_ifs at hchecks ⊢
  · exact refused hchecks
  · exact refused hchecks
  · exact refused hchecks
  · exact refused hchecks
  · exact refused hchecks
  · exact refused hchecks
  · exact refused hchecks
  · exact accepted hchecks

/-- Settles O32: the checks of each refuse in their order; an erase that passes them writes its header to the shadow half,
and an abort changes the SC's records alone. -/
theorem slotEraseAndAbort : Obligations.SlotEraseAndAbort := by
  unfold Obligations.SlotEraseAndAbort
  intro h slot s hl hm n face g header op
  have erase_refused : ∀ {c}, s.eraseRefused slot = some c →
      exec (.slotErase h slot) s = .next (answered s Kind.slotErase h c []) :=
    fun hc => request_refused hl (serveSlotErase_refused _ hc)
  have erase_accepted : s.eraseRefused slot = none → ∃ t, exec (.slotErase h slot) s = .next t
      ∧ t = State.refresh (answered { s with keep := t.keep, sc := { s.sc with op := some op } }
          Kind.slotErase h .accepted [slot])
      ∧ t.sb.settle = true ∧ t.sb.w = 0 ∧ t.sb.m = 0
      ∧ ∀ a, Memory.read t.keep a =
        if s.shadowAddr n ≤ a ∧ a < s.shadowAddr n + 32 then byteAt header.bytes (a - s.shadowAddr n)
        else Memory.read s.keep a := by
    intro hc
    obtain ⟨h1, hn, -⟩ := State.eraseRefused_none hc
    have hbounds := s.shadow_bounds h1 hn
    have hserved := request_saved (h := h) (k := Kind.slotErase) hl (serveSlotErase_accepted .active hc) rfl rfl rfl rfl
    obtain ⟨hsettle, hw, hmotor⟩ := State.refresh_settling (op := op)
      (s := answered { s with sc := { s.sc with op := some op } } Kind.slotErase h .accepted [slot]) rfl rfl
    refine ⟨_, hserved, rfl, hsettle, hw, hmotor, fun a => ?_⟩
    have hread := Memory.read_writeAll_eq s.keep (s.shadowAddr n) header.bytes a hm
      (by rw [HeaderFields.length_bytes]; exact (Nat.le_add_right _ _).trans hbounds)
    rwa [HeaderFields.length_bytes] at hread
  have abort_refused : ∀ {c}, s.abortRefused slot = some c →
      exec (.slotAbort h slot) s = .next (answered s Kind.slotAbort h c []) :=
    fun hc => request_refused hl (serveSlotAbort_refused _ hc)
  have abort_accepted : s.abortRefused slot = none → exec (.slotAbort h slot) s = .next
      (State.refresh (answered { s with sc := { s.sc with
          openSlot := none, highMark := 0, op := s.sc.op.filter fun o => decide (o.slot ≠ n) } }
        Kind.slotAbort h .ok [])) :=
    fun hc => request_saved (h := h) (k := Kind.slotAbort) hl (serveSlotAbort_accepted .active hc) rfl rfl rfl rfl
  refine ⟨?_, ?_⟩
  · generalize (∃ t, _) = erased at erase_accepted ⊢
    have hchecks := s.eraseRefused_eq slot
    split_ifs at hchecks ⊢
    · exact erase_refused hchecks
    · exact erase_refused hchecks
    · exact erase_refused hchecks
    · exact erase_refused hchecks
    · exact erase_accepted hchecks
  · generalize State.refresh _ = t at abort_accepted ⊢
    have hchecks := s.abortRefused_eq slot
    split_ifs at hchecks ⊢
    · exact abort_refused hchecks
    · exact abort_refused hchecks
    · exact abort_refused hchecks
    · exact abort_accepted hchecks

/-- Settles O29: the checks refuse in their order; a commit of bytes starts their verify, and one of no bytes settles or
fails by the CRC of no bytes. -/
theorem slotCommitStartsTheVerify : Obligations.SlotCommitStartsTheVerify := by
  unfold Obligations.SlotCommitStartsTheVerify
  intro h slot length crc s hl hm n c op
  have refused : ∀ {code}, s.commitRefused slot length = some code →
      exec c s = .next (answered s Kind.slotCommit h code []) :=
    fun hc => request_refused hl (serveSlotCommit_refused _ hc)
  have starts : s.commitRefused slot length = none → length ≠ 0 → exec c s = .next (State.refresh
      (answered { s with sc := { s.sc with op := some op } } Kind.slotCommit h .accepted [slot])) :=
    fun hc hlength => request_saved (h := h) (k := Kind.slotCommit) hl (serveSlotCommit_starts .active hc hlength)
      rfl rfl rfl rfl
  have settles : s.commitRefused slot length = none → length = 0 → crc = 0xFFFF → ∃ t, exec c s = .next t
      ∧ t = State.refresh (answered { s with
          keep := t.keep, sc := { s.sc with op := some { op with phase := .settling } } }
          Kind.slotCommit h .accepted [slot])
      ∧ t.sb.settle = true ∧ t.sb.m = 0
      ∧ ∀ a, Memory.read t.keep a =
        if s.shadowAddr n ≤ a ∧ a < s.shadowAddr n + 32 then byteAt (s.commitHeader op).bytes (a - s.shadowAddr n)
        else Memory.read s.keep a := by
    rintro hc rfl rfl
    obtain ⟨h1, hn, -⟩ := State.commitRefused_none hc
    have hbounds := s.shadow_bounds h1 hn
    have hserved := request_saved (h := h) (k := Kind.slotCommit) hl (serveSlotCommit_settles .active hc) rfl rfl rfl rfl
    obtain ⟨hsettle, -, hmotor⟩ := State.refresh_settling (op := { op with phase := .settling })
      (s := answered { s with sc := { s.sc with op := some { op with phase := .settling } } }
        Kind.slotCommit h .accepted [slot]) rfl rfl
    refine ⟨_, hserved, rfl, hsettle, hmotor, fun a => ?_⟩
    have hread := Memory.read_writeAll_eq s.keep (s.shadowAddr n) (s.commitHeader op).bytes a hm
      (by rw [HeaderFields.length_bytes]; exact (Nat.le_add_right _ _).trans hbounds)
    rwa [HeaderFields.length_bytes] at hread
  have fails : s.commitRefused slot length = none → length = 0 → crc ≠ 0xFFFF → exec c s = .next (State.refresh
      (answered { s with au := { s.au with
        latch := s.au.latch ||| Member.saveFailed.set
        details := { s.au.details with
          saveFailed := (if Member.saveFailed.isIn s.au.latch then s.au.details.saveFailed else 0) ||| slotBit n
          saveCause := some .mismatch } } } Kind.slotCommit h .accepted [slot])) := by
    rintro hc rfl hcrc
    have hserved := request_saved (h := h) (k := Kind.slotCommit) hl (serveSlotCommit_fails .active hc hcrc) rfl
      (by rw [raiseSaveFailed_au]) (by rw [raiseSaveFailed_au]) (by rw [raiseSaveFailed_au])
    rwa [raiseSaveFailed_au] at hserved
  generalize (∃ t, _) = settled at settles ⊢
  generalize (if Member.saveFailed.isIn s.au.latch then s.au.details.saveFailed else 0) = held at fails ⊢
  have hchecks := s.commitRefused_eq slot length
  split_ifs at hchecks ⊢ with _ _ _ _ _ _ hlength hcrc
  · exact refused hchecks
  · exact refused hchecks
  · exact refused hchecks
  · exact refused hchecks
  · exact refused hchecks
  · exact refused hchecks
  · exact starts hchecks hlength
  · exact settles hchecks (not_not.mp hlength) hcrc
  · exact fails hchecks (not_not.mp hlength) hcrc

/-- Settles O33: the checks refuse in their order, and a read that passes them answers from the face half. -/
theorem slotReadReadsTheFace : Obligations.SlotReadReadsTheFace := by
  unfold Obligations.SlotReadReadsTheFace
  intro h slot offset count expected s hl n face st length fields data
  show request h Kind.slotRead (serveSlotRead slot offset count expected) s = _
  by_cases hcount : count = 0 ∨ 240 < count.toNat
  · rw [if_pos hcount]
    exact request_refused hl (serveSlotRead_uncounted _ hcount)
  rw [if_neg hcount]
  have refused : ∀ {c}, s.layoutRefused slot = some c →
      request h Kind.slotRead (serveSlotRead slot offset count expected) s = .next (answered s Kind.slotRead h c []) :=
    fun hc => request_refused hl (serveSlotRead_refused _ hcount hc)
  have hextent : s.readExtent n = length := s.readExtent_eq n
  have answers : s.layoutRefused slot = none → ∀ {c bytes payload},
      (s.readCode n offset.toNat expected, s.readData n offset.toNat count.toNat (s.readCode n offset.toNat expected))
        = (c, bytes) → fields ++ bytes = payload →
      request h Kind.slotRead (serveSlotRead slot offset count expected) s
        = .next (answered s Kind.slotRead h c payload) := by
    intro hc c bytes payload hpair hpayload
    refine request_reads hl (serveSlotRead_answers .active hcount hc hpair) ?_
    show slot :: leBytes 4 _ ++ leBytes 2 (s.readExtent n) ++ bytes = payload
    rw [hextent]
    exact hpayload
  have hcode : (s.readCode n offset.toNat expected,
      s.readData n offset.toNat count.toNat (s.readCode n offset.toNat expected))
      = if st = .empty then (.empty, [])
        else if expected ≠ 0xFFFFFFFF ∧ expected ≠ quad face 4 then (.stale, [])
        else if length ≤ offset.toNat then (.fin, [])
        else (if st = .damaged then .damaged else .ok, data) := by
    have hread := s.readCode_eq n offset.toNat count.toNat expected
    rw [hextent] at hread
    exact hread
  have hchecks : s.layoutRefused slot = if s.sc.layoutState = .noLayout then some .noLayout
      else if n = 0 ∨ s.slotCount < n then some .range else none := s.layoutRefused_eq slot
  by_cases hlayout : s.sc.layoutState = .noLayout
  · rw [if_pos hlayout] at hchecks ⊢
    exact refused hchecks
  rw [if_neg hlayout] at hchecks ⊢
  by_cases hslot : n = 0 ∨ s.slotCount < n
  · rw [if_pos hslot] at hchecks ⊢
    exact refused hchecks
  rw [if_neg hslot] at hchecks ⊢
  generalize (if st = SlotState.damaged then Code.damaged else Code.ok) = found at hcode ⊢
  split_ifs at hcode ⊢
  · exact answers hchecks hcode (List.append_nil _)
  · exact answers hchecks hcode (List.append_nil _)
  · exact answers hchecks hcode (List.append_nil _)
  · exact answers hchecks hcode rfl

end Sys2Proof.Proofs
end

section
/-! A seeding, and what an idle step does (R48, R49, R55; logs 10, 25). -/

set_option Elab.async false

namespace Sys2Proof.Machine

open Sys2Proof.Safety

/-! ### The seeding (R55) -/

/-- R55: the whole periods that end in a time that reaches the end of the last. -/
theorem periods_to_end {began now n : Nat} (h1 : began ≤ now) (h2 : now ≤ began + 4 * n) :
    periods 4 began now (began + 4 * n - now) = n - (now - began) / 4 := by
  have htime : now + (began + 4 * n - now) - began = 4 * n := by omega
  rw [periods, htime, Nat.mul_div_cancel_left n (by decide)]

/-- R55: in one unit of time at most one period ends. -/
theorem periods_one {began now : Nat} (h : began ≤ now) :
    periods 4 began now 1 = if (now + 1 - began) % 4 = 0 then 1 else 0 := by
  unfold periods
  split <;> omega

/-- R48, R49, R55: what a seeding leaves in keep memory when it has copied to its extent. -/
theorem State.elapse_seeding {s : State} {op : KeepOp} (hf : s.sb.format = none) (hop : s.sc.op = some op)
    (hp : op.phase = .seeding) (dt : Nat) :
    s.elapse dt = { s with
      keep := Memory.writeAll s.keep (s.shadowAddr op.slot + 32 + op.done)
        (Memory.readAll s.keep (s.faceAddr op.slot + 32 + op.done) ((op.after s.now dt).done - op.done))
      sc := { s.sc with op := some (op.after s.now dt) }
      cu := s.cu.count s.now dt, now := s.now + dt } := by
  rw [State.elapse_working hf hop, if_pos hp]

/-- R55: the end of a seeding is closed with nothing to report. -/
theorem State.seedingDone_eq {s : State} {op : KeepOp} (hs : Settled s) (hf : s.sb.format = none)
    (hop : s.sc.op = some op) (hp : op.phase = .seeding) :
    let dt := op.began + 4 * op.extent - s.now
    s.seedingDone op = State.refresh { movedTo s (op.began + 4 * op.extent) with
      keep := Memory.writeAll s.keep (s.shadowAddr op.slot + 32 + op.done)
        (Memory.readAll s.keep (s.faceAddr op.slot + 32 + op.done) ((op.after s.now dt).done - op.done))
      sc := { s.sc with op := none, highMark := op.extent } } := by
  intro dt
  obtain ⟨hr, hstore, -⟩ := hs
  generalize hkeep : Memory.writeAll s.keep _ _ = keep
  let x : State := { s with
    keep := keep, sc := { s.sc with op := none, highMark := op.extent }, cu := s.cu.count s.now dt, now := s.now + dt }
  have hx : ((s.elapse dt).setOp none).setOpen s.sc.openSlot op.extent = x := by
    rw [State.elapse_seeding hf hop hp, hkeep]
    rfl
  have hreport : x.report = x := by
    refine State.report_of_slots hr rfl rfl ?_ rfl rfl rfl id rfl rfl rfl
    exact ClockUnit.count_valid _ _ _
  have hserved : x.serviceStore = x := State.serviceStore_of_served hstore rfl rfl rfl rfl
  calc s.seedingDone op = State.conclude s (((s.elapse dt).setOp none).setOpen s.sc.openSlot op.extent) := by
        rw [State.seedingDone, Nat.mul_comm]
        rfl
    _ = x.serviceStore.refresh := by rw [hx, State.conclude_same (s := s) hreport rfl]
    _ = x.refresh := by rw [hserved]

/-- R48, R49, R55: what a copy of a seeding leaves in keep memory: the bytes from `done` on, up to `last`, of the face
data in the shadow data. -/
theorem State.read_copied (s : State) {op : KeepOp} (hm : Memory.wf s.keep) (hop : OpOk s op) {last : Nat}
    (h1 : op.done ≤ last) (h2 : last ≤ op.extent) (a : Nat) :
    Memory.read (Memory.writeAll s.keep (s.shadowAddr op.slot + 32 + op.done)
      (Memory.readAll s.keep (s.faceAddr op.slot + 32 + op.done) (last - op.done))) a
    = if s.shadowAddr op.slot + 32 + op.done ≤ a ∧ a < s.shadowAddr op.slot + 32 + last then
        Memory.read s.keep (s.faceAddr op.slot + 32 + (a - (s.shadowAddr op.slot + 32)))
      else Memory.read s.keep a := by
  obtain ⟨hs1, hn, hextent, -⟩ := hop
  have hbounds := s.shadow_bounds hs1 hn
  have hend : s.shadowAddr op.slot + 32 + op.done + (last - op.done) = s.shadowAddr op.slot + 32 + last := by omega
  have hread := Memory.read_writeAll_eq s.keep (s.shadowAddr op.slot + 32 + op.done)
    (Memory.readAll s.keep (s.faceAddr op.slot + 32 + op.done) (last - op.done)) a hm (by rw [length_readAll]; omega)
  rw [length_readAll, hend] at hread
  rw [hread]
  split
  · rename_i ha
    rw [Memory.readAll_byte _ _ _ _ (by omega)]
    congr 1
    omega
  · rfl

/-- R55: the bytes a seeding has copied when the last of its periods ends. -/
theorem KeepOp.after_end {op : KeepOp} {now : Nat} (hp : op.phase = .seeding) (h1 : op.began ≤ now)
    (h2 : now ≤ op.began + 4 * op.extent) (hdone : op.done = min op.extent ((now - op.began) / 4)) :
    (op.after now (op.began + 4 * op.extent - now)).done = op.extent := by
  have hsettling : ¬ op.phase = .settling := by
    rw [hp]
    nofun
  rw [KeepOp.after, if_neg hsettling]
  show min op.extent (op.done + periods 4 op.began now (op.began + 4 * op.extent - now)) = op.extent
  rw [periods_to_end h1 h2]
  omega

theorem exec_seedingCompletion_eq {s : State} {op : KeepOp} (hop : s.sc.op = some op) (hp : op.phase = .seeding) :
    exec .seedingCompletion s = .next (s.seedingDone op) := by
  show Host.Outcome.next (match s.sc.op with
    | some op => if op.phase = OpPhase.seeding then s.seedingDone op else s
    | none => s) = _
  rw [hop]
  simp only [hp, if_true]

/-- R55: a seeding whose bytes so far are copied completes with its extent copied and no other byte. -/
theorem seeding_completes {op : KeepOp} {s : State} (hs : Settled s) (hf : s.sb.format = none) (hm : Memory.wf s.keep)
    (hop : s.sc.op = some op) (hok : OpOk s op) (hp : op.phase = .seeding) (h1 : op.began ≤ s.now)
    (hdone : op.done = min op.extent ((s.now - op.began) / 4)) (h2 : s.now ≤ op.began + 4 * op.extent)
    (hcopied : ∀ i < op.done, Memory.read s.keep (s.shadowAddr op.slot + 32 + i)
      = Memory.read s.keep (s.faceAddr op.slot + 32 + i)) :
    ∃ t, exec .seedingCompletion s = .next t
      ∧ t = State.refresh { movedTo s (op.began + 4 * op.extent) with
          keep := t.keep, sc := { s.sc with op := none, highMark := op.extent } }
      ∧ t.sb.w = 0
      ∧ (∀ i < op.extent, Memory.read t.keep (s.shadowAddr op.slot + 32 + i)
        = Memory.read s.keep (s.faceAddr op.slot + 32 + i))
      ∧ ∀ a, (a < s.shadowAddr op.slot + 32 + op.done ∨ s.shadowAddr op.slot + 32 + op.extent ≤ a) →
        Memory.read t.keep a = Memory.read s.keep a := by
  have heq := State.seedingDone_eq hs hf hop hp
  have hread := s.read_copied hm hok (last := op.extent) (by rw [hdone]; exact min_le_left _ _) (le_refl _)
  simp only [KeepOp.after_end hp h1 h2 hdone] at heq
  generalize Memory.writeAll s.keep _ _ = keep at heq hread
  refine ⟨_, (exec_seedingCompletion_eq hop hp).trans (congrArg Host.Outcome.next heq), rfl, rfl, fun i hi => ?_,
    fun a ha => ?_⟩
  · refine (hread _).trans ?_
    split
    · rw [Nat.add_sub_cancel_left]
    · exact hcopied i (by omega)
  · refine (hread a).trans (if_neg ?_)
    omega

/-! ### An idle step (logs 10, 25) -/

theorem step_idle {s : State} (h : s.pending = []) : step s = .next (s.elapse 1).refresh := by
  rw [step, h]
  rfl

/-- R55, R58: an operation after one unit of time. -/
theorem KeepOp.after_one {op : KeepOp} {now : Nat} (h : op.began ≤ now) (hdone : op.done ≤ op.extent) :
    op.after now 1 = { op with
      done := if decide ((now + 1 - op.began) % 4 = 0 ∧ op.done < op.extent ∧ op.phase ≠ .settling) then op.done + 1
        else op.done } := by
  unfold KeepOp.after
  by_cases hp : op.phase = .settling
  · have hstill : ¬ ((now + 1 - op.began) % 4 = 0 ∧ op.done < op.extent ∧ op.phase ≠ .settling) := fun h => h.2.2 hp
    rw [if_pos hp, decide_eq_false hstill]
    rfl
  · rw [if_neg hp, periods_one h]
    congr 1
    simp only [hp, ne_eq, not_false_eq_true, and_true, decide_eq_true_eq]
    split_ifs <;> omega

/-- R55, R58: an idle step with an operation and no format under way. -/
theorem elapse_one_working {op : KeepOp} {s : State} (hm : Memory.wf s.keep) (hop : s.sc.op = some op)
    (hf : s.sb.format = none) (hok : OpOk s op) (h : op.began ≤ s.now) :
    let tick := decide ((s.now + 1 - op.began) % 4 = 0 ∧ op.done < op.extent ∧ op.phase ≠ .settling)
    (s.elapse 1).sc.op = some { op with done := if tick then op.done + 1 else op.done }
      ∧ (s.elapse 1).face = s.face ∧ (s.elapse 1).dr = s.dr ∧ (s.elapse 1).cu = s.cu.count s.now 1
      ∧ ∀ a, Memory.read (s.elapse 1).keep a =
        if tick = true ∧ op.phase = .seeding ∧ a = s.shadowAddr op.slot + 32 + op.done then
          Memory.read s.keep (s.faceAddr op.slot + 32 + op.done)
        else Memory.read s.keep a := by
  intro tick
  have hdone : op.done ≤ op.extent := by
    obtain ⟨-, -, -, -, hdone, -⟩ := hok
    exact hdone
  have hafter := KeepOp.after_one h hdone
  have hworking := State.elapse_working hf hop 1
  refine ⟨?_, ?_, ?_, ?_, fun a => ?_⟩
  · rw [State.elapse_op hop, hafter]
  · rw [hworking]
  · rw [hworking]
  · rw [hworking]
  by_cases hp : op.phase = .seeding
  · have hlast : (op.after s.now 1).done = if tick then op.done + 1 else op.done := congrArg KeepOp.done hafter
    have hle : (if tick then op.done + 1 else op.done) ≤ op.extent := by
      split
      · rename_i ht
        exact (of_decide_eq_true ht).2.1
      · exact hdone
    have hge : op.done ≤ if tick then op.done + 1 else op.done := by split <;> omega
    have hread := s.read_copied hm hok hge hle a
    rw [State.elapse_seeding hf hop hp, hlast]
    refine hread.trans ?_
    cases tick with
    | true =>
      simp only [if_true, true_and, hp]
      by_cases ha : a = s.shadowAddr op.slot + 32 + op.done
      · rw [if_pos ha, if_pos (by omega), ha, Nat.add_sub_cancel_left]
      · rw [if_neg ha, if_neg (by omega)]
    | false =>
      rw [if_neg, if_neg nofun]
      simp only [Bool.false_eq_true, if_false]
      omega
  · have hkeep : (s.elapse 1).keep = s.keep := (congrArg State.keep hworking).trans (if_neg hp)
    rw [hkeep, if_neg fun ha => hp ha.2.1]

/-- R184 to R186: a format that waits under FENCE, and one that does not, after a time. -/
theorem State.elapse_formatting {s : State} {f : FormatRun} (hf : s.sb.format = some f) (hop : s.sc.op = none) (dt : Nat) :
    s.elapse dt = if s.sb.supply = .fence then { s with cu := s.cu.count s.now dt, now := s.now + dt }
      else
        let n := (f.ran + dt) / 4 - f.ran / 4
        let u := ({ s with cu := s.cu.count s.now dt } : State).formatMore f.kind f.made n
        { u with
          sb := { u.sb with format := some { f with made := f.made + n, ran := f.ran + dt } }, now := s.now + dt } := by
  have hwork : ({ s with cu := s.cu.count s.now dt } : State).workOn dt = { s with cu := s.cu.count s.now dt } :=
    State.workOn_none (s := { s with cu := s.cu.count s.now dt }) hop dt
  unfold State.elapse
  simp only [hwork]
  unfold State.formatOn
  simp only [hf]
  split <;> rfl

/-- R185: the first writes of a full format clear the signature. -/
theorem formatWrites_full_first (p : Profile) {made : Nat} (h : made < 16) :
    ((formatWrites .full p).drop made).take 1 = [.byte made 0] := by
  have hget : (formatWrites .full p)[made]? = some (.byte made 0) := by
    have hfirst : (byteWrites 0 (List.replicate 16 0))[made]? = some (.byte made 0) := by
      rw [byteWrites, List.getElem?_mapIdx, List.getElem?_replicate, if_pos h, Option.map_some, Nat.zero_add]
    rw [formatWrites, List.append_assoc, List.append_assoc, List.getElem?_append_left, hfirst]
    simpa [byteWrites] using h
  rw [List.take_one, List.head?_drop, hget]
  rfl

/-- R184 to R186: an idle step with a format under way. -/
theorem elapse_one_formatting {f : FormatRun} {s : State} (hm : Memory.wf s.keep) (hf : s.sb.format = some f)
    (hop : s.sc.op = none) :
    let tick := decide ((f.ran + 1) % 4 = 0 ∧ s.sb.supply ≠ .fence)
    (s.elapse 1).sb.format = some (if s.sb.supply = .fence then f
        else { f with made := if tick then f.made + 1 else f.made, ran := f.ran + 1 })
      ∧ (tick = false → (s.elapse 1).keep = s.keep ∧ (s.elapse 1).face = s.face ∧ (s.elapse 1).dr = s.dr
        ∧ (s.elapse 1).cu = s.cu.count s.now 1)
      ∧ (tick = true → f.kind = .full → f.made < 16 →
        (s.elapse 1).face = s.face ∧ (s.elapse 1).dr = s.dr ∧ (s.elapse 1).cu = s.cu.count s.now 1
          ∧ ∀ a, Memory.read (s.elapse 1).keep a = if a = f.made then 0 else Memory.read s.keep a) := by
  intro tick
  rw [State.elapse_formatting hf hop]
  by_cases hfence : s.sb.supply = .fence
  · have htick : tick = false := decide_eq_false fun h => h.2 hfence
    rw [if_pos hfence, if_pos hfence, htick]
    exact ⟨hf, fun _ => ⟨rfl, rfl, rfl, rfl⟩, nofun⟩
  · have hcount : (f.ran + 1) / 4 - f.ran / 4 = if tick then 1 else 0 := by
      by_cases hdue : (f.ran + 1) % 4 = 0
      · have htick : tick = true := decide_eq_true ⟨hdue, hfence⟩
        rw [htick, if_pos rfl]
        omega
      · have htick : tick = false := decide_eq_false fun h => hdue h.1
        rw [htick, if_neg nofun]
        omega
    rw [if_neg hfence, if_neg hfence]
    simp only [hcount]
    refine ⟨?_, fun htick => ?_, fun htick hkind hmade => ?_⟩
    · cases tick <;> rfl
    · rw [htick]
      exact ⟨rfl, rfl, rfl, rfl⟩
    · rw [htick, hkind]
      simp only [if_true, State.formatMore, formatWrites_full_first _ hmade]
      refine ⟨rfl, rfl, rfl, fun a => ?_⟩
      exact Memory.read_write s.keep f.made 0 a hm (hmade.trans (by decide))

end Sys2Proof.Machine

namespace Sys2Proof.Proofs

open Sys2Proof.Safety Sys2Proof.Machine

/-- Settles O27: a seeding has copied its extent when the last of its periods ends; an idle step moves the clock, and the
operation or the format that is under way. -/
theorem seedingCompletes : Obligations.SeedingCompletes := by
  unfold Obligations.SeedingCompletes
  refine ⟨?_, ?_⟩
  · intro op s hs _ hf hm hop hok hp h1 hdone h2 face shadow hcopied
    exact seeding_completes hs hf hm hop hok hp h1 hdone h2 hcopied
  · intro s hpending hm
    obtain ⟨cu, sc, dr, keep, face, f, he⟩ := s.elapse_rest 1
    have hsc := s.elapse_sc 1
    refine ⟨_, step_idle hpending, ?_, ?_, ?_, ?_, ?_, ?_, ?_, ?_, ?_, ?_, ?_⟩
    · rfl
    · exact (congrArg State.lp he :)
    · exact (congrArg State.sp he :)
    · exact (congrArg (fun u : State => u.se.voices) he :)
    · exact (congrArg (fun u : State => u.ru.layers) he :)
    · exact (congrArg State.pending he).trans hpending
    · exact (congrArg SaveController.openSlot hsc :)
    · exact (congrArg SaveController.slots hsc :)
    · intro hquiet
      rw [State.elapse_quiet s 1 hquiet.1 hquiet.2, movedTo, Nat.add_sub_cancel_left]
    · exact fun op hop hf hok h => elapse_one_working hm hop hf hok h
    · exact fun f hf hop => elapse_one_formatting hm hf hop

end Sys2Proof.Proofs
end

section
/-! The end of a verify and the flip (R58 to R61, R67), and what an event that newly latches one member does in STANDBY
and to a held AWAIT (R154, R160, R167). -/

set_option Elab.async false

namespace Sys2Proof.Machine

open Sys2Proof.Safety

/-! ### The close of an event that newly latches one member -/

/-- R154: the members newly latched. -/
theorem fresh_of_raised {a : MemberSet} {m : Member} (h : m.isIn a = false) : (a ||| m.set) &&& ~~~ a = m.set := by
  apply BitVec.eq_of_getLsbD_eq
  intro i hi
  rw [Member.isIn] at h
  rw [BitVec.getLsbD_and, BitVec.getLsbD_or, BitVec.getLsbD_not, Member.set, getLsbD_single]
  by_cases him : i = m.num
  · rw [him, h]
    simp [m.num_lt]
  · simp only [him, false_and, decide_false, Bool.or_false, hi, decide_true, Bool.true_and]
    exact Bool.and_not_self _

theorem Member.set_ne_zero (m : Member) : m.set ≠ 0 := by
  intro h
  have := m.isIn_set m
  rw [h] at this
  simp [Member.isIn] at this

/-- R154: an event newly latches one member and nothing else, before conditions are woken for and AWAITs end. -/
structure Latches (m : Member) (s x : State) : Prop where
  latch : x.report.au.latch = s.au.latch ||| m.set
  clear : m.isIn s.au.latch = false
  woke : x.au.woke = s.au.woke

theorem Latches.fresh {m : Member} {s x : State} (h : Latches m s x) :
    x.report.au.latch &&& ~~~ s.au.latch = m.set := by
  rw [h.latch]
  exact fresh_of_raised h.clear

theorem State.report_woke (s : State) : s.report.au.woke = s.au.woke := by
  unfold State.report
  split <;> rfl

/-- R161: a member marked woke asserts ATTN. -/
theorem notice_of_woke {a : Attention} {ms : MemberSet} {m : Member} (h : a.woke = ms ||| m.set) : (a.notice != 0) = true := by
  have hin : m.isIn a.notice = true := by
    rw [Attention.notice, h, Member.isIn_or, Member.isIn_or, Member.isIn_set]
    simp
  rw [bne_iff_ne]
  intro hzero
  rw [hzero] at hin
  simp [Member.isIn] at hin

/-- R154, R155, R160: such an event wakes a part in STANDBY. -/
theorem Latches.wakes {m : Member} {s x : State} (h : Latches m s x) (hp : x.sb.power = .standby)
    (ha : x.lp.await = none) (hamp : x.se.amp = s.se.amp) (hhold : x.se.hold = s.se.hold) :
    (State.conclude s x).sb.power = .active ∧ (State.conclude s x).au.attn = true
      ∧ (State.conclude s x).au.woke = s.au.woke ||| m.set ∧ (State.conclude s x).au.latch = s.au.latch ||| m.set
      ∧ (State.conclude s x).se.nextBoundary = (State.conclude s x).now + 15625 ∧ (State.conclude s x).ru.phase = 0
      ∧ (State.conclude s x).se.amp = (s.se.amp || s.se.hold) := by
  let y : State := { x.report.enterActive with au := { x.report.au with woke := x.report.au.woke ||| m.set } }
  have hwoke : y.au.woke = s.au.woke ||| m.set := congrArg (· ||| m.set) (x.report_woke.trans h.woke)
  have hwake : x.report.wakeBy m.set = y := by
    rw [State.wakeBy, if_pos ⟨by rw [State.report_sb]; exact hp, m.set_ne_zero⟩]
  have hattend : State.attend s x = y := by
    have hawait : y.lp.await = none := by
      show x.report.lp.await = none
      rw [State.report_lp]
      exact ha
    unfold State.attend
    simp only [h.fresh, hwake]
    exact State.endAwait_none hawait _
  have hclose : State.conclude s x = y.serviceStore.refresh := by rw [State.conclude, hattend]
  rw [State.serviceStore_eq] at hclose
  rw [hclose]
  refine ⟨rfl, ?_, hwoke, h.latch, rfl, rfl, ?_⟩
  · exact notice_of_woke (a := y.au) hwoke
  · show (x.report.se.amp || x.report.se.hold) = _
    rw [State.report_se, hamp, hhold]

/-- R167: such an event in ACTIVE ends a held AWAIT that names the member. -/
theorem Latches.answers {m : Member} {s x : State} {a : PendingAwait} (h : Latches m s x) (hp : x.sb.power = .active)
    (ha : x.lp.await = some a) (hm : m.isIn a.members = true) :
    (State.conclude s x).lp.await = none
      ∧ (State.conclude s x).au.latch = (s.au.latch ||| m.set) &&& ~~~ a.members
      ∧ (State.conclude s x).au.woke = s.au.woke &&& ~~~ a.members ∧ (State.conclude s x).sb.power = .active
      ∧ ∃ shown, (State.conclude s x).lp.held = some (replyFrame Kind.await a.tag (Code.withExtra a.extra .ok)
          (tripleBytes (m.set.setWidth 24) ++ leBytes 2 (((State.conclude s x).now - a.arrival) / 8000) ++ shown)) := by
  have hready : a.members &&& m.set = m.set := by
    apply BitVec.eq_of_getLsbD_eq
    intro i hi
    rw [BitVec.getLsbD_and, Member.set, getLsbD_single]
    by_cases him : i = m.num
    · rw [him]
      simp only [Member.isIn] at hm
      rw [hm, Bool.true_and]
    · simp [him]
  have hend : State.attend s x = x.report.endAwait m.set := by rw [State.attend_active s hp, h.fresh]
  have hawait : x.report.lp.await = some a := by rw [State.report_lp]; exact ha
  have hcond : ¬ (a.members &&& m.set = 0) := by
    rw [hready]
    exact m.set_ne_zero
  unfold State.endAwait at hend
  simp only [hawait, if_neg hcond] at hend
  have hclose : State.conclude s x = (State.attend s x).serviceStore.refresh := rfl
  rw [hend, State.serviceStore_eq, hready] at hclose
  rw [hclose]
  refine ⟨rfl, ?_, ?_, ?_, _, rfl⟩
  · exact congrArg (· &&& ~~~ a.members) h.latch
  · exact congrArg (· &&& ~~~ a.members) (x.report_woke.trans h.woke)
  · show x.report.sb.power = .active
    rw [State.report_sb]
    exact hp

/-! ### The end of a verify (R58 to R60, R67) -/

theorem exec_verifyEnd_eq {s : State} {op : KeepOp} (hop : s.sc.op = some op) (hp : op.phase = .verifying) :
    exec .verifyEnd s = .next (s.verifyDone op) := by
  show Host.Outcome.next (match s.sc.op with
    | some op => if op.phase = OpPhase.verifying then s.verifyDone op else s
    | none => s) = _
  rw [hop]
  simp only [hp, if_true]

/-- R58: the part as a verify ends: time has passed, and the bytes are read. -/
def State.verified (s : State) (op : KeepOp) : State :=
  { movedTo s (op.began + 4 * op.extent) with
    sc := { s.sc with op := some (op.after s.now (op.began + 4 * op.extent - s.now)) } }

/-- R58: a verify reads keep memory alone. -/
theorem State.verifyDone_eq {s : State} {op : KeepOp} (hf : s.sb.format = none) (hop : s.sc.op = some op)
    (hp : op.phase = .verifying) :
    s.verifyDone op = State.conclude s ((s.verified op).endVerify { op with done := op.extent }) := by
  have hseeding : ¬ op.phase = .seeding := by
    rw [hp]
    nofun
  have helapse : s.elapse (op.began + 4 * op.extent - s.now) = s.verified op := by
    rw [State.elapse_working hf hop, if_neg hseeding]
    rfl
  rw [← helapse, State.verifyDone, Nat.mul_comm]
  rfl

/-- R59: the header that a verify writes, as it stood before the time of the verify. -/
theorem State.verified_header (s : State) (op : KeepOp) :
    (s.verified op).commitHeader { op with done := op.extent } = s.commitHeader op := by
  have hvalid : (s.verified op).cu.valid = s.cu.valid := ClockUnit.count_valid _ _ _
  have hseconds : (s.verified op).cu.seconds = s.cu.seconds := by
    show (s.cu.count _ _).seconds = _
    unfold ClockUnit.count
    simp only
    split <;> rfl
  unfold State.commitHeader
  rw [hvalid, hseconds]
  rfl

/-- R59, R60: a verify that matched is closed with nothing to report. -/
theorem State.verifyDone_match {s : State} {op : KeepOp} (hs : Settled s) (hf : s.sb.format = none)
    (hop : s.sc.op = some op) (hp : op.phase = .verifying)
    (h : crc16 (Memory.readAll s.keep (s.shadowAddr op.slot + 32) op.length) = op.expected) :
    s.verifyDone op = State.refresh { movedTo s (op.began + 4 * op.extent) with
      keep := Memory.writeAll s.keep (s.shadowAddr op.slot) (s.commitHeader op).bytes
      sc := { s.sc with op := some { op with
        phase := .settling, done := op.extent, began := (movedTo s (op.began + 4 * op.extent)).now } } } := by
  obtain ⟨hr, hstore, -⟩ := hs
  rw [State.verifyDone_eq hf hop hp, State.endVerify_match (s := s.verified op) (op := { op with done := op.extent }) h,
    State.verified_header]
  generalize (s.commitHeader op).bytes = bytes
  let x : State := { movedTo s (op.began + 4 * op.extent) with
    keep := Memory.writeAll s.keep (s.shadowAddr op.slot) bytes
    sc := { s.sc with op := some { op with
      phase := .settling, done := op.extent, began := (movedTo s (op.began + 4 * op.extent)).now } } }
  have hreport : x.report = x :=
    State.report_of_slots hr rfl rfl (ClockUnit.count_valid _ _ _) rfl rfl rfl id rfl rfl rfl
  have hserved : x.serviceStore = x := State.serviceStore_of_served hstore rfl rfl rfl rfl
  calc State.conclude s x = x.serviceStore.refresh := State.conclude_same hreport rfl
    _ = x.refresh := by rw [hserved]

/-- R58: what a verify that did not match comes to before the close of its event. -/
def State.mismatched (s : State) (op : KeepOp) : State :=
  { movedTo s (op.began + 4 * op.extent) with
    sc := { s.sc with op := none }, au := (s.raiseSaveFailed op.slot .mismatch).au }

theorem State.verifyDone_mismatch {s : State} {op : KeepOp} (hf : s.sb.format = none)
    (hop : s.sc.op = some op) (hp : op.phase = .verifying)
    (h : crc16 (Memory.readAll s.keep (s.shadowAddr op.slot + 32) op.length) ≠ op.expected) :
    s.verifyDone op = State.conclude s (s.mismatched op) := by
  rw [State.verifyDone_eq hf hop hp,
    State.endVerify_mismatch (s := s.verified op) (op := { op with done := op.extent }) h]
  rfl

theorem State.mismatched_reported {s : State} (hs : s.report = s) (op : KeepOp) :
    (s.mismatched op).report = s.mismatched op := by
  refine State.report_of_slots hs rfl rfl (ClockUnit.count_valid _ _ _) rfl rfl rfl id ?_ ?_ ?_
  all_goals
    show _ = _
    rw [State.mismatched, raiseSaveFailed_au]

/-- R58: SAVE_FAILED is all that a verify that did not match latches. -/
theorem State.mismatched_latches {s : State} (hs : s.report = s) (op : KeepOp)
    (h : Member.saveFailed.isIn s.au.latch = false) : Latches .saveFailed s (s.mismatched op) := by
  refine ⟨?_, h, ?_⟩
  · rw [State.mismatched_reported hs, State.mismatched, raiseSaveFailed_au]
  · rw [State.mismatched, raiseSaveFailed_au]

end Sys2Proof.Machine

namespace Sys2Proof.Proofs

open Sys2Proof.Safety Sys2Proof.Machine

/-- Settles O30: a verify that matched is closed with its header written; one that did not latches SAVE_FAILED alone, which
wakes the part or ends an AWAIT. -/
theorem verifyEnds : Obligations.VerifyEnds := by
  unfold Obligations.VerifyEnds
  refine ⟨?_, ?_⟩
  · intro op s hs hpower hawait hf hm hop hok hp shadow face g header moved
    have hexec := exec_verifyEnd_eq hop hp
    split
    · rename_i hcrc
      obtain ⟨h1, hn, -⟩ := hok
      have hbounds := s.shadow_bounds h1 hn
      have hend := State.verifyDone_match hs hf hop hp hcrc
      obtain ⟨hsettle, hw, hmotor⟩ := State.refresh_settling
        (s := { moved with sc := { s.sc with op := some { op with
          phase := .settling, done := op.extent, began := moved.now } } }) rfl rfl
      refine ⟨_, hexec.trans (congrArg Host.Outcome.next hend), rfl, hsettle, hw, hmotor, fun a => ?_⟩
      have hread := Memory.read_writeAll_eq s.keep shadow header.bytes a hm
        (by rw [HeaderFields.length_bytes]; exact (Nat.le_add_right _ _).trans hbounds)
      rwa [HeaderFields.length_bytes] at hread
    · rename_i hcrc
      have hreport := State.mismatched_reported hs.1 op
      have hserved : (s.mismatched op).serviceStore = s.mismatched op :=
        State.serviceStore_of_served hs.2.1 rfl rfl rfl rfl
      rw [hexec, State.verifyDone_mismatch hf hop hp hcrc,
        State.conclude_reported (x := s.mismatched op) hpower hawait hreport, hserved, State.mismatched,
        raiseSaveFailed_au]
  · intro op s hs hf hop hok hp hcrc hclear
    have hexec : exec .verifyEnd s = .next (State.conclude s (s.mismatched op)) :=
      (exec_verifyEnd_eq hop hp).trans (congrArg Host.Outcome.next (State.verifyDone_mismatch hf hop hp hcrc))
    have hlatches := State.mismatched_latches hs.1 op hclear
    exact ⟨fun hpower hawait => ⟨_, hexec, hlatches.wakes hpower hawait rfl rfl⟩,
      fun a hpower hawait hmember => ⟨_, hexec, hlatches.answers hpower hawait hmember⟩⟩

end Sys2Proof.Proofs
end

section
/-! The flip (R61, R67). -/

set_option Elab.async false

namespace Sys2Proof.Machine

open Sys2Proof.Safety

/-! ### What attention leaves at the close of an event -/

/-- R154, R155, R167: a wake and the end of an AWAIT change the Link Port, the Attention Unit, the power state, and of the
engine and the Rumble Unit what the entry to ACTIVE sets. -/
structure Attended (x y : State) : Prop where
  rest : ∃ lp au p amp next block start phase tick, y = { x with
    lp := lp, au := au, sb := { x.sb with power := p }
    se := { x.se with amp := amp, nextBoundary := next, block := block, blockStart := start }
    ru := { x.ru with phase := phase, tick := tick } }
  awake : x.sb.power.awake = true → y.sb.power.awake = true
  active : x.sb.power = .active → ∃ lp au, y = { x with lp := lp, au := au }
  unheld : x.lp.await = none → y.lp = x.lp ∧ y.au.latch = x.report.au.latch ∧ y.au.details = x.report.au.details

theorem State.attended (s0 x : State) : Attended x (State.attend s0 x) := by
  let fresh := x.report.au.latch &&& ~~~ s0.au.latch
  have hwake : x.report.wakeBy fresh = x.report ∨ x.report.wakeBy fresh
      = { x.report.enterActive with au := { x.report.au with woke := x.report.au.woke ||| fresh } } := by
    unfold State.wakeBy
    split
    · exact .inr rfl
    · exact .inl rfl
  obtain ⟨lp, l, w, d, hend⟩ := (x.report.wakeBy fresh).endAwait_rest fresh
  have hattend : State.attend s0 x = (x.report.wakeBy fresh).endAwait fresh := rfl
  have hreport := x.report_eq
  refine ⟨?_, fun ha => ?_, fun hp => ?_, fun ha => ?_⟩
  · rw [hattend, hend]
    rcases hwake with h | h
    · rw [h, hreport]
      exact ⟨_, _, _, _, _, _, _, _, _, rfl⟩
    · rw [h, hreport]
      exact ⟨_, _, _, _, _, _, _, _, _, rfl⟩
  · rw [hattend, hend]
    rcases hwake with h | h
    · rw [h, hreport]
      exact ha
    · rw [h]
      rfl
  · rw [State.attend_active s0 hp]
    obtain ⟨lp, l, w, d, hactive⟩ := x.report.endAwait_rest fresh
    rw [hactive, hreport]
    exact ⟨_, _, rfl⟩
  · have hawait : (x.report.wakeBy fresh).lp.await = none := by
      rcases hwake with h | h
      · rw [h, State.report_lp]
        exact ha
      · rw [h]
        show x.report.lp.await = none
        rw [State.report_lp]
        exact ha
    rw [hattend, State.endAwait_none hawait]
    rcases hwake with h | h
    · rw [h]
      exact ⟨x.report_lp, rfl, rfl⟩
    · rw [h]
      exact ⟨x.report_lp, rfl, rfl⟩

/-- R159: a report latches nothing where no level becomes true. -/
theorem State.report_latch_of_held {x : State} (h : ∀ m, x.holds m = true → m.isIn x.au.level = true) :
    x.report.au.latch = x.au.latch := by
  unfold State.report
  split
  · show x.au.latch ||| (x.ownerLevels &&& ~~~ x.au.level) = x.au.latch
    have hnone : x.ownerLevels &&& ~~~ x.au.level = 0 := by
      apply BitVec.eq_of_getLsbD_eq
      intro i hi
      rw [BitVec.getLsbD_and, BitVec.getLsbD_not]
      cases hlevel : x.ownerLevels.getLsbD i with
      | false => simp
      | true =>
        rw [State.ownerLevels, getLsbD_maskOf] at hlevel
        obtain ⟨m, hm, rfl⟩ := List.mem_map.mp (of_decide_eq_true hlevel).1
        have hheld : x.au.level.getLsbD m.num = true := h m (List.mem_filter.mp hm).2
        simp [hheld]
    rw [hnone]
    simp
  · rfl

/-- R33, R34, R148: the store's service and the recomputed values leave the uses of the voices. -/
theorem State.closes_voices (s : State) : SameVoices s s.serviceStore.refresh := s.serviceStore_sameVoices

/-! ### The flip (R61) -/

theorem exec_flip_eq {s : State} {op : KeepOp} (hop : s.sc.op = some op) (hp : op.phase = .settling) :
    exec .flip s = .next (s.flip op) := by
  show Host.Outcome.next (match s.sc.op with
    | some op => if op.phase = OpPhase.settling then s.flip op else s
    | none => s) = _
  rw [hop]
  simp only [hp, if_true]

/-- R61: the SC's records after the flip. -/
def flippedRecords (sc : SaveController) (op : KeepOp) : SaveController :=
  { sc with
    slots := sc.slots.set (op.slot - 1) (if op.kind = .erase then .empty else .live), op := none
    openSlot := if op.kind = .commit then none else sc.openSlot
    highMark := if op.kind = .commit then 0 else sc.highMark }

/-- R61: what the flip comes to before the close of its event. -/
def State.flipped (s : State) (op : KeepOp) : State :=
  { movedTo s (op.began + 32000) with
    face := s.face ^^^ slotBit op.slot, sc := flippedRecords s.sc op, au := (s.raiseSaveDone op.slot).au }

/-- R61: the flip takes place 4 ms after SETTLING began. -/
theorem State.flip_eq {s : State} {op : KeepOp} (hf : s.sb.format = none) (hop : s.sc.op = some op)
    (hp : op.phase = .settling) : s.flip op = State.conclude s (s.flipped op) := by
  have hseeding : ¬ op.phase = .seeding := by
    rw [hp]
    nofun
  have helapse : s.elapseTo (op.began + Config.settleTime) = movedTo s (op.began + 32000) := by
    rw [State.elapseTo, State.elapse_working hf hop, if_neg hseeding, op.after_settling hp, ← hop]
    rfl
  have hflip : (movedTo s (op.began + 32000)).flipSlot op = s.flipped op := by
    unfold State.flipSlot State.flipped flippedRecords
    cases op.kind <;> rfl
  rw [State.flip, helapse, hflip]

/-- R157, R158: the flags and details after SAVE_DONE for a slot. -/
theorem raiseSaveDone_au (s : State) (n : Nat) : (s.raiseSaveDone n).au = { s.au with
    latch := s.au.latch ||| Member.saveDone.set
    details := { s.au.details with
      saveDone := (if Member.saveDone.isIn s.au.latch then s.au.details.saveDone else 0) ||| slotBit n } } := by
  unfold State.raiseSaveDone State.raise Attention.raise
  cases Member.saveDone.isIn s.au.latch <;> rfl

/-- R50, R61: the flip adds no slot to the DAMAGED ones. -/
theorem flippedRecords_getD (sc : SaveController) {op : KeepOp} (h1 : 1 ≤ op.slot) (h2 : op.slot ≤ sc.slots.length)
    (n : Nat) : (flippedRecords sc op).slots.getD n .empty
      = if n + 1 = op.slot then (if op.kind = .erase then .empty else .live) else sc.slots.getD n .empty := by
  rw [flippedRecords, List.getD_eq_getElem?_getD, List.getD_eq_getElem?_getD, List.getElem?_set]
  by_cases hn : n + 1 = op.slot
  · rw [if_pos hn, if_pos (by omega), if_pos (by omega)]
    rfl
  · rw [if_neg hn, if_neg (by omega)]

theorem State.flipped_damaged (s : State) {op : KeepOp} (h1 : 1 ≤ op.slot) (h2 : op.slot ≤ s.sc.slots.length) {n : Nat}
    (hn : n < 8) : (s.flipped op).damagedSet.getLsbD n = (decide (n + 1 ≠ op.slot) && s.damagedSet.getLsbD n) := by
  have hbit : ∀ u : State, u.damagedSet.getLsbD n = (u.sc.slots.getD n .empty == .damaged) := by
    intro u
    rw [State.damagedSet, getLsbD_maskOf]
    simp only [List.mem_filter, List.mem_range, hn, true_and, and_true, Bool.decide_eq_true]
  rw [hbit, hbit]
  show ((flippedRecords s.sc op).slots.getD n .empty == .damaged) = _
  rw [flippedRecords_getD s.sc h1 h2]
  by_cases hslot : n + 1 = op.slot
  · rw [if_pos hslot]
    cases op.kind <;> simp [hslot]
  · rw [if_neg hslot]
    simp [hslot]

/-- R50, R61, R67: the flip latches SAVE_DONE and nothing else. -/
theorem State.flipped_latch {s : State} (hs : s.report = s) {op : KeepOp} (ha : s.sb.power.awake = true)
    (h1 : 1 ≤ op.slot) (h2 : op.slot ≤ s.sc.slots.length) :
    (s.flipped op).report.au.latch = s.au.latch ||| Member.saveDone.set := by
  have hlevel : s.au.level = s.ownerLevels := ((s.reported_iff.mp hs) ha).1
  have hheld : ∀ m, (s.flipped op).holds m = true → m.isIn (s.flipped op).au.level = true := by
    intro m hm
    have hau : (s.flipped op).au.level = s.au.level := by
      show (s.raiseSaveDone op.slot).au.level = _
      rw [raiseSaveDone_au]
    rw [hau, hlevel, Member.isIn_ownerLevels]
    cases m with
    | slotDamaged =>
      simp only [State.holds, bne_iff_ne] at hm ⊢
      intro hzero
      refine hm (BitVec.eq_of_getLsbD_eq fun i hi => ?_)
      rw [s.flipped_damaged h1 h2 hi, hzero]
      simp
    | clockInvalid => simpa [State.holds, State.flipped, movedTo] using hm
    | _ => exact hm
  rw [State.report_latch_of_held hheld]
  show (s.raiseSaveDone op.slot).au.latch = _
  rw [raiseSaveDone_au]

theorem State.flipped_latches {s : State} (hs : s.report = s) {op : KeepOp} (ha : s.sb.power.awake = true)
    (h1 : 1 ≤ op.slot) (h2 : op.slot ≤ s.sc.slots.length) (h : Member.saveDone.isIn s.au.latch = false) :
    Latches .saveDone s (s.flipped op) := by
  refine ⟨State.flipped_latch hs ha h1 h2, h, ?_⟩
  show (s.raiseSaveDone op.slot).au.woke = _
  rw [raiseSaveDone_au]

end Sys2Proof.Machine

namespace Sys2Proof.Proofs

open Sys2Proof.Safety Sys2Proof.Machine

/-- R61: the flip inverts one face bit. -/
theorem flipped_face (w : BitVec 8) {slot n : Nat} (h1 : 1 ≤ slot) (hn : n < 8) :
    (w ^^^ slotBit slot).getLsbD n = (w.getLsbD n != decide (n + 1 = slot)) := by
  rw [BitVec.getLsbD_xor, slotBit, getLsbD_single]
  have hbit : (n = slot - 1 ∧ n < 8) ↔ n + 1 = slot := by omega
  rw [decide_eq_decide.mpr hbit]

/-- R61: what the flip leaves at the close of its event. -/
theorem flip_closes {op : KeepOp} {s : State} (hs : Settled s) (ha : s.sb.power.awake = true) (h1 : 1 ≤ op.slot)
    (h2 : op.slot ≤ s.sc.slots.length) (h8 : s.sc.slots.length ≤ 8) :
    let t := State.conclude s (s.flipped op)
    t.face = s.face ^^^ slotBit op.slot ∧ t.sc = flippedRecords s.sc op ∧ t.sb.settle = false
      ∧ t.au.details.slotDamaged.getLsbD (op.slot - 1) = false
      ∧ (s.lp.await = none → t.lp = s.lp ∧ Member.saveDone.isIn t.au.latch = true
        ∧ t.au.details.saveDone =
          (if Member.saveDone.isIn s.au.latch then s.au.details.saveDone else 0) ||| slotBit op.slot)
      ∧ t.now = s.now + (op.began + 32000 - s.now) ∧ t.keep = s.keep ∧ t.dr = s.dr ∧ SameVoices s t ∧ SameStore s t
      ∧ t.ru.layers = s.ru.layers ∧ t.ru.cues = s.ru.cues
      ∧ (s.sb.power = .active → SameRumble s t ∧ SameEngine s t ∧ SameSupply s t) := by
  intro t
  let x := s.flipped op
  let y := State.attend s x
  have hat : Attended x y := State.attended s x
  have hc : Closes y t := y.closes
  have hvoices : SameVoices y t := y.closes_voices
  obtain ⟨lp, au, p, amp, next, block, start, phase, tick, hrest⟩ := hat.rest
  have hsc : t.sc = flippedRecords s.sc op := hc.sc.trans (congrArg State.sc hrest :)
  obtain ⟨hkeep, hface, -, hdr⟩ := hc.keep
  have hreported := (y.reported_iff.mp (State.attend_reported s x)) (hat.awake ha)
  have hdamaged : y.damagedSet = x.damagedSet := by
    rw [State.damagedSet, State.damagedSet, (congrArg State.sc hrest :)]
  have hlayers : y.ru.layers = s.ru.layers ∧ y.ru.cues = s.ru.cues := by
    rw [hrest]
    exact ⟨rfl, rfl⟩
  have hcues : t.ru.cues = y.ru.cues := (congrArg RumbleUnit.cues hc.rumble :)
  refine ⟨hface.trans (congrArg State.face hrest :), hsc, ?_, ?_, fun hn => ?_, hc.now.trans (congrArg State.now hrest :),
    hkeep.trans (congrArg State.keep hrest :), hdr.trans (congrArg State.dr hrest :), ?_, ?_, hc.layers.trans hlayers.1,
    hcues.trans hlayers.2, fun hp => ?_⟩
  · show settling t.sc.op = false
    rw [hsc]
    rfl
  · rw [hc.details, hreported.2.1, hdamaged, s.flipped_damaged h1 h2 (by omega)]
    simp [show op.slot - 1 + 1 = op.slot by omega]
  · obtain ⟨hlp, hlatch, hdetails⟩ := hat.unheld hn
    have hclose : t.lp = y.lp := by
      show y.serviceStore.lp = y.lp
      rw [State.serviceStore_eq]
    refine ⟨hclose.trans hlp, ?_, ?_⟩
    · rw [hc.latch, hlatch, State.flipped_latch hs.1 ha h1 h2, Member.isIn_or, Member.isIn_set]
      simp
    · rw [hc.details, hdetails, State.report_details]
      show (s.raiseSaveDone op.slot).au.details.saveDone = _
      rw [raiseSaveDone_au]
  · exact hvoices.trans (by rw [hrest]; rfl)
  · have hsp : y.sp = s.sp := (congrArg State.sp hrest :)
    have hstore := hc.store
    rwa [SameStore, hsp] at hstore
  · obtain ⟨lp, au, hsame⟩ := hat.active hp
    have hru : y.ru = s.ru := (congrArg State.ru hsame :)
    have hse : y.se = s.se := (congrArg State.se hsame :)
    have hsb : y.sb = s.sb := (congrArg State.sb hsame :)
    have hrumble := hc.rumble
    have hengine := hc.engine
    have hsupply := hc.supply
    rw [SameRumble, hru] at hrumble
    rw [SameEngine, hse] at hengine
    rw [SameSupply, hsb] at hsupply
    exact ⟨hrumble, hengine, hsupply⟩

/-- Settles O31: the flip inverts one face bit and latches SAVE_DONE alone, which wakes the part or ends an AWAIT. -/
theorem flipMakesTheSave : Obligations.FlipMakesTheSave := by
  unfold Obligations.FlipMakesTheSave
  intro op s hs ha hf hop h1 h2 h8 hp
  have hexec : exec .flip s = .next (State.conclude s (s.flipped op)) :=
    (exec_flip_eq hop hp).trans (congrArg Host.Outcome.next (State.flip_eq hf hop hp))
  obtain ⟨hface, hsc, hsettle, hdamaged, hunheld, hrest⟩ := flip_closes hs ha h1 h2 h8
  refine ⟨⟨_, hexec, hface, fun n hn => ?_, fun n _ => ?_, ?_, hsettle, ?_, fun hk => ?_, fun hk => ?_, hdamaged, hunheld,
    hrest⟩, fun hclear => ?_⟩
  · rw [hface]
    exact flipped_face s.face h1 hn
  · rw [hsc]
    exact flippedRecords_getD s.sc h1 h2 n
  · rw [hsc]
    rfl
  · rw [hsc]
    rfl
  · rw [hsc, flippedRecords, if_pos hk, if_pos hk]
    exact ⟨rfl, rfl⟩
  · have hcommit : ¬ op.kind = .commit := by
      rw [hk]
      nofun
    rw [hsc, flippedRecords, if_neg hcommit, if_neg hcommit]
    exact ⟨rfl, rfl⟩
  · have hlatches := State.flipped_latches hs.1 ha h1 h2 hclear
    exact ⟨fun hpower hawait => ⟨_, hexec, hlatches.wakes hpower hawait rfl rfl⟩,
      fun a hpower hawait hmember => ⟨_, hexec, hlatches.answers hpower hawait hmember⟩⟩

end Sys2Proof.Proofs
end

section
/-! The end of a format (R47, R48, R88, R185, R186, R192, R195; log 25). -/

set_option Elab.async false

namespace Sys2Proof.Machine

open Sys2Proof.Safety

/-! ### Bytes read and written -/

theorem leNat_leBytes (n x : Nat) : leNat (leBytes n x) = x % 256 ^ n := by
  induction n generalizing x with
  | zero => simp [leBytes, leNat, Nat.mod_one]
  | succ n ih =>
    rw [leBytes, leNat, ih, BitVec.toNat_ofNat, pow_succ' 256 n, Nat.mod_mul]

/-- A read of several bytes is known from its bytes. -/
theorem readAll_eq {m : List Host.Cell} {a n : Nat} {bs : List Byte} (hn : bs.length = n)
    (h : ∀ i < n, Memory.read m (a + i) = byteAt bs i) : Memory.readAll m a n = bs := by
  refine List.ext_getElem (by rw [length_readAll, hn]) fun i hi hi' => ?_
  have hin : i < n := by rwa [length_readAll] at hi
  have hbyte := h i hin
  rw [byteAt, List.getD_eq_getElem _ _ hi'] at hbyte
  rw [← hbyte]
  simp [Memory.readAll]

theorem byteAt_append_left {p q : List Byte} {i : Nat} (h : i < p.length) : byteAt (p ++ q) i = byteAt p i := by
  simp only [byteAt, List.getD_eq_getElem?_getD, List.getElem?_append_left h]

theorem byteAt_append_right (p q : List Byte) (i : Nat) : byteAt (p ++ q) (p.length + i) = byteAt q i := by
  rw [byteAt, byteAt, List.getD_eq_getElem?_getD, List.getD_eq_getElem?_getD,
    List.getElem?_append_right (Nat.le_add_right _ _), Nat.add_sub_cancel_left]

/-! ### The writes of a format (R185, R186) -/

/-- Byte writes at rising addresses are one write of several bytes. -/
theorem State.foldl_byteWrites (s : State) (a : Nat) (bs : List Byte) :
    (byteWrites a bs).foldl State.formatWrite s = { s with keep := Memory.writeAll s.keep a bs } := by
  induction bs generalizing s a with
  | nil => rfl
  | cons b bs ih =>
    have hrest : byteWrites a (b :: bs) = .byte a b :: byteWrites (a + 1) bs := by
      rw [byteWrites, List.mapIdx_cons, byteWrites, Nat.add_zero]
      congr 1
      refine List.mapIdx_eq_mapIdx_iff.mpr fun i _ => ?_
      rw [Nat.add_assoc, Nat.add_comm 1 i]
    rw [hrest, List.foldl_cons, ih]
    rfl

theorem length_byteWrites (a : Nat) (bs : List Byte) : (byteWrites a bs).length = bs.length := List.length_mapIdx

/-- Keep memory after the headers of slots 1 to `k` of a layout are written EMPTY. -/
def withHeaders (layout : List Nat) (m : List Host.Cell) : Nat → List Host.Cell
  | 0 => m
  | k + 1 => Memory.writeAll (Memory.writeAll (withHeaders layout m k) (halfAddr layout (k + 1) false)
      (formatHeader (k + 1)).bytes) (halfAddr layout (k + 1) true) (formatHeader (k + 1)).bytes

/-- R185, R186: the header writes of a format. -/
theorem State.foldl_headerWrites (s : State) (layout : List Nat) :
    (headerWrites layout).foldl State.formatWrite s = { s with keep := withHeaders layout s.keep layout.length } := by
  have hfirst : ∀ k, ((List.range k).flatMap fun i =>
      byteWrites (halfAddr layout (i + 1) false) (formatHeader (i + 1)).bytes
        ++ byteWrites (halfAddr layout (i + 1) true) (formatHeader (i + 1)).bytes).foldl State.formatWrite s
      = { s with keep := withHeaders layout s.keep k } := by
    intro k
    induction k with
    | zero => rfl
    | succ k ih =>
      rw [List.range_succ, List.flatMap_append, List.foldl_append, ih, List.flatMap_singleton, List.foldl_append,
        State.foldl_byteWrites, State.foldl_byteWrites]
      rfl
  exact hfirst layout.length

theorem length_headerWrites (layout : List Nat) : (headerWrites layout).length = 64 * layout.length := by
  rw [headerWrites, List.length_flatMap]
  simp only [List.length_append, length_byteWrites, HeaderFields.length_bytes, List.map_const', List.length_range,
    List.sum_replicate, smul_eq_mul]
  omega

/-- R192: the recorded identity takes 21 bytes. -/
theorem Profile.length_identity (p : Profile) : p.identity.length = 21 := by
  simp [Profile.identity, length_leBytes, List.length_flatMap]

/-- R185, R186: a format's writes are fewer than the half microseconds of its millisecond. -/
theorem length_formatWrites (k : FormatKind) (p : Profile) : (formatWrites k p).length ≤ 2000 := by
  obtain ⟨-, h8, -⟩ := layoutLegal_bounds p.layout_legal
  cases k with
  | full =>
    simp only [formatWrites, List.length_append, length_byteWrites, length_headerWrites, Profile.length_identity,
      List.length_replicate, List.length_cons, List.length_nil]
    omega
  | slots =>
    simp only [formatWrites, List.length_append, length_headerWrites, List.length_cons, List.length_nil]
    omega

/-! ### The headers written (R47, R185, R186) -/

/-- R46: the keep addresses of a half's header. -/
abbrev inHeader (layout : List Nat) (n : Nat) (b : Bool) (a : Nat) : Prop :=
  halfAddr layout n b ≤ a ∧ a < halfAddr layout n b + 32

theorem withHeaders_wf (layout : List Nat) {m : List Host.Cell} (h : Memory.wf m) (k : Nat) :
    Memory.wf (withHeaders layout m k) := by
  induction k with
  | zero => exact h
  | succ k ih => exact Memory.writeAll_wf _ _ _ (Memory.writeAll_wf _ _ _ ih)

/-- The write of a slot's two headers. -/
theorem read_headers_succ {layout : List Nat} (hl : layoutLegal layout = true) {m : List Host.Cell} (hm : Memory.wf m)
    {k : Nat} (hk : k < layout.length) (a : Nat) : Memory.read (withHeaders layout m (k + 1)) a
      = if inHeader layout (k + 1) true a then
          byteAt (formatHeader (k + 1)).bytes (a - halfAddr layout (k + 1) true)
        else if inHeader layout (k + 1) false a then
          byteAt (formatHeader (k + 1)).bytes (a - halfAddr layout (k + 1) false)
        else Memory.read (withHeaders layout m k) a := by
  have hbound : ∀ b, halfAddr layout (k + 1) b + (formatHeader (k + 1)).bytes.length ≤ Config.keepSize := by
    intro b
    rw [HeaderFields.length_bytes]
    exact (Nat.le_add_right _ _).trans (half_bounds hl (Nat.le_add_left 1 k) hk b).2
  rw [withHeaders, Memory.read_writeAll_eq _ _ _ _ (Memory.writeAll_wf _ _ _ (withHeaders_wf layout hm k)) (hbound true),
    Memory.read_writeAll_eq _ _ _ _ (withHeaders_wf layout hm k) (hbound false), HeaderFields.length_bytes]

/-- R46: a byte of a header lies in no other half. -/
theorem header_unique {layout : List Nat} {n m a : Nat} {b c : Bool} (hn1 : 1 ≤ n) (hn : n ≤ layout.length)
    (hm1 : 1 ≤ m) (hm : m ≤ layout.length) (h : inHalf layout n b a) (h' : inHeader layout m c a) : n = m ∧ b = c :=
  inHalf_unique hn1 hn hm1 hm h ⟨h'.1, h'.2.trans_le (Nat.le_add_right _ _)⟩

/-- A byte outside the headers reads as before. -/
theorem read_headers_ne {layout : List Nat} (hl : layoutLegal layout = true) {m : List Host.Cell} (hm : Memory.wf m)
    {k : Nat} (hk : k ≤ layout.length) {a : Nat} (ha : ∀ n b, 1 ≤ n → n ≤ k → ¬ inHeader layout n b a) :
    Memory.read (withHeaders layout m k) a = Memory.read m a := by
  induction k with
  | zero => rfl
  | succ k ih =>
    rw [read_headers_succ hl hm hk, if_neg (ha _ _ (Nat.le_add_left 1 k) (le_refl _)),
      if_neg (ha _ _ (Nat.le_add_left 1 k) (le_refl _))]
    exact ih (by omega) fun n b h1 hn => ha n b h1 (by omega)

/-- R47: every byte of a header reads as that of an EMPTY one. -/
theorem read_headers {layout : List Nat} (hl : layoutLegal layout = true) {m : List Host.Cell} (hm : Memory.wf m)
    {k n : Nat} (hk : k ≤ layout.length) (h1 : 1 ≤ n) (hn : n ≤ k) {b : Bool} {a : Nat} (ha : inHeader layout n b a) :
    Memory.read (withHeaders layout m k) a = byteAt (formatHeader n).bytes (a - halfAddr layout n b) := by
  have hhalf : inHalf layout n b a := ⟨ha.1, ha.2.trans_le (Nat.le_add_right _ _)⟩
  induction k with
  | zero => omega
  | succ k ih =>
    rw [read_headers_succ hl hm hk]
    split_ifs with htrue hfalse
    · obtain ⟨rfl, rfl⟩ := header_unique h1 (hn.trans hk) (Nat.le_add_left 1 k) hk hhalf htrue
      rfl
    · obtain ⟨rfl, rfl⟩ := header_unique h1 (hn.trans hk) (Nat.le_add_left 1 k) hk hhalf hfalse
      rfl
    · have hne : n ≠ k + 1 := by
        rintro rfl
        cases b
        · exact hfalse ha
        · exact htrue ha
      exact ih (by omega) (by omega)

/-! ### The recorded identity (R184, R192) -/

/-- A list of 2-byte fields, byte by byte. -/
theorem byteAt_halves (f : Nat → Nat) {k i j : Nat} (hi : i < k) (hj : j < 2) :
    byteAt ((List.range k).flatMap fun i => leBytes 2 (f i)) (2 * i + j) = byteAt (leBytes 2 (f i)) j := by
  have hlength : ∀ k, ((List.range k).flatMap fun i => leBytes 2 (f i)).length = 2 * k := by
    intro k
    simp [List.length_flatMap, length_leBytes, Nat.mul_comm]
  induction k with
  | zero => omega
  | succ k ih =>
    rw [List.range_succ, List.flatMap_append, List.flatMap_singleton]
    rcases Nat.lt_succ_iff_lt_or_eq.mp hi with hlt | rfl
    · rw [byteAt_append_left (by rw [hlength]; omega)]
      exact ih hlt
    · have hright := byteAt_append_right ((List.range i).flatMap fun i => leBytes 2 (f i)) (leBytes 2 (f i)) j
      rwa [hlength] at hright

/-- R192: the fields of a recorded identity, byte by byte. -/
theorem Profile.byteAt_identity (p : Profile) : (∀ i < 4, byteAt p.identity i = byteAt (leBytes 4 p.gameCode) i)
    ∧ byteAt p.identity 4 = BitVec.ofNat 8 p.layout.length
    ∧ ∀ i < 8, ∀ j < 2, byteAt p.identity (5 + 2 * i + j) = byteAt (leBytes 2 (p.layout.getD i 0)) j := by
  refine ⟨fun i hi => ?_, ?_, fun i hi j hj => ?_⟩
  · rw [Profile.identity, List.append_assoc, byteAt_append_left (by rw [length_leBytes]; exact hi)]
  · rw [Profile.identity, List.append_assoc]
    exact byteAt_append_right (leBytes 4 p.gameCode) _ 0
  · have hright := byteAt_append_right (leBytes 4 p.gameCode ++ leBytes 1 p.layout.length)
      ((List.range 8).flatMap fun i => leBytes 2 (p.layout.getD i 0)) (2 * i + j)
    rw [List.length_append, length_leBytes, length_leBytes, ← Nat.add_assoc] at hright
    exact hright.trans (byteAt_halves _ hi hj)

/-- R184, R192: the recorded game code and layout, read from the identity of a profile. -/
theorem recorded_identity {m : List Host.Cell} {p : Profile}
    (h : ∀ i < 21, Memory.read m (identityAddr + i) = byteAt p.identity i) :
    recordedCode m = p.gameCode % 4294967296 ∧ recordedLayout m = p.layout := by
  obtain ⟨-, h8, hsizes, -⟩ := layoutLegal_bounds p.layout_legal
  obtain ⟨hcode, hcount, hfields⟩ := p.byteAt_identity
  refine ⟨?_, ?_⟩
  · have hbytes : Memory.readAll m identityAddr 4 = leBytes 4 p.gameCode :=
      readAll_eq (length_leBytes 4 _) fun i hi => (h i (by omega)).trans (hcode i hi)
    rw [recordedCode, hbytes, leNat_leBytes]
    norm_num
  · have hlength : (Memory.read m (identityAddr + 4)).toNat = p.layout.length := by
      rw [h 4 (by decide), hcount, BitVec.toNat_ofNat]
      omega
    have hsize : ∀ i < p.layout.length, leNat (Memory.readAll m (identityAddr + 5 + 2 * i) 2) = p.layout.getD i 0 := by
      intro i hi
      have hbytes : Memory.readAll m (identityAddr + 5 + 2 * i) 2 = leBytes 2 (p.layout.getD i 0) := by
        refine readAll_eq (length_leBytes 2 _) fun j hj => ?_
        rw [show identityAddr + 5 + 2 * i + j = identityAddr + (5 + 2 * i + j) by omega]
        exact (h _ (by omega)).trans (hfields i (by omega) j hj)
      have hmem : p.layout.getD i 0 ∈ p.layout := by
        rw [List.getD_eq_getElem _ _ hi]
        exact List.getElem_mem hi
      have hbound := hsizes _ hmem
      rw [hbytes, leNat_leBytes]
      omega
    rw [recordedLayout, hlength]
    refine List.ext_getElem (by simp) fun i hi hi' => ?_
    rw [List.getElem_map, List.getElem_range, hsize i hi', List.getD_eq_getElem _ _ hi']

/-! ### What a format leaves -/

/-- R185 (1, 2, 6), R186 (1): keep memory before a format's closing writes. -/
def written (k : FormatKind) (p : Profile) (m : List Host.Cell) : List Host.Cell :=
  match k with
  | .full => Memory.writeAll (withHeaders p.layout (Memory.writeAll m 0 (List.replicate 16 0)) p.layout.length)
      identityAddr p.identity
  | .slots => withHeaders p.layout m p.layout.length

/-- R185 (7), R186 (3): keep memory after a format's closing writes. -/
def closed (k : FormatKind) (p : Profile) (m : List Host.Cell) : List Host.Cell :=
  match k with
  | .full => Memory.writeAll m 0 signature
  | .slots => Memory.writeAll m identityAddr p.identity

/-- R88, R185: the clock when a format has ended. -/
def formattedClock (k : FormatKind) (c : ClockUnit) : ClockUnit :=
  match k with
  | .full => { c with seconds := 0, valid := false, divider := 0, hold := 0, phase := 0, trim := 0 }
  | .slots => c

/-- R89, R98, R106, R185: the Day Reckoner's records when a format has ended. -/
def formattedDays (k : FormatKind) (d : DayReckoner) : DayReckoner :=
  match k with
  | .full => { d with g := 0, l := 0, forfeited := 0, rewind := 0, table := [], fired := [] }
  | .slots => d

theorem ClockUnit.count_running (c : ClockUnit) (now dt : Nat) : (c.count now dt).running = c.running := by
  unfold ClockUnit.count
  simp only
  split <;> rfl

theorem State.foldl_formatWrites (s : State) (k : FormatKind) (p : Profile) :
    (formatWrites k p).foldl State.formatWrite s = { s with
      keep := written k p s.keep, face := 0, cu := formattedClock k s.cu, dr := formattedDays k s.dr } := by
  cases k with
  | full =>
    simp only [formatWrites, List.foldl_append, State.foldl_byteWrites, State.foldl_headerWrites, List.foldl_cons,
      List.foldl_nil, State.formatWrite]
    rfl
  | slots =>
    simp only [formatWrites, List.foldl_append, State.foldl_headerWrites, List.foldl_cons, List.foldl_nil,
      State.formatWrite]
    rfl

theorem State.closeFormat_closed (s : State) (k : FormatKind) :
    s.closeFormat k = { s with keep := closed k s.sp.profile s.keep } := by
  cases k with
  | full => exact s.foldl_byteWrites 0 signature
  | slots => exact s.foldl_byteWrites identityAddr s.sp.profile.identity

/-- R185, R186: a format that has run from its first write for a millisecond, closed. -/
theorem State.format_ends {s : State} {k : FormatKind} (hf : s.sb.format = some { kind := k, made := 0, ran := 0 })
    (hop : s.sc.op = none) (hfence : s.sb.supply ≠ .fence) : ∃ f, (s.elapse 8000).closeFormat k = { s with
      keep := closed k s.sp.profile (written k s.sp.profile s.keep), face := 0
      cu := formattedClock k (s.cu.count s.now 8000), dr := formattedDays k s.dr
      sb := { s.sb with format := f }, now := s.now + 8000 } := by
  have hall : (List.drop 0 (formatWrites k s.sp.profile)).take 2000 = formatWrites k s.sp.profile :=
    List.take_of_length_le (length_formatWrites k s.sp.profile)
  rw [State.elapse_formatting hf hop, if_neg hfence, State.closeFormat_closed]
  simp only [State.formatMore, show (0 + 8000) / 4 - 0 / 4 = 2000 from rfl, hall, State.foldl_formatWrites]
  exact ⟨_, rfl⟩

section Reads

variable {k : FormatKind} {p : Profile} {m : List Host.Cell}

theorem written_wf (hm : Memory.wf m) : Memory.wf (written k p m) := by
  cases k with
  | full => exact Memory.writeAll_wf _ _ _ (withHeaders_wf _ (Memory.writeAll_wf _ _ _ hm) _)
  | slots => exact withHeaders_wf _ hm _

/-- R46, R192: below the slot-half area no header lies. -/
theorem header_above {layout : List Nat} (hl : layoutLegal layout = true) {a : Nat} (ha : a < Config.slotArea) (n : Nat)
    (b : Bool) (h1 : 1 ≤ n) (hn : n ≤ layout.length) : ¬ inHeader layout n b a := fun h =>
  absurd ((half_bounds hl h1 hn b).1.trans h.1) (Nat.not_le.mpr ha)

/-- R46: in the slot-half area a format writes the headers alone. -/
theorem read_formatted_area (hm : Memory.wf m) {a : Nat} (ha : Config.slotArea ≤ a) :
    ∃ m', Memory.wf m' ∧ Memory.read m' a = Memory.read m a
      ∧ Memory.read (closed k p (written k p m)) a = Memory.read (withHeaders p.layout m' p.layout.length) a := by
  have hw := written_wf (k := k) (p := p) hm
  have hidentity : identityAddr + p.identity.length ≤ a := by
    rw [p.length_identity]
    exact (by decide : identityAddr + 21 ≤ Config.slotArea).trans ha
  have hfirst : 0 + 16 ≤ a := (by decide : 0 + 16 ≤ Config.slotArea).trans ha
  cases k with
  | full =>
    refine ⟨_, Memory.writeAll_wf m 0 (List.replicate 16 0) hm, ?_, ?_⟩
    · exact Memory.read_writeAll_ne m 0 _ a hm (.inr (by simpa using hfirst))
    · rw [closed, Memory.read_writeAll_ne _ _ _ _ hw (.inr hfirst), written,
        Memory.read_writeAll_ne _ _ _ _ (withHeaders_wf _ (Memory.writeAll_wf _ _ _ hm) _) (.inr hidentity)]
  | slots =>
    exact ⟨m, hm, rfl, Memory.read_writeAll_ne _ _ _ _ hw (.inr hidentity)⟩

/-- R184, R192: the identity recorded is the profile's. -/
theorem read_formatted_identity (hm : Memory.wf m) {i : Nat} (hi : i < 21) :
    Memory.read (closed k p (written k p m)) (identityAddr + i) = byteAt p.identity i := by
  have hw := written_wf (k := k) (p := p) hm
  have hlength := p.length_identity
  have hinside : identityAddr + p.identity.length ≤ Config.keepSize := by
    rw [hlength]
    decide
  cases k with
  | full =>
    have hout : 0 + signature.length ≤ identityAddr + i := Nat.le_add_right 16 i
    rw [closed, Memory.read_writeAll_ne _ _ _ _ hw (.inr hout), written]
    exact Memory.read_writeAll _ _ _ _ (withHeaders_wf _ (Memory.writeAll_wf _ _ _ hm) _) (by omega) hinside
  | slots => exact Memory.read_writeAll _ _ _ _ hw (by omega) hinside

/-- R185: a full format leaves the signature. -/
theorem readAll_formatted_full (hm : Memory.wf m) :
    Memory.readAll (closed .full p (written .full p m)) 0 16 = signature := by
  have hw := written_wf (k := .full) (p := p) hm
  have hlength : signature.length = 16 := rfl
  refine readAll_eq hlength fun i hi => ?_
  rw [closed]
  exact Memory.read_writeAll _ 0 signature i hw (by rwa [hlength]) (by decide)

/-- R186: a slot format leaves what stands where the signature does. -/
theorem readAll_formatted_slots (hm : Memory.wf m) :
    Memory.readAll (closed .slots p (written .slots p m)) 0 16 = Memory.readAll m 0 16 := by
  refine readAll_eq (length_readAll _ _ _) fun i hi => ?_
  have hlow : 0 + i < identityAddr := by
    rw [Nat.zero_add]
    exact hi
  rw [Memory.readAll_byte _ _ _ _ hi, closed, Memory.read_writeAll_ne _ _ _ _ (written_wf hm) (.inl hlow)]
  exact read_headers_ne p.layout_legal hm (le_refl _)
    (header_above p.layout_legal (hlow.trans (by decide)))

end Reads

/-! ### The close of a format's event in WAKING (R187) -/

/-- R154, R167: in WAKING with no AWAIT held, the close of an event wakes nothing and answers nothing. -/
theorem State.conclude_waking {s0 x : State} (hp : x.sb.power = .waking) (ha : x.lp.await = none) :
    State.conclude s0 x = x.serviceStore.refresh := by
  have hwake : ∀ fresh, x.wakeBy fresh = x := fun fresh => if_neg fun hc => by rw [hp] at hc; cases hc.1
  unfold State.conclude State.attend
  simp only [State.report_waking hp, hwake, State.endAwait_none ha]

/-- R187: with a usable layout the directory stage stays in WAKING, and changes the SP, the slot states and the stage. -/
theorem State.stageDirectory_usable {s : State} (h : s.sc.layoutState = .usable) :
    ∃ sp sc stage start slot, s.stageDirectory = { s with
      sp := sp, sc := sc, sb := { s.sb with stage := stage, stageStart := start, scrubSlot := slot } } := by
  by_cases hread : s.sb.profileStatus = .fromStore ∧ 0 < s.sp.profile.patternCount
  · rw [State.stageDirectory_reads hread]
    exact ⟨_, _, _, _, _, rfl⟩
  · rw [State.stageDirectory_empty hread, State.stageScrub_usable (by exact h)]
    exact ⟨_, _, _, _, _, rfl⟩

/-- R157, R158: the flags and details after KEEP_FORMATTED. -/
theorem raiseFormatted_au (s : State) (k : FormatKind) : (s.raiseFormatted k).au = { s.au with
    latch := s.au.latch ||| Member.keepFormatted.set
    details := { s.au.details with
      keepFormatted := if Member.keepFormatted.isIn s.au.latch = true ∧ s.au.details.keepFormatted = some .full then
          some .full
        else some k } } := by
  unfold State.raiseFormatted State.raise Attention.raise
  cases Member.keepFormatted.isIn s.au.latch with
  | false => rfl
  | true => simp only [if_true, true_and]

/-- R185, R186: the end of a format's millisecond. -/
theorem State.formatDone_eq {s : State} {k : FormatKind} (hp : s.sb.power = .waking)
    (hf : s.sb.format = some { kind := k, made := 0, ran := 0 }) (hop : s.sc.op = none)
    (hfence : s.sb.supply ≠ .fence) (hl : s.sc.layoutState = .usable) (ha : s.lp.await = none) :
    ∃ sp sc sb se ru attn, s.formatDone { kind := k, made := 0, ran := 0 } = { s with
        au := { (s.raiseFormatted k).au with attn := attn }, se := se, ru := ru, sp := sp, sc := sc
        keep := closed k s.sp.profile (written k s.sp.profile s.keep), face := 0
        cu := formattedClock k (s.cu.count s.now 8000), dr := formattedDays k s.dr, sb := sb, now := s.now + 8000 }
      ∧ sb.format = none ∧ sb.power = .waking := by
  obtain ⟨f, hends⟩ := State.format_ends hf hop hfence
  let y : State := ({ s with
    keep := closed k s.sp.profile (written k s.sp.profile s.keep), face := 0
    cu := formattedClock k (s.cu.count s.now 8000), dr := formattedDays k s.dr
    sb := { s.sb with format := none }, now := s.now + 8000 } : State).raiseFormatted k
  have hdone : s.formatDone { kind := k, made := 0, ran := 0 } = State.conclude s y.stageDirectory := by
    show State.conclude s (State.stageDirectory (({ (s.elapse 8000).closeFormat k with
      sb := { ((s.elapse 8000).closeFormat k).sb with format := none } } : State).raiseFormatted k)) = _
    rw [hends]
  obtain ⟨sp, sc, stage, start, slot, hdirectory⟩ := State.stageDirectory_usable (s := y) hl
  have hwaking : y.stageDirectory.sb.power = .waking := by
    rw [hdirectory]
    exact hp
  have hawait : y.stageDirectory.lp.await = none := by
    rw [hdirectory]
    exact ha
  rw [hdone, State.conclude_waking hwaking hawait, State.serviceStore_eq, hdirectory]
  exact ⟨_, _, _, _, _, _, rfl, rfl, hp⟩

/-- R185, R186: the command that ends a format of a kind. -/
def formatEnd : FormatKind → Instr
  | .full => .fullFormatEnd
  | .slots => .slotFormatEnd

theorem exec_formatEnd_eq {s : State} {f : FormatRun} (hp : s.sb.power = .waking) (hst : s.sb.stage = 5)
    (hfence : s.sb.supply ≠ .fence) (hf : s.sb.format = some f) :
    exec (formatEnd f.kind) s = .next (s.formatDone f) := by
  have hstage : s.inStage 5 = true := by simp [State.inStage, hp, hst]
  have hruns : s.formatRuns f.kind = some f := by
    rw [State.formatRuns, hf]
    exact if_pos ⟨rfl, hstage, hfence⟩
  have hexec : exec (formatEnd f.kind) s = .next (match s.formatRuns f.kind with
      | some f => s.formatDone f
      | none => s) := by
    cases f.kind <;> rfl
  rw [hexec, hruns]

end Sys2Proof.Machine

namespace Sys2Proof.Proofs

open Sys2Proof.Safety Sys2Proof.Machine

/-- R46, R47: after a format the header of every half is EMPTY, and its data bytes are as before. -/
theorem formatted_halves {s : State} (hm : Memory.wf s.keep) (k : FormatKind) {n : Nat} (b : Bool) (h1 : 1 ≤ n)
    (hn : n ≤ s.slotCount) :
    let t := closed k s.sp.profile (written k s.sp.profile s.keep)
    Memory.readAll t (halfAddr s.layout n b) 32 = (formatHeader n).bytes
      ∧ ∀ i < s.slotSize n, Memory.read t (halfData s.layout n b + i) = Memory.read s.keep (halfData s.layout n b + i) := by
  intro t
  have hl := s.layout_legal
  have harea := (half_bounds hl h1 hn b).1
  refine ⟨readAll_eq (HeaderFields.length_bytes _) fun i hi => ?_, fun i hi => ?_⟩
  · obtain ⟨m', hm', -, hread⟩ := read_formatted_area (k := k) (p := s.sp.profile) hm
      (a := halfAddr s.layout n b + i) (harea.trans (Nat.le_add_right _ _))
    have hin : inHeader s.layout n b (halfAddr s.layout n b + i) := ⟨Nat.le_add_right _ _, Nat.add_lt_add_left hi _⟩
    have hheader := read_headers hl hm' (le_refl _) h1 hn hin
    rw [Nat.add_sub_cancel_left] at hheader
    exact hread.trans hheader
  · have hdata : halfData s.layout n b = halfAddr s.layout n b + 32 := rfl
    obtain ⟨m', hm', hsame, hread⟩ := read_formatted_area (k := k) (p := s.sp.profile) hm
      (a := halfData s.layout n b + i) (by rw [hdata]; omega)
    have hsize : s.slotSize n = s.layout.getD (n - 1) 0 := rfl
    have hhalf : inHalf s.layout n b (halfData s.layout n b + i) := by
      rw [inHalf, hdata]
      omega
    refine hread.trans ((read_headers_ne hl hm' (le_refl _) fun m c hm1 hmn hin => ?_).trans hsame)
    obtain ⟨rfl, rfl⟩ := header_unique h1 hn hm1 hmn hhalf hin
    rw [inHeader, hdata] at hin
    omega

/-- Settles O51: all the writes of a format fit its millisecond, and what each leaves stands where no later one goes. -/
theorem formatsEnd : Obligations.FormatsEnd := by
  unfold Obligations.FormatsEnd
  intro kind s hp hst hfence hop hl ha hm hf c
  obtain ⟨sp, sc, sb, se, ru, attn, hdone, hformat, hpower⟩ := State.formatDone_eq hp hf hop hfence hl ha
  obtain ⟨hcode, hlayout⟩ := recorded_identity fun i hi => read_formatted_identity (k := kind) (p := s.sp.profile) hm hi
  have hc : c = formatEnd kind := by cases kind <;> rfl
  have hexec := (exec_formatEnd_eq hp hst hfence hf).trans (congrArg Host.Outcome.next hdone)
  rw [← hc] at hexec
  have hhalves := fun n b h1 hn => formatted_halves (n := n) hm kind b h1 hn
  have hfull : kind = .full → Memory.readAll (closed kind s.sp.profile (written kind s.sp.profile s.keep)) 0 16
      = signature := by
    rintro rfl
    exact readAll_formatted_full hm
  have hslots : kind = .slots → Memory.readAll (closed kind s.sp.profile (written kind s.sp.profile s.keep)) 0 16
      = Memory.readAll s.keep 0 16 := by
    rintro rfl
    exact readAll_formatted_slots hm
  generalize closed kind s.sp.profile (written kind s.sp.profile s.keep) = keep at hexec hcode hlayout hhalves hfull hslots
  refine ⟨_, hexec, rfl, hformat, rfl, hpower, hcode, hlayout, hhalves, ?_, ?_⟩
  · show Member.keepFormatted.isIn (s.raiseFormatted kind).au.latch = true
    rw [raiseFormatted_au, Member.isIn_or, Member.isIn_set]
    simp
  · cases kind with
    | full =>
      refine ⟨hfull rfl, ?_, ?_, rfl⟩
      · show (s.raiseFormatted .full).au.details.keepFormatted = _
        rw [raiseFormatted_au]
        exact ite_self _
      · show formattedClock .full (s.cu.count s.now 8000) = _
        rw [formattedClock, s.cu.count_running]
    | slots =>
      refine ⟨hslots rfl, rfl, rfl, ?_⟩
      show (s.raiseFormatted .slots).au.details.keepFormatted = _
      rw [raiseFormatted_au]

end Sys2Proof.Proofs
end

section
/-! SUPPORT. A firing pass (R103 to R107): what each entry finds in it, what it leaves of the table and the list, and
the actions it hands over. -/

set_option Elab.async false

namespace Sys2Proof.Machine

open Sys2Proof.Safety

/-! ### The days of an EVERY entry (R103) -/

section Every

variable {p f gOld g : Nat}

/-- R103: the days of a period and phase in a day interval. -/
def everyDays (p f gOld g : Nat) : List Nat :=
  (List.range (g + 1)).filter fun d => decide (gOld < d) && (d % p == f)

/-- R103: whole periods since the phase, and days since the last, from one day to the next. -/
theorem every_next (hf : f < p) (g : Nat) :
    (((g + 1 : Nat) : Int) - f) / p = ((g : Int) - f) / p + (if (g + 1) % p = f then 1 else 0)
      ∧ (((g + 1 : Nat) : Int) - f) % p = if (g + 1) % p = f then 0 else ((g : Int) - f) % p + 1 := by
  have hp : (0 : Int) < p := by omega
  have hmeets : (g + 1) % p = f ↔ (((g + 1 : Nat) : Int) - f) % p = 0 := by
    rw [← Int.emod_eq_emod_iff_emod_sub_eq_zero, Int.emod_eq_of_lt (a := (f : Int)) (by omega) (by omega)]
    omega
  have hsplit := Int.emod_add_mul_ediv ((g : Int) - f) p
  have hlow := Int.emod_nonneg ((g : Int) - f) (by omega : (p : Int) ≠ 0)
  have hhigh := Int.emod_lt_of_pos ((g : Int) - f) hp
  have hnext : ((g + 1 : Nat) : Int) - f = ((g : Int) - f) % p + 1 + p * (((g : Int) - f) / p) := by
    push_cast
    omega
  rw [hnext, Int.add_mul_emod_self_left] at hmeets
  rw [hnext, Int.add_mul_emod_self_left, Int.add_mul_ediv_left _ _ (by omega)]
  by_cases hlast : ((g : Int) - f) % p + 1 = p
  · have hmod : (((g : Int) - f) % p + 1) % p = 0 := by rw [hlast, Int.emod_self]
    rw [if_pos (hmeets.mpr hmod), if_pos (hmeets.mpr hmod), hmod, hlast, Int.ediv_self (by omega)]
    exact ⟨by omega, rfl⟩
  · have hlt : ((g : Int) - f) % p + 1 < p := by omega
    have hmod : (((g : Int) - f) % p + 1) % p = ((g : Int) - f) % p + 1 := Int.emod_eq_of_lt (by omega) hlt
    have hne : ¬ (g + 1) % p = f := fun h => by
      have := hmeets.mp h
      omega
    rw [if_neg hne, if_neg hne, hmod, Int.ediv_eq_zero_of_lt (by omega) hlt]
    exact ⟨by omega, rfl⟩

theorem everyDays_succ (g : Nat) : everyDays p f gOld (g + 1)
    = everyDays p f gOld g ++ if gOld < g + 1 ∧ (g + 1) % p = f then [g + 1] else [] := by
  rw [everyDays, List.range_succ, List.filter_append, List.filter_singleton]
  congr 1
  by_cases h : gOld < g + 1 ∧ (g + 1) % p = f <;> simp [h]

theorem everyDays_self (g : Nat) : everyDays p f g g = [] := by
  rw [everyDays, List.filter_eq_nil_iff]
  intro d hd
  rw [List.mem_range] at hd
  simp only [Bool.and_eq_true, decide_eq_true_eq]
  omega

/-- R103: the count of the days, and the days since the last of them. -/
theorem every_days (hf : f < p) (hg : gOld ≤ g) :
    ((everyDays p f gOld g).length : Int) = ((g : Int) - f) / p - ((gOld : Int) - f) / p
      ∧ (everyDays p f gOld g).length ≤ g - gOld
      ∧ (everyDays p f gOld g ≠ [] → (everyDays p f gOld g).getLastD 0 ≤ g
        ∧ ((g : Int) - f) % p = (g : Int) - (everyDays p f gOld g).getLastD 0) := by
  induction g, hg using Nat.le_induction with
  | base => simp [everyDays_self]
  | succ g hg ih =>
    obtain ⟨hcount, hle, hlast⟩ := ih
    obtain ⟨hdiv, hmod⟩ := every_next hf g
    rw [everyDays_succ, hdiv, hmod]
    by_cases hmeets : (g + 1) % p = f
    · rw [if_pos ⟨by omega, hmeets⟩, if_pos hmeets, if_pos hmeets, List.length_append, List.length_singleton]
      refine ⟨by push_cast; omega, by omega, fun _ => ?_⟩
      rw [List.getLastD_concat]
      exact ⟨le_refl _, (sub_self _).symm⟩
    · rw [if_neg fun h => hmeets h.2, if_neg hmeets, if_neg hmeets, List.append_nil]
      refine ⟨by omega, by omega, fun hne => ?_⟩
      obtain ⟨hend, hdays⟩ := hlast hne
      exact ⟨by omega, by push_cast; omega⟩

end Every

/-! ### One entry of a pass (R103 to R106) -/

section Pass

variable (gOld g now : Nat)

/-- R103, R105: an entry that fires in a pass and is not DUE. -/
def fires (e : Entry) : Bool := !(reachedDays gOld g now e).isEmpty && !e.due

/-- R107: the actions of entries that append their records in turn, from place `n` of the list on. -/
def actionsFrom : Nat → List Entry → List (Nat × Action)
  | _, [] => []
  | n, e :: es => (match e.action with
      | some a => if lateIn gOld g now e = 0 then [(n, a)] else []
      | none => []) ++ actionsFrom (n + 1) es

variable {gOld g now}

/-- R103, R104: what an entry's target finds is told by the days it is reached on. -/
theorem firing_eq (hg : gOld ≤ g) (hmax : g ≤ 65535) {e : Entry} (hk : periodOk e.kind = true) :
    e.kind.firing gOld g now = if (reachedDays gOld g now e).isEmpty then none
      else some ⟨(reachedDays gOld g now e).length, lateIn gOld g now e,
        if staysListed e then (reachedDays gOld g now e).getLastD 0 else 0⟩ := by
  unfold lateIn staysListed reachedDays EntryKind.firing
  cases hkind : e.kind with
  | onDay d =>
    simp only
    by_cases h : gOld < d ∧ d ≤ g
    · rw [if_pos h, if_pos h]
      rfl
    · rw [if_neg h, if_neg h]
      rfl
  | onClock c =>
    simp only
    by_cases h : c ≤ now
    · rw [if_pos h, if_pos h]
      rfl
    · rw [if_neg h, if_neg h]
      rfl
  | every p f =>
    rw [hkind] at hk
    have hf : f < p := (of_decide_eq_true hk).2.2
    obtain ⟨hcount, hle, hlast⟩ := every_days hf hg
    have hn : everyCount p f gOld g = (everyDays p f gOld g).length := by
      rw [everyCount, ← hcount, Int.toNat_natCast]
    show (if 0 < everyCount p f gOld g then
        some (⟨min 65535 (everyCount p f gOld g), everyLate p f g, g - everyLate p f g⟩ : Firing) else none)
      = if (everyDays p f gOld g).isEmpty then none
        else some ⟨(everyDays p f gOld g).length, g - (everyDays p f gOld g).getLastD 0,
          (everyDays p f gOld g).getLastD 0⟩
    rw [hn]
    by_cases hnone : everyDays p f gOld g = []
    · rw [hnone]
      rfl
    · obtain ⟨hend, hdays⟩ := hlast hnone
      have hlate : everyLate p f g = g - (everyDays p f gOld g).getLastD 0 := by
        rw [everyLate, hdays]
        omega
      have hisEmpty : ¬ (everyDays p f gOld g).isEmpty = true := fun h => hnone (List.isEmpty_iff.mp h)
      rw [if_pos (List.length_pos_iff.mpr hnone), if_neg hisEmpty, hlate, Nat.sub_sub_self hend,
        Nat.min_eq_right (by omega)]

theorem actionsFrom_append (n : Nat) (xs : List Entry) (e : Entry) : actionsFrom gOld g now n (xs ++ [e])
    = actionsFrom gOld g now n xs ++ actionsFrom gOld g now (n + xs.length) [e] := by
  induction xs generalizing n with
  | nil => rfl
  | cons x xs ih =>
    rw [List.cons_append, actionsFrom, actionsFrom, ih, List.append_assoc, List.length_cons, Nat.add_right_comm,
      Nat.add_assoc]

/-- R105: an entry that fires and is not DUE is listed while there is room for the ones before it and for it. -/
theorem listed_iff {s : State} {pre rest : List Entry} {e : Entry} (htable : s.dr.table = pre ++ e :: rest)
    (hids : s.dr.table.Pairwise fun a b => a.id < b.id) (he : fires gOld g now e = true) :
    ((listedIn gOld g now s).any fun x => x.id == e.id) = true
      ↔ (pre.filter (fires gOld g now)).length < 16 - s.dr.fired.length := by
  have hlisted : listedIn gOld g now s
      = (pre.filter (fires gOld g now) ++ e :: rest.filter (fires gOld g now)).take (16 - s.dr.fired.length) := by
    show (s.dr.table.filter (fires gOld g now)).take _ = _
    rw [htable, List.filter_append, List.filter_cons_of_pos he]
  rw [htable] at hids
  have hbefore : ∀ x ∈ pre, x.id ≠ e.id := fun x hx =>
    Nat.ne_of_lt ((List.pairwise_append.mp hids).2.2 x hx e (List.mem_cons_self ..))
  rw [hlisted, List.any_eq_true]
  constructor
  · rintro ⟨x, hx, hxe⟩
    by_contra hroom
    rw [List.take_append_of_le_length (Nat.not_lt.mp hroom)] at hx
    exact hbefore x (List.mem_filter.mp (List.mem_of_mem_take hx)).1 (beq_iff_eq.mp hxe)
  · intro hroom
    refine ⟨e, ?_, by simp⟩
    rw [List.take_append, List.mem_append]
    refine .inr ?_
    obtain ⟨k, hk⟩ : ∃ k, 16 - s.dr.fired.length - (pre.filter (fires gOld g now)).length = k + 1 :=
      ⟨_, (Nat.succ_pred_eq_of_pos (by omega)).symm⟩
    rw [hk, List.take_succ_cons]
    exact List.mem_cons_self ..

/-- R103 to R107: what a pass has produced when the entries of `pre` have been visited. -/
structure PassAt (gOld g now : Nat) (s : State) (pre : List Entry) (o : PassOut) : Prop where
  table : o.table = pre.filterMap (entryAfter gOld g now s)
  fired : o.fired = s.dr.fired
    ++ ((pre.filter (fires gOld g now)).take (16 - s.dr.fired.length)).map (firedIn gOld g now)
  actions : o.actions = actionsFrom gOld g now s.dr.fired.length
    ((pre.filter (fires gOld g now)).take (16 - s.dr.fired.length))

/-- R106: the record of a firing. -/
theorem record_eq (e : Entry) : e.record g (reachedDays gOld g now e).length (lateIn gOld g now e)
    = firedIn gOld g now e := by
  unfold Entry.record firedIn EntryKind.fired
  cases e.kind <;> rfl

theorem staysListed_eq (e : Entry) : e.kind.stays = staysListed e := by
  unfold EntryKind.stays staysListed
  cases e.kind <;> rfl

/-- What a visit adds to the pass, by what it does with the entry. -/
theorem PassAt.step {s : State} {pre : List Entry} {o o' : PassOut} {e : Entry} (h : PassAt gOld g now s pre o)
    (htable : o'.table = o.table ++ (entryAfter gOld g now s e).toList)
    (hlisted : if fires gOld g now e = true ∧ (pre.filter (fires gOld g now)).length < 16 - s.dr.fired.length then
        o'.fired = o.fired ++ [firedIn gOld g now e]
          ∧ o'.actions = o.actions ++ actionsFrom gOld g now o.fired.length [e]
      else o'.fired = o.fired ∧ o'.actions = o.actions) : PassAt gOld g now s (pre ++ [e]) o' := by
  obtain ⟨ht, hf, ha⟩ := h
  have htab : o'.table = (pre ++ [e]).filterMap (entryAfter gOld g now s) := by
    rw [htable, ht, List.filterMap_append]
    cases hafter : entryAfter gOld g now s e <;> simp [hafter]
  generalize hroom : 16 - s.dr.fired.length = room at *
  cases hfires : fires gOld g now e with
  | false =>
    rw [hfires, if_neg (by simp)] at hlisted
    obtain ⟨hfired, hactions⟩ := hlisted
    have hsame : (pre ++ [e]).filter (fires gOld g now) = pre.filter (fires gOld g now) := by
      rw [List.filter_append, List.filter_cons_of_neg (by simp [hfires]), List.filter_nil, List.append_nil]
    exact ⟨htab, by rw [hfired, hf, hroom, hsame], by rw [hactions, ha, hroom, hsame]⟩
  | true =>
    have hmore : (pre ++ [e]).filter (fires gOld g now) = pre.filter (fires gOld g now) ++ [e] := by
      rw [List.filter_append, List.filter_cons_of_pos hfires, List.filter_nil]
    by_cases hspace : (pre.filter (fires gOld g now)).length < room
    · rw [if_pos ⟨hfires, hspace⟩] at hlisted
      obtain ⟨hfired, hactions⟩ := hlisted
      have htake : (pre.filter (fires gOld g now) ++ [e]).take room = pre.filter (fires gOld g now) ++ [e] :=
        List.take_of_length_le (by rw [List.length_append, List.length_singleton]; omega)
      rw [List.take_of_length_le hspace.le] at hf ha
      refine ⟨htab, ?_, ?_⟩
      · rw [hfired, hf, hroom, hmore, htake, List.map_append, List.append_assoc]
        rfl
      · rw [hactions, ha, hf, hroom, hmore, htake, actionsFrom_append, List.length_append, List.length_map]
    · rw [if_neg fun h => hspace h.2] at hlisted
      obtain ⟨hfired, hactions⟩ := hlisted
      have htake : (pre.filter (fires gOld g now) ++ [e]).take room = (pre.filter (fires gOld g now)).take room :=
        List.take_append_of_le_length (Nat.not_lt.mp hspace)
      exact ⟨htab, by rw [hfired, hf, hroom, hmore, htake], by rw [hactions, ha, hroom, hmore, htake]⟩

/-- R103: a DUE entry that fires gathers, or is passed over. -/
theorem entryAfter_due {s : State} {e : Entry} (hdays : ¬ (reachedDays gOld g now e).isEmpty) (hdue : e.due = true) :
    entryAfter gOld g now s e = some (e.gather ⟨(reachedDays gOld g now e).length, lateIn gOld g now e,
      if staysListed e then (reachedDays gOld g now e).getLastD 0 else 0⟩) := by
  unfold entryAfter
  simp only
  rw [if_neg hdays, if_pos hdue]
  unfold Entry.gather staysListed
  cases e.kind <;> rfl

/-- R105: an entry that is listed stays if it is an EVERY entry, and goes otherwise. -/
theorem entryAfter_listed {s : State} {e : Entry} (hdays : ¬ (reachedDays gOld g now e).isEmpty) (hdue : e.due = false)
    (h : ((listedIn gOld g now s).any fun x => x.id == e.id) = true) :
    entryAfter gOld g now s e = if e.kind.stays then some e else none := by
  simp only [entryAfter, hdays, hdue, h, staysListed_eq, if_true, Bool.false_eq_true, if_false]

/-- R105: an entry that fires with no room becomes DUE. -/
theorem entryAfter_unlisted {s : State} {e : Entry} (hdays : ¬ (reachedDays gOld g now e).isEmpty)
    (hdue : e.due = false) (h : ¬ ((listedIn gOld g now s).any fun x => x.id == e.id) = true) :
    entryAfter gOld g now s e = some (e.makeDue ⟨(reachedDays gOld g now e).length, lateIn gOld g now e,
      if staysListed e then (reachedDays gOld g now e).getLastD 0 else 0⟩) := by
  unfold entryAfter
  simp only
  rw [if_neg hdays, if_neg (by rw [hdue]; nofun), if_neg h]
  unfold Entry.makeDue
  rw [staysListed_eq]
  cases staysListed e <;> rfl

/-- R103 to R107: one entry of a pass. -/
theorem PassAt.visit {s : State} {pre rest : List Entry} {o : PassOut} {e : Entry} (hg : gOld ≤ g) (hmax : g ≤ 65535)
    (htable : s.dr.table = pre ++ e :: rest) (hids : s.dr.table.Pairwise fun a b => a.id < b.id)
    (hk : periodOk e.kind = true) (hlen : s.dr.fired.length ≤ 16) (h : PassAt gOld g now s pre o) :
    PassAt gOld g now s (pre ++ [e]) (o.visit gOld g now e) := by
  have hfiring := firing_eq (now := now) hg hmax hk
  have hroom : o.fired.length < 16 ↔ (pre.filter (fires gOld g now)).length < 16 - s.dr.fired.length := by
    rw [h.fired, List.length_append, List.length_map, List.length_take]
    omega
  unfold PassOut.visit
  by_cases hdays : (reachedDays gOld g now e).isEmpty
  · have hno : ¬ (fires gOld g now e = true ∧ (pre.filter (fires gOld g now)).length < 16 - s.dr.fired.length) := by
      simp [fires, hdays]
    rw [hfiring, if_pos hdays]
    refine h.step ?_ (by rw [if_neg hno]; exact ⟨rfl, rfl⟩)
    simp [entryAfter, hdays]
  rw [hfiring, if_neg hdays]
  simp only
  cases hdue : e.due with
  | true =>
    have hno : ¬ (fires gOld g now e = true ∧ (pre.filter (fires gOld g now)).length < 16 - s.dr.fired.length) := by
      simp [fires, hdue]
    rw [if_pos rfl]
    refine h.step ?_ (by rw [if_neg hno]; exact ⟨rfl, rfl⟩)
    rw [entryAfter_due hdays hdue]
    rfl
  | false =>
    have hfires : fires gOld g now e = true := by simp [fires, hdays, hdue]
    have hany := (listed_iff htable hids hfires).trans hroom.symm
    rw [if_neg nofun]
    by_cases hspace : o.fired.length < 16
    · rw [if_pos hspace]
      refine h.step ?_ ?_
      · rw [entryAfter_listed hdays hdue (hany.mpr hspace)]
        cases e.kind.stays with
        | true => rfl
        | false => exact (List.append_nil _).symm
      · rw [if_pos ⟨hfires, hroom.mp hspace⟩, record_eq]
        refine ⟨rfl, ?_⟩
        rw [actionsFrom, actionsFrom, List.append_nil]
        cases e.action with
        | none => exact (List.append_nil _).symm
        | some a =>
          simp only
          split
          · rfl
          · exact (List.append_nil _).symm
    · rw [if_neg hspace]
      refine h.step ?_ (by rw [if_neg fun hc => hspace (hroom.mpr hc.2)]; exact ⟨rfl, rfl⟩)
      rw [entryAfter_unlisted hdays hdue fun hc => hspace (hany.mp hc)]
      rfl

/-- R103 to R107: what a pass over the whole table produces. -/
theorem firingPass_at {s : State} (hg : gOld ≤ g) (hmax : g ≤ 65535)
    (hids : s.dr.table.Pairwise fun a b => a.id < b.id) (hk : ∀ e ∈ s.dr.table, periodOk e.kind = true)
    (hlen : s.dr.fired.length ≤ 16) :
    PassAt gOld g now s s.dr.table (firingPass gOld g now s.dr.table s.dr.fired) := by
  have hfrom : ∀ rest pre o, s.dr.table = pre ++ rest → PassAt gOld g now s pre o →
      PassAt gOld g now s s.dr.table (rest.foldl (PassOut.visit gOld g now) o) := by
    intro rest
    induction rest with
    | nil =>
      intro pre o htable h
      rw [htable, List.append_nil]
      exact h
    | cons e rest ih =>
      intro pre o htable h
      have hmem : e ∈ s.dr.table := by rw [htable]; simp
      exact ih (pre ++ [e]) _ (by rw [htable, List.append_assoc]; rfl) (h.visit hg hmax htable hids (hk e hmem) hlen)
  refine hfrom s.dr.table [] _ rfl ⟨rfl, ?_, ?_⟩
  · simp
  · simp [actionsFrom]

end Pass

end Sys2Proof.Machine
end

section
/-! SUPPORT. A firing pass with its actions (R103 to R107), and the reckonings that run it (R91 to R96, R145). -/

set_option Elab.async false

namespace Sys2Proof.Machine

open Sys2Proof.Safety

/-! ### Actions (R107, R135) -/

/-- `s` with another fired list. -/
def State.withFired (s : State) (fired : List Fired) : State := { s with dr := { s.dr with fired := fired } }

theorem LayerWork.withFired {s t : State} (h : LayerWork s t) (fired : List Fired) :
    LayerWork (s.withFired fired) (t.withFired fired) := by
  refine ⟨?_, h.others⟩
  obtain ⟨ls, ca, ll, ld, l, p, rfl⟩ := h.rest
  exact ⟨ls, ca, ll, ld, l, p, rfl⟩

/-- A fired record with its action-run flag clear. -/
def Fired.unrun (r : Fired) : Fired := { r with ran := false }

/-- R107: what actions leave of the fired list: all but action-run flags, and the records before place `n`. -/
structure RunsFrom (n : Nat) (before after : List Fired) : Prop where
  unrun : after.map Fired.unrun = before.map Fired.unrun
  first : after.take n = before.take n

theorem RunsFrom.trans {n : Nat} {a b c : List Fired} (h : RunsFrom n a b) (h' : RunsFrom n b c) : RunsFrom n a c :=
  ⟨h'.unrun.trans h.unrun, h'.first.trans h.first⟩

theorem RunsFrom.modify {n i : Nat} (hi : n ≤ i) (l : List Fired) :
    RunsFrom n l (l.modify i fun r => { r with ran := true }) := by
  refine ⟨List.ext_getElem? fun j => ?_, List.ext_getElem? fun j => ?_⟩
  · rw [List.getElem?_map, List.getElem?_map, List.getElem?_modify]
    cases l[j]? with
    | none => rfl
    | some r => by_cases hj : i = j <;> simp [hj, Fired.unrun]
  · rw [List.getElem?_take, List.getElem?_take, List.getElem?_modify]
    by_cases hj : j < n
    · have hij : ¬ i = j := by omega
      cases l[j]? <;> simp [hij]
    · rw [if_neg hj, if_neg hj]

theorem LayerWork.dr {s t : State} (h : LayerWork s t) : t.dr = s.dr := by
  obtain ⟨ls, ca, ll, ld, l, p, rfl⟩ := h.rest
  rfl

theorem State.runAction_of_accepted {s : State} {x : Nat × Action}
    (h : s.startRefused x.2.layer x.2.pattern x.2.priority = none) :
    s.runAction x = (s.startLayer x.2.layer x.2.pattern x.2.priority x.2.scale).withFired
      (s.dr.fired.modify x.1 fun r => { r with ran := true }) := by
  have hdr := (LayerWork.startLayer s x.2.layer x.2.pattern x.2.priority x.2.scale).dr
  rw [← hdr, State.runAction, h]
  rfl

theorem State.runAction_of_refused {s : State} {x : Nat × Action} {c : Code}
    (h : s.startRefused x.2.layer x.2.pattern x.2.priority = some c) : s.runAction x = s := by
  rw [State.runAction, h]

theorem State.runAction_work (s : State) {x : Nat × Action} {n : Nat} (hn : n ≤ x.1) :
    ∃ fired, LayerWork (s.withFired fired) (s.runAction x) ∧ RunsFrom n s.dr.fired fired := by
  cases h : s.startRefused x.2.layer x.2.pattern x.2.priority with
  | some c =>
    rw [State.runAction_of_refused h]
    exact ⟨s.dr.fired, LayerWork.refl s, ⟨rfl, rfl⟩⟩
  | none =>
    rw [State.runAction_of_accepted h]
    exact ⟨_, (LayerWork.startLayer s _ _ _ _).withFired _, RunsFrom.modify hn _⟩

theorem State.runActions_work {n : Nat} (xs : List (Nat × Action)) (hxs : ∀ x ∈ xs, n ≤ x.1) (s : State) :
    ∃ fired, LayerWork (s.withFired fired) (xs.foldl State.runAction s) ∧ RunsFrom n s.dr.fired fired := by
  induction xs generalizing s with
  | nil => exact ⟨s.dr.fired, LayerWork.refl s, ⟨rfl, rfl⟩⟩
  | cons x xs ih =>
    obtain ⟨f1, h1, hr1⟩ := s.runAction_work (hxs x List.mem_cons_self)
    obtain ⟨f2, h2, hr2⟩ := ih (fun y hy => hxs y (List.mem_cons_of_mem _ hy)) (s.runAction x)
    rw [h1.dr] at hr2
    exact ⟨f2, (h1.withFired f2).trans h2, hr1.trans hr2⟩

section Pass

variable {gOld g now : Nat}

theorem actionsFrom_places {n : Nat} (l : List Entry) : ∀ x ∈ actionsFrom gOld g now n l, n ≤ x.1 := by
  induction l generalizing n with
  | nil => exact nofun
  | cons e l ih =>
    intro x hx
    rw [actionsFrom, List.mem_append] at hx
    rcases hx with hx | hx
    · split at hx
      · split at hx
        · exact (congrArg Prod.fst (List.mem_singleton.mp hx)).ge
        · cases hx
      · cases hx
    · exact Nat.le_of_succ_le (ih x hx)

/-- R107: an entry that hands its action over when it is listed. -/
def acts (gOld g now : Nat) (e : Entry) : Bool := e.action.isSome && (lateIn gOld g now e == 0)

/-- R107: what one listed entry hands over. -/
theorem actionsFrom_cons (n : Nat) (e : Entry) (l : List Entry) : actionsFrom gOld g now n (e :: l)
    = (if acts gOld g now e then (e.action.map fun a => (n, a)).toList else [])
      ++ actionsFrom gOld g now (n + 1) l := by
  rw [actionsFrom, acts]
  congr 1
  cases e.action with
  | none => rfl
  | some a => by_cases h : lateIn gOld g now e = 0 <;> simp [h]

theorem actionsFrom_of_none (n : Nat) {l : List Entry} (h : l.filter (acts gOld g now) = []) :
    actionsFrom gOld g now n l = [] := by
  induction l generalizing n with
  | nil => rfl
  | cons e l ih =>
    have hno := List.filter_eq_nil_iff.mp h
    rw [actionsFrom_cons, if_neg (hno e List.mem_cons_self),
      ih _ (List.filter_eq_nil_iff.mpr fun x hx => hno x (List.mem_cons_of_mem _ hx))]
    rfl

/-- R107: one entry that hands an action over, at the place of its record. -/
theorem actionsFrom_of_one (n : Nat) {l : List Entry} {e : Entry} {a : Action}
    (h : l.filter (acts gOld g now) = [e]) (ha : e.action = some a) :
    ∃ i, l[i]? = some e ∧ actionsFrom gOld g now n l = [(n + i, a)] := by
  induction l generalizing n with
  | nil => cases h
  | cons x l ih =>
    rw [actionsFrom_cons]
    by_cases hx : acts gOld g now x = true
    · rw [List.filter_cons_of_pos hx, List.cons.injEq] at h
      obtain ⟨rfl, hnone⟩ := h
      refine ⟨0, rfl, ?_⟩
      rw [if_pos hx, actionsFrom_of_none _ hnone, ha]
      rfl
    · rw [List.filter_cons_of_neg hx] at h
      obtain ⟨i, hi, hacts⟩ := ih (n + 1) h
      exact ⟨i + 1, hi, by rw [if_neg hx, hacts, List.nil_append, Nat.add_right_comm, Nat.add_assoc]⟩

end Pass

/-! ### A pass with its actions -/

/-- R98, R105: what a pass rests on of the day table and the fired list. -/
structure TableOk (d : DayReckoner) : Prop where
  ids : d.table.Pairwise fun a b => a.id < b.id
  periods : ∀ e ∈ d.table, periodOk e.kind = true
  room : d.fired.length ≤ 16

theorem tableOk_of_daysOk {s : State} (h : DaysOk s) : TableOk s.dr := by
  obtain ⟨-, -, -, -, -, hids, -, hentries, hroom, -⟩ := h
  exact ⟨hids, fun e he => (hentries e he).2, hroom⟩

/-- The day table and the fired list of `s` after a pass, no action run yet. -/
def State.passed (s : State) (gOld g : Nat) : State :=
  let o := firingPass gOld g s.cu.seconds s.dr.table s.dr.fired
  { s with dr := { s.dr with table := o.table, fired := o.fired } }

section Fire

variable {s : State} {gOld g : Nat}

theorem State.fire_eq : s.fire gOld g = if s.sb.power = .active then
    (firingPass gOld g s.cu.seconds s.dr.table s.dr.fired).actions.foldl State.runAction (s.passed gOld g)
  else s.passed gOld g := rfl

/-- R107: what a pass leaves of a state, whatever it is. -/
theorem State.fire_work (s : State) (gOld g : Nat) :
    ∃ fired, LayerWork ((s.passed gOld g).withFired fired) (s.fire gOld g) := by
  rw [State.fire_eq]
  split
  · obtain ⟨fired, h, -⟩ := State.runActions_work (n := 0)
      (firingPass gOld g s.cu.seconds s.dr.table s.dr.fired).actions (fun x _ => Nat.zero_le x.1) (s.passed gOld g)
    exact ⟨fired, h⟩
  · exact ⟨(s.passed gOld g).dr.fired, LayerWork.refl _⟩

theorem State.fire_rest (s : State) (gOld g : Nat) : ∃ table fired ru sp au, s.fire gOld g = { s with
    dr := { s.dr with table := table, fired := fired }, ru := ru, sp := sp, au := au } := by
  obtain ⟨fired, hwork⟩ := s.fire_work gOld g
  obtain ⟨ls, ca, ll, ld, l, p, h⟩ := hwork.rest
  exact ⟨_, _, _, _, _, h⟩

theorem firedIn_unrun (now : Nat) (l : List Entry) :
    (l.map (firedIn gOld g now)).map Fired.unrun = l.map (firedIn gOld g now) := by
  rw [List.map_map]
  rfl

/-- R103 to R106: a pass and its actions make the day table and the fired list that are asked for. -/
theorem State.fire_pass (hok : TableOk s.dr) (hg : gOld ≤ g) (hmax : g ≤ 65535) :
    FiringPass gOld g s.cu.seconds s (s.fire gOld g) := by
  have hat : PassAt gOld g s.cu.seconds s s.dr.table _ := firingPass_at hg hmax hok.ids hok.periods hok.room
  have hfired : (s.passed gOld g).dr.fired
      = s.dr.fired ++ (listedIn gOld g s.cu.seconds s).map (firedIn gOld g s.cu.seconds) :=
    hat.fired
  obtain ⟨fired, hdr, hruns⟩ : ∃ fired, (s.fire gOld g).dr = { (s.passed gOld g).dr with fired := fired }
      ∧ RunsFrom s.dr.fired.length (s.passed gOld g).dr.fired fired := by
    rw [State.fire_eq]
    split
    · have hplaces := actionsFrom_places (gOld := gOld) (g := g) (now := s.cu.seconds) (n := s.dr.fired.length)
        (listedIn gOld g s.cu.seconds s)
      obtain ⟨fired, h, hruns⟩ := State.runActions_work _ (hat.actions ▸ hplaces) (s.passed gOld g)
      exact ⟨fired, h.dr, hruns⟩
    · exact ⟨_, rfl, ⟨rfl, rfl⟩⟩
  rw [FiringPass, hdr]
  refine ⟨hat.table, ?_, ?_⟩
  · have hunrun := hruns.unrun
    rw [hfired, List.map_append, firedIn_unrun] at hunrun
    exact hunrun
  · rw [hruns.first, hfired, List.take_left']
    rfl

/-- R107: a pass that hands over no action. -/
theorem State.fire_still (hok : TableOk s.dr) (hg : gOld ≤ g) (hmax : g ≤ 65535)
    (h : s.sb.power ≠ .active ∨ actingIn gOld g s.cu.seconds s = []) :
    s.fire gOld g = s.passed gOld g ∧ ∀ r ∈ (s.passed gOld g).dr.fired.drop s.dr.fired.length, r.ran = false := by
  have hat : PassAt gOld g s.cu.seconds s s.dr.table _ := firingPass_at hg hmax hok.ids hok.periods hok.room
  refine ⟨?_, fun r hr => ?_⟩
  · rw [State.fire_eq]
    split
    · rename_i hp
      have hnone : (firingPass gOld g s.cu.seconds s.dr.table s.dr.fired).actions = [] := by
        rw [hat.actions]
        exact actionsFrom_of_none _ (h.resolve_left (not_not_intro hp))
      rw [hnone]
      rfl
    · rfl
  · have hfired : (s.passed gOld g).dr.fired.drop s.dr.fired.length
        = (listedIn gOld g s.cu.seconds s).map (firedIn gOld g s.cu.seconds) := by
      show (firingPass gOld g s.cu.seconds s.dr.table s.dr.fired).fired.drop _ = _
      rw [hat.fired, List.drop_left]
      rfl
    rw [hfired] at hr
    obtain ⟨e, -, rfl⟩ := List.mem_map.mp hr
    rfl

/-- R107: a pass in ACTIVE with one action. -/
theorem State.fire_one (hok : TableOk s.dr) (hg : gOld ≤ g) (hmax : g ≤ 65535) (hp : s.sb.power = .active)
    {e : Entry} {a : Action} (hone : actingIn gOld g s.cu.seconds s = [e]) (ha : e.action = some a) :
    ∃ i, (listedIn gOld g s.cu.seconds s)[i]? = some e
      ∧ s.fire gOld g = (s.passed gOld g).runAction (s.dr.fired.length + i, a) := by
  have hat : PassAt gOld g s.cu.seconds s s.dr.table _ := firingPass_at hg hmax hok.ids hok.periods hok.room
  obtain ⟨i, hi, hacts⟩ := actionsFrom_of_one s.dr.fired.length hone ha
  refine ⟨i, hi, ?_⟩
  rw [State.fire_eq, if_pos hp, hat.actions]
  show (actionsFrom gOld g s.cu.seconds s.dr.fired.length (listedIn gOld g s.cu.seconds s)).foldl _ _ = _
  rw [hacts]
  rfl

/-- R107: the records a pass with one action appends, whose action-run flag tells the entry that acted. -/
theorem ran_of_one {l : List Entry} (hids : l.Pairwise fun a b => a.id < b.id) {fired : List Fired} {i now : Nat}
    {e : Entry} (hi : l[i]? = some e) {r : Fired}
    (hr : r ∈ ((fired ++ l.map (firedIn gOld g now)).modify (fired.length + i) fun r => { r with ran := true }).drop
      fired.length) : r.ran = decide (r.id = e.id) := by
  obtain ⟨j, hj⟩ := List.mem_iff_getElem?.mp hr
  rw [List.getElem?_drop, List.getElem?_modify, List.getElem?_append_right (Nat.le_add_right ..),
    Nat.add_sub_cancel_left, List.getElem?_map] at hj
  cases hx : l[j]? with
  | none => rw [hx] at hj; cases hj
  | some x =>
    rw [hx] at hj
    obtain ⟨hil, hei⟩ := List.getElem?_eq_some_iff.mp hi
    obtain ⟨hjl, hxj⟩ := List.getElem?_eq_some_iff.mp hx
    have hids' := List.pairwise_iff_getElem.mp hids
    by_cases hij : i = j
    · subst hij
      rw [hei] at hxj
      subst hxj
      simp at hj
      subst hj
      simp [firedIn]
    · have hne : x.id ≠ e.id := by
        rw [← hei, ← hxj]
        rcases Nat.lt_or_gt_of_ne hij with hlt | hlt
        · exact (hids' i j hil hjl hlt).ne'
        · exact (hids' j i hjl hil hlt).ne
      simp [hij] at hj
      subst hj
      simp [firedIn, hne]

end Fire

/-! ### A pass that another state's day table and layers explain -/

/-- What a pass reads of two states is the same. -/
structure PassOf (s x : State) : Prop where
  table : x.dr.table = s.dr.table
  fired : x.dr.fired = s.dr.fired
  seconds : x.cu.seconds = s.cu.seconds
  power : x.sb.power = s.sb.power
  loader : SameLoader s x

/-- What a pass makes of two states is the same. -/
structure PassTo (y t : State) : Prop where
  table : t.dr.table = y.dr.table
  fired : t.dr.fired = y.dr.fired
  layers : t.ru.layers = y.ru.layers
  cache : t.ru.cache = y.ru.cache
  loadList : t.sp.loadList = y.sp.loadList

theorem PassTo.trans {x y t : State} (h : PassTo x y) (h' : PassTo y t) : PassTo x t :=
  ⟨h'.table.trans h.table, h'.fired.trans h.fired, h'.layers.trans h.layers, h'.cache.trans h.cache,
    h'.loadList.trans h.loadList⟩

namespace PassOf

variable {s x t : State} {gOld g : Nat}

theorem tableOk (h : PassOf s x) (hok : TableOk s.dr) : TableOk x.dr :=
  ⟨h.table ▸ hok.ids, h.table ▸ hok.periods, h.fired ▸ hok.room⟩

theorem listedIn (h : PassOf s x) (now : Nat) : listedIn gOld g now x = listedIn gOld g now s := by
  unfold Safety.listedIn
  rw [h.table, h.fired]

theorem entryAfter (h : PassOf s x) (now : Nat) : entryAfter gOld g now x = entryAfter gOld g now s := by
  funext e
  unfold Safety.entryAfter
  rw [h.listedIn]

/-- R103 to R106: the pass, told by the state it started from. -/
theorem firingPass (h : PassOf s x) (hok : TableOk s.dr) (hg : gOld ≤ g) (hmax : g ≤ 65535)
    (ht : PassTo (x.fire gOld g) t) : FiringPass gOld g s.cu.seconds s t := by
  have hpass := State.fire_pass (h.tableOk hok) hg hmax
  rwa [FiringPass, ← ht.table, ← ht.fired, h.table, h.fired, h.seconds, h.entryAfter, h.listedIn] at hpass

/-- R107: no action, no layer start. -/
theorem still (h : PassOf s x) (hok : TableOk s.dr) (hg : gOld ≤ g) (hmax : g ≤ 65535)
    (ht : PassTo (x.fire gOld g) t) (hno : s.sb.power ≠ .active ∨ actingIn gOld g s.cu.seconds s = []) :
    t.ru.layers = s.ru.layers ∧ ∀ r ∈ t.dr.fired.drop s.dr.fired.length, r.ran = false := by
  have hacting : actingIn gOld g x.cu.seconds x = actingIn gOld g s.cu.seconds s := by
    unfold actingIn
    rw [h.seconds, h.listedIn]
  obtain ⟨hfire, hran⟩ := State.fire_still (h.tableOk hok) hg hmax (by rwa [hacting, h.power])
  rw [ht.layers, ht.fired, hfire, ← h.fired]
  exact ⟨h.loader.layers, hran⟩

/-- R107, R135: the one action of a pass starts the layer that a RUMBLE-PLAY of its fields would. -/
theorem starts (h : PassOf s x) (hok : TableOk s.dr) (hg : gOld ≤ g) (hmax : g ≤ 65535)
    (ht : PassTo (x.fire gOld g) t) (hp : s.sb.power = .active) (hr : s.lp.pendingReset = false)
    {e : Entry} {a : Action}
    (hone : actingIn gOld g s.cu.seconds s = [e]) (ha : e.action = some a) (hpattern : a.pattern ≤ 71)
    (hlayer : a.layer ≤ 2) (hpriority : a.priority ≤ 15) (hscale : a.scale ≤ 255) :
    ∃ u, exec (.rumblePlay ⟨0, false⟩ (BitVec.ofNat 8 a.layer) (BitVec.ofNat 8 a.pattern)
        (BitVec.ofNat 8 a.priority) (BitVec.ofNat 8 a.scale)) s = .next u
      ∧ t.ru.layers = u.ru.layers ∧ t.ru.cache = u.ru.cache ∧ t.sp.loadList = u.sp.loadList
      ∧ ∀ r ∈ t.dr.fired.drop s.dr.fired.length, r.ran = decide (r.id = e.id ∧ byteAt (u.lp.held.getD []) 4 = 0) := by
  have hacting : actingIn gOld g x.cu.seconds x = [e] := by
    rw [← hone]
    unfold actingIn
    rw [h.seconds, h.listedIn]
  obtain ⟨i, hi, hfire⟩ := State.fire_one (h.tableOk hok) hg hmax (h.power.trans hp) hacting ha
  rw [h.seconds, h.listedIn] at hi
  have hpassed : (x.passed gOld g).dr.fired
      = s.dr.fired ++ (Safety.listedIn gOld g s.cu.seconds s).map (firedIn gOld g s.cu.seconds) := by
    have hat := (firingPass_at (now := x.cu.seconds) hg hmax (h.tableOk hok).ids (h.tableOk hok).periods
      (h.tableOk hok).room).fired
    rw [← h.fired, ← h.listedIn, ← h.seconds]
    exact hat
  have hids : (Safety.listedIn gOld g s.cu.seconds s).Pairwise fun a b => a.id < b.id :=
    (hok.ids.filter _).sublist (List.take_sublist _ _)
  have hload : SameLoader s (x.passed gOld g) := ⟨h.loader.layers, h.loader.host, h.loader.cache, h.loader.port⟩
  obtain ⟨u, hu, hplay⟩ := rumblePlay_active hp hr hlayer hpattern hpriority hscale
  refine ⟨u, hu, ?_⟩
  rw [ht.layers, ht.cache, ht.loadList, ht.fired, hfire]
  cases hc : s.startRefused a.layer a.pattern a.priority with
  | some c =>
    rw [hc] at hplay
    obtain ⟨hlayers, hcache, hlist, hbyte⟩ := hplay
    rw [State.runAction_of_refused ((hload.startRefused ..).trans hc)]
    refine ⟨hload.layers.trans hlayers.symm, hload.cache.trans hcache.symm,
      (congrArg StorePort.loadList hload.port).trans hlist.symm, fun r hmem => ?_⟩
    rw [hpassed, List.drop_left] at hmem
    obtain ⟨e', -, rfl⟩ := List.mem_map.mp hmem
    rw [decide_eq_false fun hcode => hbyte hcode.2]
    rfl
  | none =>
    rw [hc] at hplay
    obtain ⟨hlayers, hcache, hlist, hbyte⟩ := hplay
    have hstart := hload.startLayer a.layer a.pattern a.priority a.scale
    rw [State.runAction_of_accepted ((hload.startRefused ..).trans hc)]
    refine ⟨hstart.layers.trans hlayers.symm, hstart.cache.trans hcache.symm,
      (congrArg StorePort.loadList hstart.port).trans hlist.symm, fun r hmem => ?_⟩
    have hran : r.ran = decide (r.id = e.id) := by
      refine ran_of_one (gOld := gOld) (g := g) (now := s.cu.seconds) (fired := s.dr.fired) hids hi ?_
      rw [← hpassed, ← h.fired]
      rwa [← h.fired] at hmem
    rw [hran, hbyte]
    simp

end PassOf

/-! ### The arithmetic of a reckoning (R91 to R94) -/

/-- R92, R94: nothing is credited by a restart or with no day to reckon. -/
theorem reckon_uncredited (d : DayReckoner) {raw : Nat} {restart : Bool} (limit : Nat)
    (h : restart = true ∨ raw ≤ d.l) : d.reckon raw restart limit = ({ d with l := max d.l raw }, 0) := by
  unfold DayReckoner.reckon
  by_cases hraw : raw ≤ d.l
  · rw [if_pos hraw, Nat.max_eq_left hraw]
  · rw [if_neg hraw, if_pos (h.resolve_right hraw), Nat.max_eq_right (Nat.le_of_not_le hraw)]

/-- R93, R94: the advance is credited up to the limit, and the rest forfeited. -/
theorem reckon_credited (d : DayReckoner) {raw : Nat} (limit : Nat) (h : d.l < raw) :
    d.reckon raw false limit = ({ d with
      g := min (d.g + min (raw - d.l) limit) 65535
      forfeited := min (d.forfeited + (raw - d.l) - min (raw - d.l) limit) 65535
      l := max d.l raw }, min (raw - d.l) limit) := by
  unfold DayReckoner.reckon
  rw [if_neg (Nat.not_le.mpr h), if_neg nofun, Nat.max_eq_right h.le]

/-- R93, R94: what a reckoning's arithmetic leaves of the day records. -/
theorem reckon_rest (d : DayReckoner) (raw : Nat) (restart : Bool) (limit : Nat) :
    ∃ g forfeited, (d.reckon raw restart limit).1 = { d with g := g, forfeited := forfeited, l := max d.l raw } := by
  by_cases h : restart = true ∨ raw ≤ d.l
  · rw [reckon_uncredited d limit h]
    exact ⟨d.g, d.forfeited, rfl⟩
  · rw [not_or, Bool.not_eq_true, Nat.not_le] at h
    obtain ⟨rfl, hraw⟩ := h
    rw [reckon_credited d limit hraw]
    exact ⟨_, _, rfl⟩

/-- R95, R158: the flags and details after DAY_TURN by a number of days. -/
theorem raiseDayTurn_au (s : State) (n : Nat) : (s.raiseDayTurn n).au = { s.au with
    latch := s.au.latch ||| Member.dayTurn.set
    details := { s.au.details with
      dayTurn := min 65535 ((if Member.dayTurn.isIn s.au.latch then s.au.details.dayTurn else 0) + n) } } := by
  unfold State.raiseDayTurn State.raise Attention.raise
  cases Member.dayTurn.isIn s.au.latch <;> rfl

section Reckoning

variable {s : State} {c : Causes} {limit : Nat} {r : DayReckoner × Nat}
  (hr : s.dr.reckon s.rawDay (c.restart || !s.cu.valid) limit = r)
include hr

/-- R95, R145: a reckoning in full, by what it changes behind its pass. -/
theorem State.reckonNow_eq : s.reckonNow c limit = { { s with dr := r.1 }.fire s.dr.g r.1.g with
    au := if 0 < r.2 then (({ s with dr := r.1 }.fire s.dr.g r.1.g).raiseDayTurn r.2).au
      else ({ s with dr := r.1 }.fire s.dr.g r.1.g).au
    sb := if c.rollover then ({ s with dr := r.1 }.fire s.dr.g r.1.g).measureCell.sb
      else ({ s with dr := r.1 }.fire s.dr.g r.1.g).sb } := by
  unfold State.reckonNow
  simp only [hr]
  split <;> split <;> rfl

/-- What a reckoning in full leaves of a state. -/
theorem State.reckonNow_rest : ∃ table fired ru sp au, s.reckonNow c limit = { s with
    dr := { r.1 with table := table, fired := fired }
    ru := ru, sp := sp, au := au
    sb := { s.sb with cell := if c.rollover then measuredClass s.sb.cell s.sb.cellMv else s.sb.cell } } := by
  rw [State.reckonNow_eq hr]
  obtain ⟨table, fired, ru, sp, au, hfire⟩ := State.fire_rest { s with dr := r.1 } s.dr.g r.1.g
  rw [hfire]
  cases c.rollover with
  | true => exact ⟨table, fired, ru, sp, _, rfl⟩
  | false => exact ⟨table, fired, ru, sp, _, rfl⟩

/-- R95: behind its pass a reckoning leaves what the pass made. -/
theorem State.reckonNow_pass : PassTo ({ s with dr := r.1 }.fire s.dr.g r.1.g) (s.reckonNow c limit) := by
  rw [State.reckonNow_eq hr]
  exact ⟨rfl, rfl, rfl, rfl, rfl⟩

/-- R95, R158: the days credited are told by DAY_TURN. -/
theorem State.reckonNow_turns (h : 0 < r.2) : TurnsDays r.2 s (s.reckonNow c limit) := by
  obtain ⟨fired, hwork⟩ := State.fire_work { s with dr := r.1 } s.dr.g r.1.g
  have hsame := hwork.same (m := .dayTurn) (detail := Details.dayTurn) (by decide) fun _ _ => rfl
  rw [State.reckonNow_eq hr, TurnsDays, if_pos h, raiseDayTurn_au, hsame.latch, hsame.detail, Member.isIn_or,
    Member.isIn_set]
  exact ⟨by simp, rfl⟩

end Reckoning

/-! ### The close of an event -/

theorem motorCeiling_fence (p : PowerState) (settle : Bool) (a u w : Nat) : motorCeiling p .fence settle a u w = 0 := by
  unfold motorCeiling
  exact ite_self _

/-- What the close of an event leaves of the state `y` that the event came to. -/
structure Concluded (y t : State) : Prop where
  keep : SameKeep y t
  sc : t.sc = y.sc
  now : t.now = y.now
  pass : PassTo y t
  supply : t.sb = { y.sb with
    power := t.sb.power, u := t.sb.u, w := t.sb.w, settle := t.sb.settle, m := t.sb.m, audio := t.sb.audio }
  audio : t.sb.audio = audioCeiling y.sb.supply
  master : t.se.effMaster = min y.se.master t.sb.audio
  motors : y.sb.supply = .fence → t.sb.m = 0
  levels : y.sb.power.awake = true → ∀ m : Member, m.isIn t.au.level = y.holds m
  unheld : y.lp.await = none → t.au.latch = y.report.au.latch ∧ t.au.details = y.report.au.details

theorem State.concluded (s y : State) : Concluded y (State.conclude s y) := by
  let a := State.attend s y
  let t := State.conclude s y
  have hat : Attended y a := State.attended s y
  obtain ⟨lp, au, p, amp, next, block, start, phase, tick, hrest⟩ := hat.rest
  have hc : Closes a t := a.closes
  have hsb : t.sb = { a.sb with
      u := t.sb.u, w := t.sb.w, settle := t.sb.settle, m := t.sb.m, audio := t.sb.audio } := by
    rw [← a.serviceStore_sb]
    rfl
  have hasb : a.sb = { y.sb with power := p } := (congrArg State.sb hrest :)
  have hmaster : t.se.effMaster = min a.se.master t.sb.audio := by
    have hstore : a.serviceStore.se.master = a.se.master := by rw [State.serviceStore_eq]
    rw [← hstore]
    rfl
  have hmotors : a.sb.supply = .fence → t.sb.m = 0 := by
    intro hf
    have hstore : a.serviceStore.sb.supply = .fence := by rw [a.serviceStore_sb, hf]
    show motorCeiling a.serviceStore.sb.power a.serviceStore.sb.supply _ _ _ _ = 0
    rw [hstore, motorCeiling_fence]
  have hsupply : a.sb.supply = y.sb.supply := by rw [hasb]
  obtain ⟨hkeep, hface, hcu, hdr⟩ := hc.keep
  obtain ⟨-, -, -, hlist, -⟩ := hc.store
  have hru : t.ru.cache = a.ru.cache := (congrArg RumbleUnit.cache hc.rumble :)
  refine ⟨⟨hkeep.trans (congrArg State.keep hrest :), hface.trans (congrArg State.face hrest :),
      hcu.trans (congrArg State.cu hrest :), hdr.trans (congrArg State.dr hrest :)⟩,
    hc.sc.trans (congrArg State.sc hrest :), hc.now.trans (congrArg State.now hrest :), ?_, ?_, ?_,
    ?_, fun hf => hmotors (hsupply.trans hf), fun ha m => ?_, fun hn => ?_⟩
  · have hadr : a.dr = y.dr := (congrArg State.dr hrest :)
    have hsp : a.sp = y.sp := (congrArg State.sp hrest :)
    have hlayers : a.ru.layers = y.ru.layers ∧ a.ru.cache = y.ru.cache := by
      rw [hrest]
      exact ⟨rfl, rfl⟩
    exact ⟨by rw [hdr, hadr], by rw [hdr, hadr], hc.layers.trans hlayers.1, hru.trans hlayers.2, by rw [hlist, hsp]⟩
  · rw [hsb, hasb]
  · show audioCeiling a.serviceStore.sb.supply = _
    rw [State.serviceStore_eq, ← hsupply]
  · rw [hmaster, hrest]
  · have hlevel := ((a.reported_iff.mp (State.attend_reported s y)) (hat.awake ha)).1
    have hau : t.au.level = a.au.level := (congrArg Attention.level hc.attention :)
    rw [hau, hlevel, Member.isIn_ownerLevels, hrest]
    cases m <;> rfl
  · obtain ⟨-, hlatch, hdetails⟩ := hat.unheld hn
    exact ⟨hc.latch.trans hlatch, hc.details.trans hdetails⟩

end Sys2Proof.Machine
end

section
/-! The supply class (R65, R96, R141, R143, R145, R149). -/

set_option Elab.async false

namespace Sys2Proof.Machine

open Sys2Proof.Safety

/-! ### What a change of the class hands to the other blocks (R143) -/

section Change

variable {x : State} {old : SupplyClass}

theorem State.classChanged_of_rise (h : old ≠ .fence) (hx : x.sb.supply = .fence) :
    x.classChanged old = x.abandonSave := if_pos ⟨h, hx⟩

theorem State.classChanged_of_leave (h : old = .fence) (hx : x.sb.supply ≠ .fence) :
    x.classChanged old = x.endSupplyWait.runDeferred := by
  unfold State.classChanged
  rw [if_neg fun hrise => hx hrise.2, if_pos ⟨h, hx⟩]

theorem State.classChanged_of_same (h : old = .fence ↔ x.sb.supply = .fence) : x.classChanged old = x := by
  unfold State.classChanged
  rw [if_neg fun hrise => hrise.1 (h.mpr hrise.2), if_neg fun hleave => hleave.2 (h.mp hleave.1)]

/-- R65: the SC's records after FENCE abandons a keep operation. -/
def abandoned (sc : SaveController) : SaveController :=
  match sc.op with
  | none => sc
  | some op => { sc with
      op := none
      openSlot := if op.kind = .erase then sc.openSlot else none
      highMark := if op.kind = .erase then sc.highMark else 0 }

theorem State.abandonSave_none (h : x.sc.op = none) : x.abandonSave = x := by
  unfold State.abandonSave
  rw [h]

/-- R65: an operation abandoned is told by SAVE_FAILED. -/
theorem State.abandonSave_some {op : KeepOp} (h : x.sc.op = some op) :
    x.abandonSave = { x with sc := abandoned x.sc, au := (x.raiseSaveFailed op.slot .power).au } := by
  unfold State.abandonSave abandoned
  simp only [h]
  cases op.kind <;> rfl

theorem State.abandonSave_rest (x : State) : ∃ au, x.abandonSave = { x with sc := abandoned x.sc, au := au } := by
  cases h : x.sc.op with
  | none =>
    refine ⟨x.au, (State.abandonSave_none h).trans ?_⟩
    unfold abandoned
    rw [h]
  | some op => exact ⟨_, State.abandonSave_some h⟩

/-- R181: the end of the supply wait begins stage 2. -/
theorem State.endSupplyWait_rest (x : State) : ∃ stage start,
    x.endSupplyWait = { x with sb := { x.sb with stage := stage, stageStart := start } }
      ∧ (x.sb.power = .waking → x.sb.stage = 1 → stage = 2) := by
  unfold State.endSupplyWait
  split
  · exact ⟨_, _, rfl, fun _ _ => rfl⟩
  · rename_i hno
    exact ⟨_, _, rfl, fun hp hs => absurd (by simp [State.inStage, hp, hs]) hno⟩

theorem State.runDeferred_none (h : x.dr.deferred = none) : x.runDeferred = x := by
  unfold State.runDeferred
  rw [h]

theorem State.runDeferred_some {q : Deferred} (h : x.dr.deferred = some q) :
    x.runDeferred = { x with dr := { x.dr with deferred := none } }.reckonNow q.causes q.limit := by
  unfold State.runDeferred
  rw [h]

theorem State.runDeferred_rest (x : State) : ∃ dr ru sp au cell,
    x.runDeferred = { x with dr := dr, ru := ru, sp := sp, au := au, sb := { x.sb with cell := cell } } := by
  cases h : x.dr.deferred with
  | none => exact ⟨_, _, _, _, _, State.runDeferred_none h⟩
  | some q =>
    obtain ⟨table, fired, ru, sp, au, hrest⟩ :=
      State.reckonNow_rest (s := { x with dr := { x.dr with deferred := none } }) (c := q.causes) (limit := q.limit) rfl
    exact ⟨_, _, _, _, _, (State.runDeferred_some h).trans hrest⟩

/-- R96: no reckoning is deferred any longer. -/
theorem State.runDeferred_ends (x : State) :
    x.runDeferred.dr.deferred = none ∧ x.runDeferred.sb.stage = x.sb.stage := by
  cases h : x.dr.deferred with
  | none =>
    rw [State.runDeferred_none h]
    exact ⟨h, rfl⟩
  | some q =>
    let x' : State := { x with dr := { x.dr with deferred := none } }
    obtain ⟨table, fired, ru, sp, au, hrest⟩ := State.reckonNow_rest (s := x') (c := q.causes) (limit := q.limit) rfl
    obtain ⟨g, forfeited, hrec⟩ :=
      reckon_rest x'.dr x'.rawDay (q.causes.restart || !x'.cu.valid) q.limit
    rw [State.runDeferred_some h, hrest, hrec]
    exact ⟨rfl, rfl⟩

/-- R143: what a change of the class leaves of a state. -/
theorem State.classChanged_rest (x : State) (old : SupplyClass) : ∃ au sc dr ru sp cell stage start,
    x.classChanged old = { x with
      au := au, sc := sc, dr := dr, ru := ru, sp := sp
      sb := { x.sb with cell := cell, stage := stage, stageStart := start } } := by
  by_cases hrise : old ≠ .fence ∧ x.sb.supply = .fence
  · obtain ⟨au, h⟩ := x.abandonSave_rest
    exact ⟨_, _, _, _, _, _, _, _, (State.classChanged_of_rise hrise.1 hrise.2).trans h⟩
  by_cases hleave : old = .fence ∧ x.sb.supply ≠ .fence
  · obtain ⟨stage, start, hwait, -⟩ := x.endSupplyWait_rest
    obtain ⟨dr, ru, sp, au, cell, h⟩ := x.endSupplyWait.runDeferred_rest
    rw [State.classChanged_of_leave hleave.1 hleave.2, h, hwait]
    exact ⟨_, _, _, _, _, _, _, _, rfl⟩
  · refine ⟨_, _, _, _, _, _, _, _, State.classChanged_of_same ?_⟩
    tauto

theorem State.classChanged_sc (h : old = .fence ∨ x.sb.supply ≠ .fence) : (x.classChanged old).sc = x.sc := by
  by_cases hleave : old = .fence ∧ x.sb.supply ≠ .fence
  · obtain ⟨stage, start, hwait, -⟩ := x.endSupplyWait_rest
    obtain ⟨dr, ru, sp, au, cell, hrun⟩ := x.endSupplyWait.runDeferred_rest
    rw [State.classChanged_of_leave hleave.1 hleave.2, hrun, hwait]
  · rw [State.classChanged_of_same (by tauto)]

theorem State.classChanged_dr (h : old ≠ .fence ∨ x.sb.supply = .fence) : (x.classChanged old).dr = x.dr := by
  by_cases hrise : old ≠ .fence ∧ x.sb.supply = .fence
  · obtain ⟨au, hsave⟩ := x.abandonSave_rest
    rw [State.classChanged_of_rise hrise.1 hrise.2, hsave]
  · rw [State.classChanged_of_same (by tauto)]

end Change

/-- R93, R94: the terms of a reckoning. -/
theorem reckon_terms (d : DayReckoner) (raw : Nat) (restart : Bool) (limit : Nat) (hg : d.g ≤ 65535) :
    let r := d.reckon raw restart limit
    let credited := if restart = true then 0 else min (raw - d.l) limit
    r.2 = credited ∧ r.1.g = (if 0 < credited then min (d.g + credited) 65535 else d.g)
      ∧ (restart = true ∨ raw ≤ d.l → r.1.forfeited = d.forfeited)
      ∧ (restart = false → d.l < raw → r.1.forfeited = min (d.forfeited + (raw - d.l) - credited) 65535) := by
  cases restart with
  | true =>
    rw [reckon_uncredited d limit (.inl rfl)]
    exact ⟨rfl, rfl, fun _ => rfl, nofun⟩
  | false =>
    simp only [Bool.false_eq_true, if_false]
    by_cases hraw : raw ≤ d.l
    · rw [reckon_uncredited d limit (.inr hraw), Nat.sub_eq_zero_of_le hraw, Nat.zero_min]
      exact ⟨rfl, rfl, fun _ => rfl, fun _ h => absurd h (Nat.not_lt.mpr hraw)⟩
    · rw [reckon_credited d limit (Nat.not_le.mp hraw)]
      refine ⟨rfl, ?_, fun h => absurd (h.resolve_left nofun) hraw, fun _ _ => rfl⟩
      by_cases hc : 0 < min (raw - d.l) limit
      · rw [if_pos hc]
      · rw [if_neg hc, Nat.eq_zero_of_not_pos hc]
        exact Nat.min_eq_left hg

/-! ### The step (R141) -/

/-- R141: `s` with its pins and its class moved. -/
def State.supplied (s : State) (mv cellMv : Nat) : State :=
  (s.setPins mv cellMv).setClass (classAfter s.sb.supply mv)

theorem exec_supply_eq {s : State} {mv : Nat} (cellMv : Nat) (hp : s.sb.power ≠ .keep) (hmv : 2500 ≤ mv) :
    exec (.supplyClassChange mv cellMv) s
      = .next (State.conclude s ((s.supplied mv cellMv).classChanged s.sb.supply)) := by
  have hmoves : s.supplyMoves mv cellMv = State.conclude s ((s.supplied mv cellMv).classChanged s.sb.supply) :=
    if_neg (Nat.not_lt.mpr hmv)
  show Host.Outcome.next (if s.sb.power = .keep then s else s.supplyMoves mv cellMv) = _
  rw [if_neg hp, hmoves]

end Sys2Proof.Machine

namespace Sys2Proof.Proofs

open Sys2Proof.Safety Sys2Proof.Machine

/-- R141: the class after the supply comes to a voltage. -/
theorem classAfter_eq (c : SupplyClass) (mv : Nat) : classAfter c mv =
    if c = .normal then (if mv < 2800 then .fence else if mv < 3000 then .warn else .normal)
    else if c = .warn then (if 3100 ≤ mv then .normal else if mv < 2800 then .fence else .warn)
    else if 3100 ≤ mv then .normal else if 2900 ≤ mv then .warn else .fence := by
  cases c <;> rfl

theorem audioCeiling_eq (d : SupplyClass) :
    audioCeiling d = if d = .normal then 32767 else if d = .warn then 16384 else 0 := by
  cases d <;> rfl

section Change

variable {s x t : State}

/-- R65: a rise to FENCE abandons the keep operation, and its SAVE_FAILED tells it. -/
theorem save_abandoned (hsc : x.sc = s.sc) (hau : x.au = s.au) (hlp : x.lp = s.lp) (h : Concluded x.abandonSave t) :
    t.sc.op = none
      ∧ (∀ op ∈ s.sc.op, op.kind ≠ .erase → t.sc.openSlot = none ∧ t.sc.highMark = 0)
      ∧ ((∀ op ∈ s.sc.op, op.kind = .erase) → t.sc.openSlot = s.sc.openSlot ∧ t.sc.highMark = s.sc.highMark)
      ∧ (∀ op ∈ s.sc.op, s.lp.await = none → Member.saveFailed.isIn t.au.latch = true
        ∧ t.au.details.saveCause = some .power
        ∧ t.au.details.saveFailed
          = (if Member.saveFailed.isIn s.au.latch then s.au.details.saveFailed else 0) ||| slotBit op.slot) := by
  cases hop : s.sc.op with
  | none =>
    rw [State.abandonSave_none (hsc ▸ hop)] at h
    rw [h.sc, hsc, hop]
    exact ⟨rfl, nofun, fun _ => ⟨rfl, rfl⟩, nofun⟩
  | some op =>
    rw [State.abandonSave_some (hsc ▸ hop)] at h
    have htsc : t.sc = { s.sc with
        op := none
        openSlot := if op.kind = .erase then s.sc.openSlot else none
        highMark := if op.kind = .erase then s.sc.highMark else 0 } := by
      rw [h.sc, hsc, abandoned, hop]
    rw [htsc]
    simp only [Option.mem_some_iff, forall_eq']
    refine ⟨trivial, fun hk => ⟨if_neg hk, if_neg hk⟩, fun hk => ⟨if_pos hk, if_pos hk⟩, fun hn => ?_⟩
    obtain ⟨hlatch, hdetails⟩ := h.unheld (hlp ▸ hn)
    rw [hlatch, hdetails, State.report_isIn _ rfl, State.report_details]
    simp only [raiseSaveFailed_au, hau, Member.isIn_or, Member.isIn_set]
    simp

/-- R92, R96: the deferred reckoning runs in full as the class leaves FENCE. -/
theorem deferred_run {b : Supply} (hp : b.power = s.sb.power) (hcell : b.cell = s.sb.cell) {q : Deferred}
    (hq : s.dr.deferred = some q) (h : Concluded ({ s with sb := b } : State).runDeferred t) (hd : DaysOk s) :
    let raw := (s.cu.seconds + 86400 - (s.sp.profile.hour * 3600 + s.sp.profile.minute * 60)) / 86400
    let advance := raw - s.dr.l
    let credited := if q.causes.restart = true ∨ s.cu.valid = false then 0 else min advance q.limit
    t.dr.l = max s.dr.l raw ∧ t.dr.rewind = s.dr.rewind
      ∧ t.dr.g = (if 0 < credited then min (s.dr.g + credited) 65535 else s.dr.g)
      ∧ (q.causes.restart = true ∨ s.cu.valid = false ∨ raw ≤ s.dr.l → t.dr.forfeited = s.dr.forfeited)
      ∧ (q.causes.restart = false → s.cu.valid = true → s.dr.l < raw →
        t.dr.forfeited = min (s.dr.forfeited + advance - credited) 65535)
      ∧ FiringPass s.dr.g t.dr.g s.cu.seconds s t
      ∧ (s.lp.pendingReset = false → PassActions s.dr.g t.dr.g s.cu.seconds s t)
      ∧ t.sb.cell = (if q.causes.rollover = false then s.sb.cell
          else if s.sb.cell = .good then (if b.cellMv < 2600 then .low else .good)
          else if 2700 ≤ b.cellMv then .good else .low)
      ∧ (0 < credited → s.lp.await = none → TurnsDays credited s t) := by
  intro raw advance credited
  let x : State := { s with sb := b, dr := { s.dr with deferred := none } }
  let restart := q.causes.restart || !s.cu.valid
  obtain ⟨r, hr⟩ : ∃ r, x.dr.reckon x.rawDay restart q.limit = r := ⟨_, rfl⟩
  have hraw : x.rawDay = raw := rfl
  rw [State.runDeferred_some (x := { s with sb := b }) hq] at h
  change Concluded (x.reckonNow q.causes q.limit) t at h
  have hok : TableOk s.dr := tableOk_of_daysOk hd
  obtain ⟨-, -, hgmax, -⟩ := hd
  have hrestart : restart = true ↔ q.causes.restart = true ∨ s.cu.valid = false := by
    rw [Bool.or_eq_true, Bool.not_eq_true']
  obtain ⟨hcredit, hg, hsame, hforfeit⟩ := reckon_terms x.dr raw restart q.limit hgmax
  rw [← hraw, hr, hraw] at hcredit hg hsame hforfeit
  have hterm : (if restart = true then 0 else min (raw - x.dr.l) q.limit) = credited := if_congr hrestart rfl rfl
  rw [hterm] at hcredit hg hforfeit
  obtain ⟨g, forfeited, hrec⟩ := reckon_rest x.dr x.rawDay restart q.limit
  rw [hr, hraw] at hrec
  obtain ⟨table, fired, ru, sp, au, hrest⟩ := State.reckonNow_rest hr
  have hdr : t.dr = { r.1 with table := table, fired := fired } := by
    obtain ⟨-, -, -, hsame⟩ := h.keep
    exact hsame.trans (congrArg State.dr hrest :)
  have htg : t.dr.g = r.1.g := by rw [hdr]
  have hpass : PassOf s { x with dr := r.1 } :=
    ⟨(congrArg DayReckoner.table hrec :), (congrArg DayReckoner.fired hrec :), rfl, hp, ⟨rfl, rfl, rfl, rfl⟩⟩
  have hto : PassTo ({ x with dr := r.1 }.fire s.dr.g t.dr.g) t := by
    rw [htg]
    exact (State.reckonNow_pass hr).trans h.pass
  have hdays : t.dr.g = if 0 < credited then min (s.dr.g + credited) 65535 else s.dr.g := htg.trans hg
  have hle : s.dr.g ≤ t.dr.g := by
    rw [hdays]
    split <;> omega
  have hmax : t.dr.g ≤ 65535 := by
    rw [hdays]
    split <;> omega
  refine ⟨?_, ?_, hdays, fun hno => ?_, fun hc hv hraw => ?_, hpass.firingPass hok hle hmax hto,
    fun hreset => ⟨fun hno => hpass.still hok hle hmax hto hno,
      fun e a hactive hone ha hpattern hlayer hpriority hscale => hpass.starts hok hle hmax hto hactive hreset hone ha hpattern hlayer hpriority hscale⟩, ?_, fun hc hn => ?_⟩
  · rw [hdr, hrec]
  · rw [hdr, hrec]
  · rw [hdr]
    refine hsame ?_
    rw [hrestart]
    tauto
  · rw [hdr]
    refine hforfeit ?_ hraw
    rw [← Bool.not_eq_true, hrestart]
    simp [hc, hv]
  · have htcell : t.sb.cell = (x.reckonNow q.causes q.limit).sb.cell := (congrArg Supply.cell h.supply :)
    rw [htcell, hrest]
    show (if q.causes.rollover = true then measuredClass b.cell b.cellMv else b.cell) = _
    rw [hcell]
    cases q.causes.rollover <;> cases s.sb.cell <;> rfl
  · have hturns : TurnsDays r.2 x (x.reckonNow q.causes q.limit) :=
      State.reckonNow_turns hr (lt_of_lt_of_eq hc hcredit.symm)
    rw [hcredit] at hturns
    have hlp : (x.reckonNow q.causes q.limit).lp = s.lp := (congrArg State.lp hrest :)
    obtain ⟨hlatch, hdetails⟩ := h.unheld (hlp ▸ hn)
    rw [TurnsDays, hlatch, hdetails, State.report_isIn _ rfl, State.report_details]
    exact hturns

end Change

/-- Settles O48: the supply class, its ceilings and conditions, the save it abandons and the reckoning it releases. -/
theorem supplyClassMoves : Obligations.SupplyClassMoves := by
  unfold Obligations.SupplyClassMoves
  intro mv cellMv s hp hmv c d
  let x := s.supplied mv cellMv
  let y := x.classChanged s.sb.supply
  have hd : x.sb.supply = d := classAfter_eq s.sb.supply mv
  have h : Concluded y (State.conclude s y) := State.concluded s y
  obtain ⟨au, sc, dr, ru, sp, cell, stage, start, hrest⟩ := x.classChanged_rest s.sb.supply
  have hysb : y.sb = { x.sb with cell := cell, stage := stage, stageStart := start } := (congrArg State.sb hrest :)
  have hsupply : y.sb.supply = d := by rw [hysb, hd]
  refine ⟨_, exec_supply_eq cellMv hp hmv, ?_⟩
  obtain ⟨hkeep, hface, hcu, hdr⟩ := h.keep
  generalize State.conclude s y = t at *
  have hsb : t.sb.supply = y.sb.supply ∧ t.sb.supplyMv = y.sb.supplyMv ∧ t.sb.cellMv = y.sb.cellMv := by
    rw [h.supply]
    exact ⟨rfl, rfl, rfl⟩
  have hleave : c = .fence → d ≠ .fence → ∃ stage start,
      y = ({ s with sb := { x.sb with stage := stage, stageStart := start } } : State).runDeferred
        ∧ (s.sb.power = .waking → s.sb.stage = 1 → stage = 2) := by
    intro hc hnew
    obtain ⟨stage, start, hwait, hstage⟩ := x.endSupplyWait_rest
    refine ⟨stage, start, ?_, hstage⟩
    show x.classChanged s.sb.supply = _
    rw [State.classChanged_of_leave hc (by rw [hd]; exact hnew), hwait]
    rfl
  refine ⟨hsb.1.trans hsupply, hsb.2.1.trans (by rw [hysb]; rfl), hsb.2.2.trans (by rw [hysb]; rfl),
    h.audio.trans (by rw [hsupply, audioCeiling_eq]), ?_, fun hf => h.motors (hsupply.trans hf), fun ha => ?_,
    fun hc => ?_, fun hc hf => ?_, fun hc => ?_, fun hc hnew hnone => ?_, fun q hdays hc hnew hq => ?_,
    fun hc hnew => ⟨?_, fun hw h1 => ?_⟩,
    hkeep.trans (congrArg State.keep hrest :), hface.trans (congrArg State.face hrest :),
    hcu.trans (congrArg State.cu hrest :), h.now.trans (congrArg State.now hrest :)⟩
  · have hse : y.se = s.se := (congrArg State.se hrest :)
    rw [h.master, hse]
  · have hawake : y.sb.power.awake = true := by
      rw [hysb]
      rcases ha with ha | ha <;> exact congrArg PowerState.awake ha
    rw [h.levels hawake, h.levels hawake, State.holds, State.holds, hsupply]
    cases d <;> exact ⟨rfl, rfl⟩
  · exact h.sc.trans (State.classChanged_sc (hc.imp_right fun hnew => by rw [hd]; exact hnew))
  · have hy : y = x.abandonSave := State.classChanged_of_rise hc (hd.trans hf)
    exact save_abandoned (x := x) rfl rfl rfl (hy ▸ h)
  · exact hdr.trans (State.classChanged_dr (hc.imp_right fun hf => hd.trans hf))
  · obtain ⟨stage, start, hy, -⟩ := hleave hc hnew
    rw [State.runDeferred_none (by exact hnone)] at hy
    refine ⟨hdr.trans (congrArg State.dr hy :), ?_⟩
    rw [h.supply]
    exact (congrArg (State.sb · |>.cell) hy :)
  · obtain ⟨stage, start, hy, -⟩ := hleave hc hnew
    rw [hy] at h
    exact deferred_run (s := s) (b := { x.sb with stage := stage, stageStart := start }) rfl rfl hq h hdays
  · obtain ⟨stage, start, hy, -⟩ := hleave hc hnew
    rw [hdr, hy]
    exact (State.runDeferred_ends _).1
  · obtain ⟨stage, start, hy, hstage⟩ := hleave hc hnew
    have ht : t.sb.stage = y.sb.stage := (congrArg Supply.stage h.supply :)
    rw [ht, hy, (State.runDeferred_ends _).2]
    exact hstage hw h1

end Sys2Proof.Proofs
end

section
/-! Stages 2, 3 and 7 of WAKING (R71, R87, R92 to R96, R162, R181, R182, R187; logs 5 and 11). -/

set_option Elab.async false

namespace Sys2Proof.Machine

open Sys2Proof.Safety

/-! ### The store's service before ACTIVE (R45) -/

/-- R33: no voice requests outside ACTIVE. -/
theorem State.markRequests_asleep {s : State} (h : s.sb.power ≠ .active) : s.markRequests
    = { s with se := { s.se with voices := s.se.voices.mapIdx fun _ v => { v with request := false } } } := by
  have hno : (s.sb.power == .active) = false := beq_eq_false_iff_ne.mpr h
  unfold State.markRequests
  simp only [hno, Bool.false_and]

/-- R34: a service that changes nothing marks nothing. -/
theorem State.markRequests_of_served {s : State} (h : s.serviceStore = s) : s.markRequests = s :=
  calc s.markRequests = s.serviceStore.markRequests := by rw [h]
    _ = s.serviceStore := State.markRequests_markRequests _
    _ = s := h

/-- R45: the grant in WAKING leaves all but the fetch in flight. -/
theorem State.grant_waking {s : State} (h : s.sb.power = .waking) :
    s.grant = { s with sp := { s.sp with fetch := s.sp.fetch.or s.readerFetch } } := by
  unfold State.grant
  cases hf : s.sp.fetch with
  | some f => exact (by rw [← hf] : s = { s with sp := { s.sp with fetch := some f } })
  | none =>
    simp only [h]
    cases s.readerFetch with
    | some f => rfl
    | none => exact (by rw [← hf] : s = { s with sp := { s.sp with fetch := none } })

/-- R45: the store's service in WAKING, on a state whose requests stand, is a grant to the power-up reader. -/
theorem State.serviceStore_waking {s x : State} (hs : s.serviceStore = s) (hp : s.sb.power = .waking)
    (hx : x.sb.power = .waking) (hv : x.se.voices = s.se.voices) :
    x.serviceStore = { x with sp := { x.sp with fetch := x.sp.fetch.or x.readerFetch } } := by
  have hquiet : s.se.voices.mapIdx (fun _ v => { v with request := false }) = s.se.voices := by
    have hmark := State.markRequests_of_served hs
    rw [State.markRequests_asleep (by rw [hp]; nofun)] at hmark
    exact (congrArg (State.se · |>.voices) hmark :)
  have hmark : ∀ u : State, u.sb.power = .waking → u.se.voices = s.se.voices → u.markRequests = u := by
    intro u hu huv
    rw [State.markRequests_asleep (by rw [hu]; nofun), huv, hquiet, ← huv]
  unfold State.serviceStore
  rw [hmark x hx hv, State.grant_waking hx]
  exact hmark _ hx hv

/-- A stage that ends in WAKING with nothing latched. -/
theorem State.conclude_stage {s x : State} (hs : s.serviceStore = s) (hp : s.sb.power = .waking)
    (hx : x.sb.power = .waking) (hv : x.se.voices = s.se.voices) (hl : x.au.latch = s.au.latch) :
    State.conclude s x = { x with sp := { x.sp with fetch := x.sp.fetch.or x.readerFetch } }.refresh := by
  rw [State.conclude_same (State.report_waking hx) hl, State.serviceStore_waking hs hp hx hv]

theorem ClockUnit.count_seconds (c : ClockUnit) (now dt : Nat) : (c.count now dt).seconds = c.seconds := by
  unfold ClockUnit.count
  simp only
  split <;> rfl

/-- Time passes with nothing under way (log 10). -/
theorem State.elapseTo_quiet {s : State} (h : Quiet s) (t : Nat) : s.elapseTo t = movedTo s t := by
  rw [State.elapseTo, State.elapse_quiet _ _ h.1 h.2]
  rfl

theorem exec_signatureCheck_eq {s : State} (hp : s.sb.power = .waking) (hst : s.sb.stage = 2) :
    exec .keepSignatureCheck s = .next s.signatureChecked :=
  congrArg Host.Outcome.next (if_pos (by simp [State.inStage, hp, hst]))

theorem exec_crystalCheck_eq {s : State} (edge : Bool) (hp : s.sb.power = .waking) (hst : s.sb.stage = 3) :
    exec (.crystalCheckEnd edge) s = .next (s.crystalChecked edge) :=
  congrArg Host.Outcome.next (if_pos (by simp [State.inStage, hp, hst]))

theorem exec_scrubSlot_eq {s : State} (mv : Nat) (hp : s.sb.power = .waking) (hst : s.sb.stage = 7) :
    exec (.scrubSlotEnd mv) s = .next (s.scrubbed mv) :=
  congrArg Host.Outcome.next (if_pos (by simp [State.inStage, hp, hst]))

/-! ### The scrub of a slot (R71) -/

/-- R50: some slot is DAMAGED. -/
theorem State.damagedSet_ne_zero (s : State) :
    (s.damagedSet != 0) = (s.sc.slots.take 8).any fun x => decide (x = .damaged) := by
  have hbit : ∀ n, s.damagedSet.getLsbD n = decide (n < 8 ∧ s.sc.slots[n]? = some .damaged) := by
    intro n
    rw [State.damagedSet, getLsbD_maskOf, decide_eq_decide, List.mem_filter, List.mem_range, List.getD_eq_getElem?_getD]
    cases s.sc.slots[n]? with
    | none => simp
    | some x => simp +contextual
  rw [Bool.eq_iff_iff, bne_iff_ne, List.any_eq_true]
  constructor
  · intro hne
    by_contra hno
    refine hne (BitVec.eq_of_getLsbD_eq fun n hn => ?_)
    rw [hbit, decide_eq_false]
    · simp
    · rintro ⟨h8, hslot⟩
      refine hno ⟨.damaged, List.mem_iff_getElem?.mpr ⟨n, ?_⟩, by simp⟩
      rw [List.getElem?_take, if_pos h8, hslot]
  · rintro ⟨x, hx, hdamaged⟩ hzero
    obtain ⟨n, hn⟩ := List.mem_iff_getElem?.mp hx
    rw [of_decide_eq_true hdamaged, List.getElem?_take] at hn
    have hno := hbit n
    rw [hzero] at hno
    split at hn
    · rename_i h8
      simp [h8, hn] at hno
    · cases hn

/-- R71: the state that the scrub finds. -/
theorem State.examineSlot_eq (s : State) (n : Nat) : s.examineSlot n
    = if headerValid (s.faceHeader n) n (s.slotSize n) = false then .damaged
      else if byteAt (s.faceHeader n) 3 = 0 then .empty
      else if crc16 (Memory.readAll s.keep (s.faceData n) (half (s.faceHeader n) 8).toNat) = half (s.faceHeader n) 10
        then .live
      else .damaged := by
  have hlive : headerValid (s.faceHeader n) n (s.slotSize n) = true →
      headerLive (s.faceHeader n) = !decide (byteAt (s.faceHeader n) 3 = 0) := by
    intro h
    unfold headerValid at h
    simp only [Bool.and_eq_true, Bool.or_eq_true, beq_iff_eq] at h
    obtain ⟨⟨⟨⟨-, hbyte⟩, -⟩, -⟩, -⟩ := h
    rw [headerLive]
    rcases hbyte with h3 | h3 <;> rw [h3] <;> rfl
  unfold State.examineSlot State.faceValid headerLength
  cases hvalid : headerValid (s.faceHeader n) n (s.slotSize n) with
  | false => rfl
  | true =>
    simp only [hlive hvalid]
    by_cases h3 : byteAt (s.faceHeader n) 3 = 0 <;> simp [h3]

/-- R71: `s` when the scrub of its slot ends, the slot's state decided. -/
def State.slotFound (s : State) (mv : Nat) : State :=
  { movedTo s (s.sb.stageStart + s.scrubTime s.sb.scrubSlot) with
    sc := { s.sc with slots := s.sc.slots ++ [s.examineSlot s.sb.scrubSlot] }, sb := { s.sb with cellMv := mv } }

theorem State.scrubbed_eq {s : State} (h : Quiet s) (mv : Nat) : s.scrubbed mv = State.conclude s
    (if s.sb.scrubSlot < s.slotCount then (s.slotFound mv).beginScrub (s.sb.scrubSlot + 1)
      else ((s.slotFound mv).beginStage 8).finishWaking) := by
  unfold State.scrubbed
  simp only [State.elapseTo_quiet h]
  rfl

/-- R71, R145: `s` when the scrub of its last slot ends and the cell is measured. -/
def State.lastFound (s : State) (mv : Nat) : State :=
  { s with
    now := (s.slotFound mv).now, cu := (s.slotFound mv).cu, sc := (s.slotFound mv).sc
    sb := { s.sb with
      cellMv := mv, cell := measuredClass s.sb.cell mv, stage := 9, stageStart := (s.slotFound mv).now } }

/-! ### The entry to ACTIVE (R162, R187) -/

/-- R162, R187: `s` when WAKING has ended, the conditions taken. -/
def State.wakened (s : State) : State := ((s.beginStage 10).syncConditions.beginStage 11).enterActive

theorem State.scrubbed_last {s : State} (h : Quiet s) (hn : s.slotCount ≤ s.sb.scrubSlot) (mv : Nat) :
    s.scrubbed mv = State.conclude s (s.lastFound mv).reckonPowerUp.wakened := by
  rw [State.scrubbed_eq h, if_neg (Nat.not_lt.mpr hn)]
  rfl

theorem State.wakened_holds (s : State) (m : Member) : s.wakened.holds m = s.holds m := by
  cases m <;> rfl

theorem State.wakened_level (s : State) (m : Member) : m.isIn s.wakened.au.level = s.holds m := by
  have hlevel : m.isIn s.wakened.au.level = (s.beginStage 10).holds m := Member.isIn_ownerLevels m _
  rw [hlevel]
  cases m <;> rfl

/-- R162: a condition that holds and whose level is not yet true is latched. -/
theorem State.wakened_latch (s : State) (m : Member) :
    m.isIn s.wakened.au.latch = (m.isIn s.au.latch || (s.holds m && !m.isIn s.au.level)) := by
  have hlatch : s.wakened.au.latch = s.au.latch ||| (s.wakened.au.level &&& ~~~ s.au.level) := rfl
  rw [hlatch, ← s.wakened_level m]
  unfold Member.isIn
  simp [m.num_lt]

theorem State.wakened_report (s : State) : s.wakened.report.au.latch = s.wakened.au.latch :=
  State.report_latch_of_held fun m hm => by rw [State.wakened_level, ← State.wakened_holds, hm]

/-- R155, R187: what the entry to ACTIVE sets stands at the close of the event. -/
theorem State.conclude_wakened (s0 s : State) :
    let t := State.conclude s0 s.wakened
    t.sb.power = .active ∧ t.se.nextBoundary = s.now + 15625 ∧ t.ru.phase = 0 := by
  intro t
  obtain ⟨lp, au, h⟩ := (State.attended s0 s.wakened).active rfl
  have hc : Closes (State.attend s0 s.wakened) t := State.closes _
  rw [h] at hc
  obtain ⟨-, -, -, -, -, -, hnext⟩ := hc.engine
  exact ⟨(congrArg Supply.power hc.supply :), hnext, (congrArg RumbleUnit.phase hc.rumble :)⟩

/-! ### The reckoning of the power-up (R92 to R96, R107) -/

/-- R105, R106: a pass appends records whose action-run flag is clear. -/
theorem firingPass_appends (gOld g now : Nat) (table : List Entry) (fired : List Fired) :
    ∃ new, (firingPass gOld g now table fired).fired = fired ++ new ∧ ∀ r ∈ new, r.ran = false := by
  have hvisit : ∀ (o : PassOut) (e : Entry), ∃ new, (o.visit gOld g now e).fired = o.fired ++ new
      ∧ ∀ r ∈ new, r.ran = false := by
    intro o e
    unfold PassOut.visit
    split
    · exact ⟨[], (List.append_nil _).symm, nofun⟩
    · split
      · exact ⟨[], (List.append_nil _).symm, nofun⟩
      · split
        · exact ⟨_, rfl, fun r hr => by rw [List.mem_singleton.mp hr]; rfl⟩
        · exact ⟨[], (List.append_nil _).symm, nofun⟩
  have hfold : ∀ (l : List Entry) (o : PassOut), ∃ new, (l.foldl (PassOut.visit gOld g now) o).fired = o.fired ++ new
      ∧ ∀ r ∈ new, r.ran = false := by
    intro l
    induction l with
    | nil => exact fun o => ⟨[], (List.append_nil _).symm, nofun⟩
    | cons e l ih =>
      intro o
      obtain ⟨n1, h1, hr1⟩ := hvisit o e
      obtain ⟨n2, h2, hr2⟩ := ih (o.visit gOld g now e)
      refine ⟨n1 ++ n2, by rw [List.foldl_cons, h2, h1, List.append_assoc], fun r hr => ?_⟩
      exact (List.mem_append.mp hr).elim (hr1 r) (hr2 r)
  exact hfold table _

/-- R92, R107: a reckoning without a measurement outside ACTIVE: the pass, no action, and DAY_TURN. -/
theorem State.reckonNow_asleep {s : State} {c : Causes} {limit : Nat} {r : DayReckoner × Nat}
    (hr : s.dr.reckon s.rawDay (c.restart || !s.cu.valid) limit = r) (hp : s.sb.power ≠ .active)
    (hc : c.rollover = false) : s.reckonNow c limit = { s with
      dr := (State.passed { s with dr := r.1 } s.dr.g r.1.g).dr
      au := if 0 < r.2 then (s.raiseDayTurn r.2).au else s.au } := by
  have hfire : { s with dr := r.1 }.fire s.dr.g r.1.g = State.passed { s with dr := r.1 } s.dr.g r.1.g := if_neg hp
  have hno : ¬ c.rollover = true := by rw [hc]; nofun
  rw [State.reckonNow_eq hr, hfire, if_neg hno]
  rfl

/-- R92, R96: the POWER_UP reckoning under FENCE. -/
theorem State.reckonPowerUp_fence {s : State} (h : s.sb.supply = .fence) : s.reckonPowerUp = { s with
    dr := { s.dr with deferred := some {
      causes := match s.dr.deferred with
        | some q => { q.causes with powerUp := true }
        | none => { powerUp := true }
      limit := max (match s.dr.deferred with | some q => q.limit | none => 0) s.sp.profile.catchUp } } } := by
  have hmerge : mergeDeferred s.dr.deferred { powerUp := true } s.sp.profile.catchUp = {
      causes := match s.dr.deferred with
        | some q => { q.causes with powerUp := true }
        | none => { powerUp := true }
      limit := max (match s.dr.deferred with | some q => q.limit | none => 0) s.sp.profile.catchUp } := by
    cases s.dr.deferred with
    | none => rw [mergeDeferred, Nat.zero_max]
    | some q => simp [mergeDeferred, Causes.union]
  rw [← hmerge]
  exact if_pos h

theorem State.reckonPowerUp_now {s : State} (h : s.sb.supply ≠ .fence) :
    s.reckonPowerUp = s.reckonNow { powerUp := true } s.sp.profile.catchUp := if_neg h


/-- R92, R107: in WAKING the POWER_UP reckoning reaches the Day Reckoner and the events, and no condition. -/
theorem State.reckonPowerUp_waking {s : State} (hp : s.sb.power = .waking) :
    ∃ dr au, s.reckonPowerUp = { s with dr := dr, au := au } ∧ au.level = s.au.level := by
  by_cases hf : s.sb.supply = .fence
  · exact ⟨_, _, State.reckonPowerUp_fence hf, rfl⟩
  · refine ⟨_, _, (State.reckonPowerUp_now hf).trans (State.reckonNow_asleep rfl (by rw [hp]; nofun) rfl), ?_⟩
    split
    · rw [raiseDayTurn_au]
    · rfl

end Sys2Proof.Machine

namespace Sys2Proof.Proofs

open Sys2Proof.Safety Sys2Proof.Machine

/-! ### Stages 2 and 3 (R87, R181, R182) -/

/-- R181: the end of the signature check. -/
theorem signature_found {s : State} (hs : Settled s) (hq : Quiet s) (hp : s.sb.power = .waking) (hst : s.sb.stage = 2) :
    let moved := movedTo s (s.sb.stageStart + 64)
    exec .keepSignatureCheck s = .next (State.refresh { moved with sb := { s.sb with
      intact := decide (Memory.readAll s.keep 0 16 = signature), stage := 3, stageStart := moved.now } }) := by
  intro moved
  rw [exec_signatureCheck_eq hp hst]
  have helapse : s.elapseTo (s.sb.stageStart + Config.signatureTime) = moved := State.elapseTo_quiet hq _
  have hintact : (Memory.readAll moved.keep 0 16 == signature) = decide (Memory.readAll s.keep 0 16 = signature) :=
    beq_eq_decide ..
  unfold State.signatureChecked
  simp only [helapse, hintact]
  generalize decide (Memory.readAll s.keep 0 16 = signature) = intact
  let x : State := { moved with sb := { s.sb with intact := intact, stage := 3, stageStart := moved.now } }
  have hread : x.readerFetch = none := by
    unfold State.readerFetch State.readerSpan
    exact if_neg (Nat.not_lt_zero _)
  have hfetch : x.sp.fetch.or x.readerFetch = x.sp.fetch := by rw [hread, Option.or_none]
  show Host.Outcome.next (State.conclude s x) = _
  rw [State.conclude_stage (x := x) hs.2.1 hp hp rfl rfl, hfetch]

/-- R87, R182: the end of the crystal check, and the first fetch of the profile read (logs 5 and 11). -/
theorem crystal_checked {s : State} (edge : Bool) (hs : Settled s) (hq : Quiet s) (hp : s.sb.power = .waking)
    (hst : s.sb.stage = 3) :
    let moved := if edge then s else movedTo s (s.sb.stageStart + 31250)
    ∃ t, exec (.crystalCheckEnd edge) s = .next t
      ∧ t.sb.stage = 4 ∧ t.sb.stageStart = moved.now ∧ t.now = moved.now ∧ SameKeep { moved with cu := t.cu } t
      ∧ t.cu = (if edge then { s.cu with running := true }
          else if s.cu.valid then { moved.cu with running := false, valid := false, divider := 0, hold := 0 }
          else { moved.cu with running := false })
      ∧ (s.sp.fetch = none → s.sp.reader = [] → t.sp.fetch = some {
          requester := .powerUp, generation := 0, address := 0, size := 32, abandoned := false
          due := t.now + 48 }) := by
  intro moved
  have hmoved : ∃ now cu, moved = { s with now := now, cu := cu } ∧ cu.valid = s.cu.valid
      ∧ (edge = true → cu = s.cu) := by
    cases edge with
    | true => exact ⟨s.now, s.cu, rfl, rfl, fun _ => rfl⟩
    | false => exact ⟨_, _, rfl, ClockUnit.count_valid _ _ _, nofun⟩
  have helapse : (if edge then s else s.elapseTo (s.sb.stageStart + Config.monitorWindow)) = moved := by
    rw [State.elapseTo_quiet hq]
  obtain ⟨now, cu, hm, hvalid, hcu⟩ := hmoved
  let x : State := { s with now := now, cu := cu.checked edge, sb := { s.sb with stage := 4, stageStart := now } }
  have hchecked : s.crystalChecked edge
      = { x with sp := { x.sp with fetch := x.sp.fetch.or x.readerFetch } }.refresh := by
    unfold State.crystalChecked
    simp only [helapse, hm]
    exact State.conclude_stage (x := x) hs.2.1 hp hp rfl rfl
  refine ⟨_, (exec_crystalCheck_eq edge hp hst).trans (congrArg Host.Outcome.next hchecked), ?_⟩
  rw [hm]
  refine ⟨rfl, rfl, rfl, ⟨rfl, rfl, rfl, rfl⟩, ?_, fun hfetch hreader => ?_⟩
  · show cu.checked edge = _
    cases edge with
    | true => rw [hcu rfl]; rfl
    | false => rw [← hvalid]; rfl
  · have hread : x.readerFetch = some (x.newFetch .powerUp 0 0 32) := by
      show (if s.sp.reader.length < 64 then some (x.newFetch .powerUp 0 (0 + s.sp.reader.length)
        (min 32 (64 - s.sp.reader.length))) else none) = _
      rw [hreader]
      rfl
    show s.sp.fetch.or x.readerFetch = _
    rw [hfetch, hread]
    rfl

/-! ### Stage 7 and the end of WAKING (R71, R92 to R96, R107, R162, R187) -/

section PowerUp

variable {s t : State} {now : Nat} {cu : ClockUnit} {sc : SaveController} {sb : Supply}

/-- R92 to R96, R107: what the POWER_UP reckoning makes of the day records. -/
theorem powerUp_reckoned (hp : sb.power = .waking) (hsupply : sb.supply = s.sb.supply) (hsp : s.sb.power = .waking)
    (hvalid : cu.valid = s.cu.valid) (hseconds : cu.seconds = s.cu.seconds)
    (h : Concluded ({ s with now := now, cu := cu, sc := sc, sb := sb } : State).reckonPowerUp.wakened t) :
    let raw := (s.cu.seconds + 86400 - (s.sp.profile.hour * 3600 + s.sp.profile.minute * 60)) / 86400
    let credited := min (raw - s.dr.l) s.sp.profile.catchUp
    t.dr.rewind = s.dr.rewind ∧ t.ru.layers = s.ru.layers
      ∧ (s.sb.supply = .fence →
        t.dr = { s.dr with deferred := some {
          causes := match s.dr.deferred with
            | some q => { q.causes with powerUp := true }
            | none => { powerUp := true }
          limit := max (match s.dr.deferred with | some q => q.limit | none => 0) s.sp.profile.catchUp } })
      ∧ (s.sb.supply ≠ .fence → t.dr.l = max s.dr.l raw ∧ t.dr.deferred = s.dr.deferred)
      ∧ (s.sb.supply ≠ .fence → s.cu.valid = false ∨ raw ≤ s.dr.l →
        t.dr.g = s.dr.g ∧ t.dr.forfeited = s.dr.forfeited)
      ∧ (s.sb.supply ≠ .fence → s.cu.valid = true → s.dr.l < raw →
        t.dr.g = min (s.dr.g + credited) 65535
          ∧ t.dr.forfeited = min (s.dr.forfeited + (raw - s.dr.l) - credited) 65535
          ∧ (0 < credited → s.lp.await = none → Member.dayTurn.isIn t.au.latch = true
            ∧ t.au.details.dayTurn = min 65535
              ((if Member.dayTurn.isIn s.au.latch then s.au.details.dayTurn else 0) + credited)))
      ∧ (s.dr.table = [] → t.dr.table = [] ∧ t.dr.fired = s.dr.fired)
      ∧ (s.sb.supply ≠ .fence → DaysOk s → FiringPass s.dr.g t.dr.g s.cu.seconds s t)
      ∧ (∀ r ∈ t.dr.fired.drop s.dr.fired.length, r.ran = false) := by
  intro raw credited
  let z : State := { s with now := now, cu := cu, sc := sc, sb := sb }
  change Concluded z.reckonPowerUp.wakened t at h
  obtain ⟨-, -, -, hdr⟩ := h.keep
  by_cases hf : s.sb.supply = .fence
  · have hz : z.sb.supply = .fence := hsupply.trans hf
    have hw := State.reckonPowerUp_fence hz
    have htdr : t.dr = _ := hdr.trans (congrArg State.dr hw :)
    have hlayers : t.ru.layers = _ := h.pass.layers.trans (congrArg (State.ru · |>.layers) hw :)
    have hfired : t.dr.fired = s.dr.fired := by rw [htdr]
    refine ⟨by rw [htdr], hlayers, fun _ => htdr, fun hno => absurd hf hno, fun hno => absurd hf hno,
      fun hno => absurd hf hno, fun hnil => ⟨by rw [htdr]; exact hnil, hfired⟩, fun hno => absurd hf hno, ?_⟩
    rw [hfired, List.drop_length]
    nofun
  · have hz : z.sb.supply ≠ .fence := by rw [show z.sb.supply = _ from hsupply]; exact hf
    obtain ⟨r, hr⟩ : ∃ r, z.dr.reckon z.rawDay (false || !z.cu.valid) z.sp.profile.catchUp = r := ⟨_, rfl⟩
    have hw : z.reckonPowerUp = { z with
        dr := (State.passed { z with dr := r.1 } s.dr.g r.1.g).dr
        au := if 0 < r.2 then (z.raiseDayTurn r.2).au else z.au } :=
      (State.reckonPowerUp_now hz).trans
        (State.reckonNow_asleep (c := { powerUp := true }) hr (by rw [show z.sb.power = _ from hp]; nofun) rfl)
    have hraw : z.rawDay = raw := by
      show (cu.seconds + 86400 - _) / 86400 = _
      rw [hseconds]
      rfl
    have hrest := reckon_rest z.dr z.rawDay (false || !z.cu.valid) z.sp.profile.catchUp
    rw [hr, hraw] at hrest
    obtain ⟨g, forfeited, hrec⟩ := hrest
    have hterms : s.dr.reckon raw (false || !s.cu.valid) s.sp.profile.catchUp = r := by
      rw [← hr, ← hraw, ← hvalid]
    have hidle : s.cu.valid = false ∨ raw ≤ s.dr.l → r = ({ s.dr with l := max s.dr.l raw }, 0) := fun hno =>
      hterms.symm.trans (reckon_uncredited s.dr _ (hno.imp_left fun hv => by rw [hv]; rfl))
    have hgives : s.cu.valid = true → s.dr.l < raw → r = ({ s.dr with
        g := min (s.dr.g + credited) 65535
        forfeited := min (s.dr.forfeited + (raw - s.dr.l) - credited) 65535
        l := max s.dr.l raw }, credited) := by
      intro hv hlt
      rw [← hterms, hv]
      exact reckon_credited s.dr s.sp.profile.catchUp hlt
    let o := firingPass s.dr.g r.1.g cu.seconds r.1.table r.1.fired
    have htdr : t.dr = { r.1 with table := o.table, fired := o.fired } := hdr.trans (congrArg State.dr hw :)
    have hlayers : t.ru.layers = s.ru.layers := h.pass.layers.trans (congrArg (State.ru · |>.layers) hw :)
    have htable : r.1.table = s.dr.table := by rw [hrec]
    have hfired : r.1.fired = s.dr.fired := by rw [hrec]
    have htg : t.dr.g = r.1.g := by rw [htdr]
    refine ⟨by rw [htdr, hrec], hlayers, fun hfence => absurd hfence hf,
      fun _ => ⟨by rw [htdr, hrec], by rw [htdr, hrec]⟩, fun _ hno => ?_, fun _ hv hlt => ⟨?_, ?_, fun hc hn => ?_⟩, fun hnil => ?_, fun _ hd => ?_, fun x hx => ?_⟩
    · rw [htdr, hidle hno]
      exact ⟨rfl, rfl⟩
    · rw [htg, hgives hv hlt]
    · rw [htdr, hgives hv hlt]
    · have hcredit : r.2 = credited := by rw [hgives hv hlt]
      rw [hcredit, if_pos hc] at hw
      have hau : z.reckonPowerUp.au = (z.raiseDayTurn credited).au := (congrArg State.au hw :)
      have hlp : z.reckonPowerUp.wakened.lp = s.lp := (congrArg State.lp hw :)
      obtain ⟨hlatch, hdetails⟩ := h.unheld (by rw [hlp]; exact hn)
      have hturn : z.reckonPowerUp.wakened.au.details.dayTurn = z.reckonPowerUp.au.details.dayTurn := rfl
      rw [hlatch, hdetails, State.wakened_report, State.wakened_latch, State.report_details, hturn, hau,
        raiseDayTurn_au, Member.isIn_or, Member.isIn_set]
      exact ⟨by simp, rfl⟩
    · have hnone : o = { table := [], fired := s.dr.fired, actions := [] } := by
        show firingPass s.dr.g r.1.g cu.seconds r.1.table r.1.fired = _
        rw [htable, hnil, hfired]
        rfl
      rw [htdr, hnone]
      exact ⟨rfl, rfl⟩
    · have hfire : { z with dr := r.1 }.fire s.dr.g t.dr.g = State.passed { z with dr := r.1 } s.dr.g t.dr.g :=
        if_neg (by rw [show z.sb.power = _ from hp]; nofun)
      have hpass : PassOf s { z with dr := r.1 } := ⟨htable, hfired, hseconds, hp.trans hsp.symm, ⟨rfl, rfl, rfl, rfl⟩⟩
      have hto : PassTo ({ z with dr := r.1 }.fire s.dr.g t.dr.g) t := by
        rw [hfire, htg]
        exact ⟨by rw [htdr]; rfl, by rw [htdr]; rfl, hlayers, h.pass.cache.trans (congrArg (State.ru · |>.cache) hw :),
          h.pass.loadList.trans (congrArg (State.sp · |>.loadList) hw :)⟩
      have hmax : s.dr.g ≤ 65535 := by
        obtain ⟨-, -, hmax, -⟩ := hd
        exact hmax
      have hbounds : s.dr.g ≤ t.dr.g ∧ t.dr.g ≤ 65535 := by
        by_cases hno : s.cu.valid = false ∨ raw ≤ s.dr.l
        · rw [htg, hidle hno]
          exact ⟨le_refl _, hmax⟩
        · rw [not_or, Bool.not_eq_false, Nat.not_le] at hno
          rw [htg, hgives hno.1 hno.2]
          exact ⟨le_min (Nat.le_add_right ..) hmax, min_le_right ..⟩
      exact hpass.firingPass (tableOk_of_daysOk hd) hbounds.1 hbounds.2 hto
    · obtain ⟨new, hnew, hran⟩ := firingPass_appends s.dr.g r.1.g cu.seconds r.1.table r.1.fired
      rw [htdr, ← hfired] at hx
      change x ∈ (firingPass s.dr.g r.1.g cu.seconds r.1.table r.1.fired).fired.drop _ at hx
      rw [hnew, List.drop_left] at hx
      exact hran x hx

end PowerUp

/-- R162: the conditions at the entry to ACTIVE, by what their owners hold. -/
theorem conditions_taken {s w t : State} (h : Concluded w.wakened t) (hlevel : w.au.level = s.au.level)
    (hlp : w.lp = s.lp) {m : Member} {v : Bool} (hv : w.holds m = v) : m.isIn t.au.level = v
      ∧ (s.lp.await = none → v = true → m.isIn s.au.level = false → m.isIn t.au.latch = true) := by
  refine ⟨by rw [h.levels rfl, State.wakened_holds, hv], fun hn htrue hclear => ?_⟩
  obtain ⟨hlatch, -⟩ := h.unheld (show w.lp.await = none by rw [hlp]; exact hn)
  rw [hlatch, State.wakened_report, State.wakened_latch, hv, htrue, hlevel, hclear]
  simp

/-- R71: the scrub goes on with the next slot. -/
theorem scrub_goes_on {s : State} (mv : Nat) (hs : Settled s) (hq : Quiet s) (hp : s.sb.power = .waking)
    (hst : s.sb.stage = 7) (hn : s.sb.scrubSlot < s.slotCount) : ∃ t, s.scrubbed mv = t
      ∧ t.sc = { s.sc with slots := s.sc.slots ++ [s.examineSlot s.sb.scrubSlot] } ∧ t.keep = s.keep ∧ t.face = s.face
      ∧ t.sb.power = .waking ∧ t.sb.stage = 7 ∧ t.sb.scrubSlot = s.sb.scrubSlot + 1 ∧ t.dr = s.dr := by
  let x := (s.slotFound mv).beginScrub (s.sb.scrubSlot + 1)
  have hend : s.scrubbed mv = { x with sp := { x.sp with fetch := x.sp.fetch.or x.readerFetch } }.refresh := by
    rw [State.scrubbed_eq hq, if_pos hn]
    exact State.conclude_stage (x := x) hs.2.1 hp hp rfl rfl
  exact ⟨_, hend, rfl, rfl, rfl, hp, hst, rfl, rfl⟩

/-- R71, R162, R187: the scrub of the last slot, and with it WAKING, ends. -/
theorem waking_ends {s t : State} (mv : Nat) (hq : Quiet s) (hp : s.sb.power = .waking)
    (hn : s.slotCount ≤ s.sb.scrubSlot) (ht : s.scrubbed mv = t) :
    t.sc = { s.sc with slots := s.sc.slots ++ [s.examineSlot s.sb.scrubSlot] } ∧ t.keep = s.keep ∧ t.face = s.face
      ∧ t.sb.power = .active ∧ t.sb.stage = 11 ∧ t.se.nextBoundary = t.now + 15625 ∧ t.ru.phase = 0
      ∧ t.sb.cell = measuredClass s.sb.cell mv
      ∧ Concluded (s.lastFound mv).reckonPowerUp.wakened t := by
  obtain ⟨dr, au, hw, -⟩ := State.reckonPowerUp_waking (s := s.lastFound mv) hp
  have hend : t = State.conclude s (s.lastFound mv).reckonPowerUp.wakened :=
    ht.symm.trans (State.scrubbed_last hq hn mv)
  have h : Concluded (s.lastFound mv).reckonPowerUp.wakened t := hend ▸ State.concluded s _
  obtain ⟨hpower, hnext, hphase⟩ := State.conclude_wakened s (s.lastFound mv).reckonPowerUp
  rw [← hend] at hpower hnext hphase
  obtain ⟨hkeep, hface, -, -⟩ := h.keep
  refine ⟨h.sc.trans (congrArg State.sc hw :), hkeep.trans (congrArg State.keep hw :),
    hface.trans (congrArg State.face hw :), hpower, (congrArg Supply.stage h.supply :), ?_, hphase, ?_, h⟩
  · rw [hnext, h.now]
    rfl
  · have hcell : t.sb.cell = (s.lastFound mv).reckonPowerUp.sb.cell := (congrArg Supply.cell h.supply :)
    rw [hcell, hw]
    rfl

/-- R162: every condition at the entry to ACTIVE. -/
theorem all_conditions_taken {s t : State} {mv : Nat} (hp : s.sb.power = .waking)
    (h : Concluded (s.lastFound mv).reckonPowerUp.wakened t) :
    let conditions : List (Member × Bool) := [
      (.slotDamaged, (t.sc.slots.take 8).any fun x => decide (x = .damaged)),
      (.firedWaiting, !t.dr.fired.isEmpty), (.clockInvalid, !s.cu.valid),
      (.supplyWarn, decide (s.sb.supply ≠ .normal)), (.supplyFence, decide (s.sb.supply = .fence)),
      (.cellLow, decide (t.sb.cell = .low)), (.profileDefault, decide (s.sb.profileStatus = .defaulted))]
    ∀ x ∈ conditions, x.1.isIn t.au.level = x.2
      ∧ (s.lp.await = none → x.2 = true → x.1.isIn s.au.level = false → x.1.isIn t.au.latch = true) := by
  obtain ⟨dr, au, hw, hlevel⟩ := State.reckonPowerUp_waking (s := s.lastFound mv) hp
  obtain ⟨-, -, -, hdr⟩ := h.keep
  have hcell : t.sb.cell = (s.lastFound mv).reckonPowerUp.sb.cell := (congrArg Supply.cell h.supply :)
  have hsc : t.sc = (s.lastFound mv).reckonPowerUp.sc := h.sc
  have htdr : t.dr = (s.lastFound mv).reckonPowerUp.dr := hdr
  have hcu : (s.lastFound mv).reckonPowerUp.cu.valid = s.cu.valid :=
    (congrArg (State.cu · |>.valid) hw :).trans (ClockUnit.count_valid ..)
  have hsb : (s.lastFound mv).reckonPowerUp.sb = (s.lastFound mv).sb := (congrArg State.sb hw :)
  have haul : (s.lastFound mv).reckonPowerUp.au.level = s.au.level := (congrArg (State.au · |>.level) hw :).trans hlevel
  have hlp : (s.lastFound mv).reckonPowerUp.lp = s.lp := (congrArg State.lp hw :)
  have hsupply : (s.lastFound mv).sb.supply = s.sb.supply := rfl
  have hprofile : (s.lastFound mv).sb.profileStatus = s.sb.profileStatus := rfl
  simp only [List.forall_mem_cons, List.not_mem_nil, false_imp_iff, implies_true, and_true]
  refine ⟨conditions_taken h haul hlp ?_, conditions_taken h haul hlp ?_, conditions_taken h haul hlp ?_,
    conditions_taken h haul hlp ?_, conditions_taken h haul hlp ?_, conditions_taken h haul hlp ?_,
    conditions_taken h haul hlp ?_⟩
  · rw [State.holds, State.damagedSet_ne_zero, hsc]
  · rw [State.holds, htdr]
  · rw [State.holds, hcu]
  · rw [State.holds, hsb, hsupply]
    cases s.sb.supply <;> rfl
  · rw [State.holds, hsb, hsupply]
    cases s.sb.supply <;> rfl
  · rw [State.holds, hcell]
    cases (s.lastFound mv).reckonPowerUp.sb.cell <;> rfl
  · rw [State.holds, hsb, hprofile]
    cases s.sb.profileStatus <;> rfl

/-- Settles O50: the ends of the signature check, the crystal check and the scrub. -/
theorem wakingStagesEnd : Obligations.WakingStagesEnd := by
  unfold Obligations.WakingStagesEnd
  intro edge mv s hs hq hp
  refine ⟨signature_found hs hq hp, crystal_checked edge hs hq hp, fun hst => ?_⟩
  intro n header st
  have hfound : s.examineSlot n = st := s.examineSlot_eq n
  refine ⟨_, exec_scrubSlot_eq mv hp hst, ?_⟩
  by_cases hn : n < s.slotCount
  · obtain ⟨t, ht, hsc, hkeep, hface, hrest⟩ := scrub_goes_on mv hs hq hp hst hn
    rw [ht]
    rw [hfound] at hsc
    exact ⟨hsc, hkeep, hface, fun _ => hrest, fun hlast => absurd hn (Nat.not_lt.mpr hlast)⟩
  · obtain ⟨hsc, hkeep, hface, hpower, hstage, hnext, hphase, hcell, h⟩ := waking_ends mv hq hp (Nat.not_lt.mp hn) rfl
    generalize s.scrubbed mv = t at *
    have hdays := powerUp_reckoned (s := s) (now := (s.slotFound mv).now) (cu := (s.slotFound mv).cu)
      (sc := (s.slotFound mv).sc) (sb := (s.lastFound mv).sb) hp rfl hp (ClockUnit.count_valid ..)
      (ClockUnit.count_seconds ..) h
    rw [hfound] at hsc
    refine ⟨hsc, hkeep, hface, fun hlt => absurd hlt hn, fun _ => ⟨hpower, hstage, hnext, hphase, ?_,
      all_conditions_taken hp h, hdays⟩⟩
    rw [hcell]
    cases s.sb.cell <;> rfl

end Sys2Proof.Proofs
end

section
/-! O37: civil time (R79). -/

set_option Elab.async false

namespace Sys2Proof.Machine

/-! ### Months (R79) -/

/-- In a rising list the entries up to a value come first. -/
theorem getD_le_iff_lt_filter {l : List Nat} (hl : l.Pairwise (· < ·)) (d : Nat) {i : Nat} (hi : i < l.length) :
    l.getD i 0 ≤ d ↔ i < (l.filter fun x => decide (x ≤ d)).length := by
  induction l generalizing i with
  | nil => exact absurd hi (Nat.not_lt_zero i)
  | cons x xs ih =>
    obtain ⟨hx, hxs⟩ := List.pairwise_cons.mp hl
    by_cases hxd : x ≤ d
    · rw [List.filter_cons_of_pos (p := fun y => decide (y ≤ d)) (decide_eq_true hxd), List.length_cons]
      cases i with
      | zero => simp [hxd]
      | succ i =>
        rw [List.getD_cons_succ, Nat.succ_lt_succ_iff]
        exact ih hxs (Nat.lt_of_succ_lt_succ hi)
    · have hnone : (x :: xs).filter (fun y => decide (y ≤ d)) = [] := by
        rw [List.filter_eq_nil_iff]
        intro y hy hyd
        rcases List.mem_cons.mp hy with rfl | hy
        · exact hxd (of_decide_eq_true hyd)
        · exact hxd ((hx y hy).le.trans (of_decide_eq_true hyd))
      rw [hnone]
      refine iff_of_false (fun hle => hxd ?_) (Nat.not_lt_zero i)
      cases i with
      | zero => exact hle
      | succ i =>
        have hmem : xs.getD i 0 ∈ xs := by
          rw [List.getD_eq_getElem _ _ (Nat.lt_of_succ_lt_succ hi)]
          exact List.getElem_mem _
        exact (hx _ hmem).le.trans hle

/-- R79 (5): the month of a day-of-year is the last that has begun. -/
theorem monthStart_le_iff (leap : Bool) (d : Nat) {m : Nat} (h1 : 1 ≤ m) (h12 : m ≤ 12) :
    monthStart leap m ≤ d ↔ m ≤ monthOf leap d := by
  have hrising : (monthStarts leap).Pairwise (· < ·) := by cases leap <;> decide
  have hlength : (monthStarts leap).length = 12 := by cases leap <;> rfl
  have h := getD_le_iff_lt_filter hrising d (i := m - 1) (by omega)
  rw [monthStart, monthOf, h]
  omega

theorem monthOf_range (leap : Bool) (d : Nat) : 1 ≤ monthOf leap d ∧ monthOf leap d ≤ 12 := by
  refine ⟨(monthStart_le_iff leap d (le_refl 1) (by decide)).mp ?_, ?_⟩
  · cases leap <;> exact Nat.zero_le d
  · have hlength : (monthStarts leap).length = 12 := by cases leap <;> rfl
    exact hlength ▸ List.length_filter_le _ _

/-- R79: the days in a year. -/
def yearDays (leap : Bool) : Nat := if leap then 366 else 365

/-- R79: a month ends where the next begins, and the last with the year. -/
theorem monthStart_add_monthDays (leap : Bool) {m : Nat} (h1 : 1 ≤ m) (h12 : m ≤ 12) :
    monthStart leap m + monthDays leap m = if m = 12 then yearDays leap else monthStart leap (m + 1) := by
  interval_cases m <;> cases leap <;> rfl

theorem monthStart_add_monthDays_le (leap : Bool) {m : Nat} (h1 : 1 ≤ m) (h12 : m ≤ 12) :
    monthStart leap m + monthDays leap m ≤ yearDays leap := by
  interval_cases m <;> cases leap <;> decide

/-- R79 (5): a day of a year lies within its month. -/
theorem day_le_monthDays (leap : Bool) {d : Nat} (hd : d < yearDays leap) :
    d - monthStart leap (monthOf leap d) + 1 ≤ monthDays leap (monthOf leap d) := by
  obtain ⟨h1, h12⟩ := monthOf_range leap d
  have hend := monthStart_add_monthDays leap h1 h12
  have hstart := (monthStart_le_iff leap d h1 h12).mpr (le_refl _)
  have hlast : d < monthStart leap (monthOf leap d) + monthDays leap (monthOf leap d) := by
    rw [hend]
    split
    · exact hd
    · rename_i hne
      have hnext := monthStart_le_iff leap d (m := monthOf leap d + 1) (by omega) (by omega)
      omega
  omega

/-! ### Years (R79) -/

/-- R79: the leap years of the clock range. -/
theorem leapYear_eq {year : Nat} (h : 2000 ≤ year) : leapYear year = decide ((year - 2000) % 4 = 0) := by
  rw [leapYear, beq_eq_decide, decide_eq_decide]
  omega

theorem yearOf_fst (days : Nat) : (yearOf days).1 = if days % 1461 < 366 then 2000 + 4 * (days / 1461)
    else 2000 + 4 * (days / 1461) + 1 + (days % 1461 - 366) / 365 := apply_ite Prod.fst _ _ _

theorem yearOf_snd (days : Nat) : (yearOf days).2 = if days % 1461 < 366 then days % 1461
    else (days % 1461 - 366) % 365 := apply_ite Prod.snd _ _ _

/-- R79 (3, 4): the year of a day count, its length and the days before it. -/
theorem yearOf_spec (days : Nat) :
    let y := yearOf days
    2000 ≤ y.1 ∧ y.1 ≤ 2003 + 4 * (days / 1461) ∧ leapYear y.1 = decide (days % 1461 < 366)
      ∧ y.2 < yearDays (leapYear y.1) ∧ daysBefore y.1 + y.2 = days := by
  intro y
  have hq : days % 1461 < 1461 := Nat.mod_lt _ (by decide)
  by_cases hleap : days % 1461 < 366
  · have hy : y = (2000 + 4 * (days / 1461), days % 1461) := if_pos hleap
    have hyear : leapYear y.1 = true := by
      rw [hy, leapYear_eq (by omega), decide_eq_true_eq]
      omega
    have hbefore : daysBefore y.1 = 1461 * (days / 1461) := by
      rw [hy, daysBefore]
      simp only
      rw [if_pos (by omega)]
      omega
    rw [hyear, hbefore, decide_eq_true hleap, hy]
    exact ⟨by omega, by omega, rfl, hleap, by omega⟩
  · have hy : y = (2000 + 4 * (days / 1461) + 1 + (days % 1461 - 366) / 365, (days % 1461 - 366) % 365) := if_neg hleap
    have hyear : leapYear y.1 = false := by
      rw [hy, leapYear_eq (by omega), decide_eq_false_iff_not]
      omega
    have hbefore : daysBefore y.1 = 1461 * (days / 1461) + 366 + 365 * ((days % 1461 - 366) / 365) := by
      rw [hy, daysBefore]
      simp only
      rw [if_neg (by omega)]
      omega
    rw [hyear, hbefore, decide_eq_false hleap, hy]
    exact ⟨by omega, by omega, rfl, Nat.mod_lt _ (by decide), by omega⟩

/-- R74, R79: the days before a year and in it stay within the clock range. -/
theorem daysBefore_add_yearDays_le {year : Nat} (h0 : 2000 ≤ year) (h : year ≤ 2099) :
    daysBefore year + yearDays (leapYear year) ≤ 36525 := by
  rw [leapYear_eq h0, daysBefore, yearDays]
  simp only [decide_eq_true_eq]
  split <;> omega

/-- R74, R81: a date and time that CLOCK-SET takes gives a seconds count of the clock range. -/
theorem secondsOf_le {year month day hour minute second : Nat}
    (h : dateBad year month day hour minute second = false) :
    secondsOf year month day hour minute second ≤ 3155759999 := by
  simp only [dateBad, Bool.or_eq_false_iff, decide_eq_false_iff_not, Nat.not_lt] at h
  obtain ⟨⟨⟨⟨⟨⟨⟨⟨hlow, hhigh⟩, hmonth⟩, h12⟩, hday0⟩, hday⟩, hhour⟩, hminute⟩, hsecond⟩ := h
  have hyear := daysBefore_add_yearDays_le hlow hhigh
  have hin := monthStart_add_monthDays_le (leapYear year) (m := month) (by omega) h12
  rw [secondsOf]
  omega

end Sys2Proof.Machine

namespace Sys2Proof.Proofs

open Sys2Proof.Machine

/-- Settles O37: the day count falls in its year, and the day-of-year in its month; the conversion back adds them up. -/
theorem civilFormGoesBack : Obligations.CivilFormGoesBack := by
  unfold Obligations.CivilFormGoesBack
  intro first
  have hfirst : ∀ leap month, first leap month = monthStart leap month := fun leap month => by cases leap <;> rfl
  refine ⟨?_, ?_, fun year month hyear h1 h12 => ?_⟩
  · intro n hn c days secs q base leap
    obtain ⟨hlow, hhigh, hleap, hday, hdays⟩ := yearOf_spec days
    obtain ⟨h1, h12⟩ := monthOf_range (leapYear c.year) c.dayOfYear
    have hyear : c.year = if leap then base else base + 1 + (q - 366) / 365 :=
      (yearOf_fst days).trans (by simp only [leap, decide_eq_true_eq]; rfl)
    have hofYear : c.dayOfYear = if leap then q else (q - 366) % 365 :=
      (yearOf_snd days).trans (by simp only [leap, decide_eq_true_eq]; rfl)
    have hmonth : c.month = monthOf (leapYear c.year) c.dayOfYear := rfl
    have hcday : c.day = c.dayOfYear - monthStart (leapYear c.year) c.month + 1 := rfl
    have hcleap : leapYear c.year = leap := hleap
    change c.dayOfYear < yearDays (leapYear c.year) at hday
    change daysBefore c.year + c.dayOfYear = days at hdays
    have hstart := (monthStart_le_iff (leapYear c.year) c.dayOfYear h1 h12).mpr (le_refl _)
    have hin := day_le_monthDays (leapYear c.year) hday
    rw [← hmonth] at h1 h12 hstart hin
    have hback : secondsOf c.year c.month c.day (secs / 3600) (secs % 3600 / 60) (secs % 60) = n := by
      rw [secondsOf, hcday]
      omega
    simp only [hfirst, ← hcleap]
    refine ⟨rfl, rfl, rfl, by rw [hcleap]; exact hyear, by rw [hcleap]; exact hofYear, hstart, fun m hm hm12 => ?_, rfl, rfl, hlow,
      hhigh.trans (by omega), h1, h12, Nat.succ_pos _, hin, ?_, ?_, ?_, hback⟩
    · by_contra hle
      have := (monthStart_le_iff (leapYear c.year) c.dayOfYear (m := m) (by omega) hm12).mp (Nat.not_lt.mp hle)
      omega
    · show secs / 3600 ≤ 23
      omega
    · show secs % 3600 / 60 ≤ 59
      omega
    · show secs % 60 ≤ 59
      omega
  · intro year month day hour minute second hyear _ _ hday k years
    rw [hfirst, ← leapYear_eq hyear]
    show (years + monthStart (leapYear year) month + (day - 1)) * 86400 + _ + _ + _ = _
    rw [Nat.add_sub_assoc hday]
  · rw [leapYear_eq hyear]
    by_cases hleap : (year - 2000) % 4 = 0
    · rw [decide_eq_true hleap]
      simp only [hleap, if_true]
      interval_cases month <;> rfl
    · rw [decide_eq_false hleap]
      simp only [hleap, if_false]
      interval_cases month <;> rfl

end Sys2Proof.Proofs
end

section
/-! SUPPORT. The clock and day records (R74, R84, R89, R98, R105, R106): what firing passes, reckonings and the passing of
time keep of their ranges, and that G, L and the rewind total fall in a full format alone. -/

set_option Elab.async false

namespace Sys2Proof.Machine

open Sys2Proof.Safety

/-! ### The records -/

/-- R74, R89, R98, R106: S, and the Day Reckoner's records but for the deferred reckoning. -/
def State.dayPart (s : State) : Nat × DayReckoner := (s.cu.seconds, { s.dr with deferred := none })

/-- R84, R89: neither G nor L nor the rewind total has fallen. -/
abbrev DaysRise (s t : State) : Prop := s.dr.g ≤ t.dr.g ∧ s.dr.l ≤ t.dr.l ∧ s.dr.rewind ≤ t.dr.rewind

/-- An operation keeps the records in range, and lets none of G, L and the rewind total fall. -/
def HoldsDays (s t : State) : Prop := DaysOk s → DaysOk t ∧ DaysRise s t

/-- The same of an event, in which a full format may be under way. -/
def DatesEvent (s t : State) : Prop :=
  DaysOk s → DaysOk t ∧ ((∀ f ∈ s.sb.format, f.kind ≠ .full) → DaysRise s t)

theorem daysRise_refl (s : State) : DaysRise s s := ⟨le_refl _, le_refl _, le_refl _⟩

theorem DaysRise.trans {s t u : State} (h : DaysRise s t) (h' : DaysRise t u) : DaysRise s u :=
  ⟨h.1.trans h'.1, h.2.1.trans h'.2.1, h.2.2.trans h'.2.2⟩

theorem holdsDays_of_part {s t : State} (h : t.dayPart = s.dayPart := by rfl) : HoldsDays s t := by
  simp only [State.dayPart, Prod.mk.injEq, DayReckoner.mk.injEq] at h
  obtain ⟨hseconds, hg, hl, hforfeited, hrewind, htable, hfired, -⟩ := h
  intro hs
  simp only [DaysOk, DaysRise, hseconds, hg, hl, hforfeited, hrewind, htable, hfired]
  exact ⟨hs, le_refl _, le_refl _, le_refl _⟩

namespace HoldsDays

theorem refl (s : State) : HoldsDays s s := fun h => ⟨h, daysRise_refl s⟩

theorem trans {s t u : State} (h : HoldsDays s t) (h' : HoldsDays t u) : HoldsDays s u := fun hs => by
  obtain ⟨ht, hst⟩ := h hs
  obtain ⟨hu, htu⟩ := h' ht
  exact ⟨hu, hst.trans htu⟩

/-- A change of nothing of the records may follow. -/
theorem same {s t u : State} (h : HoldsDays s t) (hu : u.dayPart = t.dayPart) : HoldsDays s u :=
  h.trans (holdsDays_of_part hu)

/-- An operation made where its condition holds. -/
theorem whenNot {s t : State} {p : Prop} [Decidable p] (h : ¬ p → HoldsDays s t) : HoldsDays s (if p then s else t) := by
  split
  · exact refl s
  · rename_i hp
    exact h hp

end HoldsDays

namespace DatesEvent

theorem of_holds {s t : State} (h : HoldsDays s t) : DatesEvent s t := fun hs => by
  obtain ⟨ht, hrise⟩ := h hs
  exact ⟨ht, fun _ => hrise⟩

theorem refl (s : State) : DatesEvent s s := of_holds (HoldsDays.refl s)

theorem trans {s t u : State} (h : DatesEvent s t) (h' : HoldsDays t u) : DatesEvent s u := fun hs => by
  obtain ⟨ht, hst⟩ := h hs
  obtain ⟨hu, htu⟩ := h' ht
  exact ⟨hu, fun hf => (hst hf).trans htu⟩

theorem whenever {s t : State} {p : Prop} [Decidable p] (h : p → DatesEvent s t) : DatesEvent s (if p then t else s) := by
  split
  · rename_i hp
    exact h hp
  · exact refl s

end DatesEvent

/-! ### The day table (R98, R103 to R105, R109) -/

/-- R98: what tells an entry's place and range. -/
def Entry.key (e : Entry) : Nat × EntryKind := (e.id, e.kind)

/-- R98: strictly ascending ids, at most 32 entries, and every period and phase in range. -/
structure TableRange (table : List Entry) : Prop where
  ids : table.Pairwise fun a b => a.id < b.id
  room : table.length ≤ 32
  entries : ∀ e ∈ table, e.id ≤ 254 ∧ periodOk e.kind = true

/-- R105: what a pass and a refill leave of a table: entries of it, in their order. -/
theorem TableRange.of_keys {table table' : List Entry} (h : TableRange table)
    (hsub : (table'.map Entry.key).Sublist (table.map Entry.key)) : TableRange table' := by
  refine ⟨?_, ?_, fun e he => ?_⟩
  · have hids := List.pairwise_map.mp ((List.pairwise_map (f := Entry.key) (R := fun a b => a.1 < b.1)).mpr h.ids |>.sublist hsub)
    exact hids
  · have hlength := hsub.length_le
    rw [List.length_map, List.length_map] at hlength
    exact hlength.trans h.room
  · obtain ⟨x, hx, hkey⟩ := List.mem_map.mp (hsub.subset (List.mem_map_of_mem he))
    obtain ⟨hid, hkind⟩ := Prod.mk.inj hkey
    rw [← hid, ← hkind]
    exact h.entries x hx

/-- R105: an entry is DUE only while the fired list is full. -/
def DueWhenFull (table : List Entry) (fired : List Fired) : Prop := (∃ e ∈ table, e.due = true) → fired.length = 16

theorem daysOk_iff (s : State) : DaysOk s ↔ (s.cu.seconds ≤ 3155759999 ∧ s.dr.l ≤ 36525 ∧ s.dr.g ≤ 65535
    ∧ s.dr.forfeited ≤ 65535 ∧ s.dr.rewind ≤ 4294967295)
    ∧ TableRange s.dr.table ∧ s.dr.fired.length ≤ 16 ∧ DueWhenFull s.dr.table s.dr.fired := by
  constructor
  · rintro ⟨h1, h2, h3, h4, h5, hids, hroom, hentries, hfired, hdue⟩
    exact ⟨⟨h1, h2, h3, h4, h5⟩, ⟨hids, hroom, hentries⟩, hfired, hdue⟩
  · rintro ⟨⟨h1, h2, h3, h4, h5⟩, ⟨hids, hroom, hentries⟩, hfired, hdue⟩
    exact ⟨h1, h2, h3, h4, h5, hids, hroom, hentries, hfired, hdue⟩

/-- A change of the day table and the fired list alone. -/
theorem holdsDays_of_table {s t : State} {table : List Entry} {fired : List Fired}
    (ht : t.dayPart = ({ s with dr := { s.dr with table := table, fired := fired } } : State).dayPart)
    (h : DaysOk s → TableRange table ∧ fired.length ≤ 16 ∧ DueWhenFull table fired) : HoldsDays s t := by
  refine HoldsDays.same (t := { s with dr := { s.dr with table := table, fired := fired } }) (fun hs => ?_) ht
  obtain ⟨hranges, -⟩ := (daysOk_iff s).mp hs
  exact ⟨(daysOk_iff _).mpr ⟨hranges, h hs⟩, daysRise_refl s⟩

/-- R103 to R105, R109: what a pass and a refill do with an entry: it is kept, DUE only for want of room, or its record is
listed while there is room, and then no longer DUE if it stays. -/
def PassStep (e : Entry) (o o' : PassOut) : Prop :=
  (∃ e', e'.key = e.key ∧ (e'.due = true → 16 ≤ o.fired.length) ∧ o'.table = o.table ++ [e'] ∧ o'.fired = o.fired)
  ∨ (o.fired.length < 16 ∧ (∃ r, o'.fired = o.fired ++ [r])
    ∧ (o'.table = o.table ∨ ∃ e', e'.key = e.key ∧ e'.due = false ∧ o'.table = o.table ++ [e']))

/-- R103 to R105: an entry of a firing pass. -/
theorem PassOut.visit_step {o : PassOut} {e : Entry} (gOld gNew seconds : Nat)
    (hdue : e.due = true → 16 ≤ o.fired.length) : PassStep e o (o.visit gOld gNew seconds e) := by
  unfold PassOut.visit
  split
  · exact .inl ⟨e, rfl, hdue, rfl, rfl⟩
  · rename_i f _
    split
    · have hgather : (e.gather f).key = e.key ∧ (e.gather f).due = e.due := by
        unfold Entry.gather
        split <;> exact ⟨rfl, rfl⟩
      exact .inl ⟨_, hgather.1, fun h => hdue (hgather.2 ▸ h), rfl, rfl⟩
    · rename_i hnot
      split
      · rename_i hroom
        refine .inr ⟨hroom, ⟨_, rfl⟩, ?_⟩
        show (if e.kind.stays then o.table ++ [e] else o.table) = o.table
          ∨ ∃ e', e'.key = e.key ∧ e'.due = false ∧ (if e.kind.stays then o.table ++ [e] else o.table) = o.table ++ [e']
        cases e.kind.stays with
        | true => exact .inr ⟨e, rfl, Bool.eq_false_iff.mpr hnot, rfl⟩
        | false => exact .inl rfl
      · rename_i hfull
        exact .inl ⟨e.makeDue f, rfl, fun _ => Nat.le_of_not_lt hfull, rfl, rfl⟩

/-- R109: an entry of a refill. -/
theorem PassOut.refill_step (o : PassOut) (e : Entry) (g seconds : Nat) : PassStep e o (o.refill g seconds e) := by
  unfold PassOut.refill
  split
  · rename_i hlisted
    rw [Bool.and_eq_true] at hlisted
    refine .inr ⟨of_decide_eq_true hlisted.2, ⟨_, rfl⟩, ?_⟩
    cases hstays : e.kind.stays with
    | true => exact .inr ⟨{ e with due := false, accumulated := 0, latest := 0 }, rfl, rfl, rfl⟩
    | false => exact .inl rfl
  · rename_i hkept
    refine .inl ⟨e, rfl, fun hdue => ?_, rfl, rfl⟩
    by_contra hroom
    exact hkept (by simp [hdue, Nat.lt_of_not_le hroom])

/-- R105, R109: what a pass or a refill has kept when the entries of `pre` have been visited. -/
structure PassHolds (pre : List Entry) (o : PassOut) : Prop where
  keys : (o.table.map Entry.key).Sublist (pre.map Entry.key)
  room : o.fired.length ≤ 16
  due : DueWhenFull o.table o.fired

/-- R105: an entry appended to the table, DUE only while the list is full. -/
theorem DueWhenFull.append {table : List Entry} {fired : List Fired} {e : Entry} (h : DueWhenFull table fired)
    (he : e.due = true → fired.length = 16) : DueWhenFull (table ++ [e]) fired := by
  rintro ⟨x, hx, hdue⟩
  rcases List.mem_append.mp hx with hx | hx
  · exact h ⟨x, hx, hdue⟩
  · exact he (List.mem_singleton.mp hx ▸ hdue)

theorem PassHolds.step {pre : List Entry} {o o' : PassOut} {e : Entry} (h : PassHolds pre o) (hstep : PassStep e o o') :
    PassHolds (pre ++ [e]) o' := by
  obtain ⟨hkeys, hroom, hdue⟩ := h
  have hkept : ∀ e' : Entry, e'.key = e.key →
      ((o.table ++ [e']).map Entry.key).Sublist ((pre ++ [e]).map Entry.key) := by
    intro e' he
    rw [List.map_append, List.map_append, List.map_singleton, List.map_singleton, he]
    exact hkeys.append (List.Sublist.refl _)
  rcases hstep with ⟨e', he, hfull, htable, hfired⟩ | ⟨hless, ⟨r, hfired⟩, htable⟩
  · rw [← hfired] at hroom hdue hfull
    exact ⟨by rw [htable]; exact hkept e' he, hroom,
      by rw [htable]; exact hdue.append fun h => Nat.le_antisymm hroom (hfull h)⟩
  · have hnone : DueWhenFull o.table o'.fired := fun h => absurd (hdue h) hless.ne
    have hlength : o'.fired.length ≤ 16 := by
      rw [hfired, List.length_append, List.length_singleton]
      exact hless
    rcases htable with htable | ⟨e', he, hnot, htable⟩
    · refine ⟨?_, hlength, by rw [htable]; exact hnone⟩
      rw [htable, List.map_append]
      exact hkeys.trans (List.sublist_append_left ..)
    · exact ⟨by rw [htable]; exact hkept e' he, hlength,
        by rw [htable]; exact hnone.append fun h => absurd h (Bool.eq_false_iff.mp hnot)⟩

/-- R105: a full list stays full. -/
theorem PassStep.full {e : Entry} {o o' : PassOut} (h : PassStep e o o') (hfull : 16 ≤ o.fired.length) :
    16 ≤ o'.fired.length := by
  rcases h with ⟨_, _, _, _, hfired⟩ | ⟨hless, _⟩
  · rwa [hfired]
  · exact absurd hfull (Nat.not_le.mpr hless)

/-- R103 to R105: a firing pass. -/
theorem firingPass_holds (gOld gNew seconds : Nat) {table : List Entry} {fired : List Fired}
    (hroom : fired.length ≤ 16) (hdue : DueWhenFull table fired) :
    PassHolds table (firingPass gOld gNew seconds table fired) := by
  have hfrom : ∀ (rest pre : List Entry) (o : PassOut), PassHolds pre o →
      (∀ e ∈ rest, e.due = true → 16 ≤ o.fired.length) →
      PassHolds (pre ++ rest) (rest.foldl (PassOut.visit gOld gNew seconds) o) := by
    intro rest
    induction rest with
    | nil =>
      intro pre o h _
      rwa [List.append_nil]
    | cons e rest ih =>
      intro pre o h hrest
      have hstep := o.visit_step gOld gNew seconds (hrest e List.mem_cons_self)
      rw [List.append_cons, List.foldl_cons]
      exact ih _ _ (h.step hstep) fun x hx hx' => hstep.full (hrest x (List.mem_cons_of_mem _ hx) hx')
  exact hfrom table [] _ ⟨List.Sublist.refl _, hroom, nofun⟩ fun e he h => (hdue ⟨e, he, h⟩).ge

/-- R109: the fired list refilled. -/
theorem refill_holds (g seconds : Nat) (table : List Entry) {fired : List Fired} (hroom : fired.length ≤ 16) :
    PassHolds table (table.foldl (PassOut.refill g seconds) { table := [], fired := fired, actions := [] }) := by
  have hfrom : ∀ (rest pre : List Entry) (o : PassOut), PassHolds pre o →
      PassHolds (pre ++ rest) (rest.foldl (PassOut.refill g seconds) o) := by
    intro rest
    induction rest with
    | nil =>
      intro pre o h
      rwa [List.append_nil]
    | cons e rest ih =>
      intro pre o h
      rw [List.append_cons, List.foldl_cons]
      exact ih _ _ (h.step (o.refill_step e g seconds))
  exact hfrom table [] _ ⟨List.Sublist.refl _, hroom, nofun⟩

/-! ### Firing passes and reckonings (R93 to R96, R103 to R107) -/

theorem dayPart_of_works {s t : State} (h : BlockWork s t) : t.dayPart = s.dayPart := by
  obtain ⟨_, _, _, _, _, _, _, rfl⟩ := h.rest
  rfl

/-- R107: a pass and its actions, which set action-run flags alone. -/
theorem HoldsDays.fire (s : State) (gOld gNew : Nat) : HoldsDays s (s.fire gOld gNew) := by
  obtain ⟨fired, hlength, hpart⟩ : ∃ fired : List Fired, fired.length = (s.passed gOld gNew).dr.fired.length
      ∧ (s.fire gOld gNew).dayPart = ((s.passed gOld gNew).withFired fired).dayPart := by
    rw [State.fire_eq]
    split
    · obtain ⟨fired, hwork, hruns⟩ := State.runActions_work (n := 0)
        (firingPass gOld gNew s.cu.seconds s.dr.table s.dr.fired).actions (fun x _ => Nat.zero_le x.1)
        (s.passed gOld gNew)
      have hlength := congrArg List.length hruns.unrun
      rw [List.length_map, List.length_map] at hlength
      exact ⟨fired, hlength, dayPart_of_works hwork.works⟩
    · exact ⟨_, rfl, rfl⟩
  refine holdsDays_of_table hpart fun hs => ?_
  obtain ⟨-, hrange, hroom, hdue⟩ := (daysOk_iff s).mp hs
  obtain ⟨hkeys, hroom', hdue'⟩ := firingPass_holds gOld gNew s.cu.seconds hroom hdue
  refine ⟨hrange.of_keys hkeys, ?_, fun h => ?_⟩
  · rw [hlength]
    exact hroom'
  · rw [hlength]
    exact hdue' h

theorem HoldsDays.refillFired (s : State) (n : Nat) : HoldsDays s (s.dropFired n).refillFired := by
  refine holdsDays_of_table rfl fun hs => ?_
  obtain ⟨-, hrange, hroom, -⟩ := (daysOk_iff s).mp hs
  have hdrop : (s.dr.fired.drop n).length ≤ 16 := (List.length_drop.trans_le (Nat.sub_le _ _)).trans hroom
  obtain ⟨hkeys, hroom', hdue'⟩ := refill_holds s.dr.g s.cu.seconds s.dr.table hdrop
  exact ⟨hrange.of_keys hkeys, hroom', hdue'⟩

/-- R91: the raw day of the clock range. -/
theorem rawDay_le {s : State} (h : s.cu.seconds ≤ 3155759999) : s.rawDay ≤ 36525 := by
  rw [State.rawDay, rawDayOf]
  omega

/-- R93, R94: the arithmetic of a reckoning. -/
theorem HoldsDays.withReckoned (s : State) (restart : Bool) (limit : Nat) :
    HoldsDays s { s with dr := (s.dr.reckon s.rawDay restart limit).1 } := by
  intro hs
  obtain ⟨⟨hseconds, hl, hg, hforfeited, hrewind⟩, htable⟩ := (daysOk_iff s).mp hs
  have hlmax : max s.dr.l s.rawDay ≤ 36525 := max_le hl (rawDay_le hseconds)
  by_cases hnone : restart = true ∨ s.rawDay ≤ s.dr.l
  · rw [reckon_uncredited s.dr limit hnone]
    exact ⟨(daysOk_iff _).mpr ⟨⟨hseconds, hlmax, hg, hforfeited, hrewind⟩, htable⟩,
      le_refl _, le_max_left _ _, le_refl _⟩
  · rw [not_or, Bool.not_eq_true, Nat.not_le] at hnone
    obtain ⟨rfl, hraw⟩ := hnone
    rw [reckon_credited s.dr limit hraw]
    exact ⟨(daysOk_iff _).mpr ⟨⟨hseconds, hlmax, min_le_right _ _, min_le_right _ _, hrewind⟩, htable⟩,
      le_min (Nat.le_add_right _ _) hg, le_max_left _ _, le_refl _⟩

theorem HoldsDays.reckonNow (s : State) (c : Causes) (limit : Nat) : HoldsDays s (s.reckonNow c limit) := by
  let r := s.dr.reckon s.rawDay (c.restart || !s.cu.valid) limit
  have hpass : HoldsDays s (({ s with dr := r.1 } : State).fire s.dr.g r.1.g) :=
    (withReckoned s _ limit).trans (fire _ _ _)
  rw [State.reckonNow_eq (r := r) rfl]
  exact hpass.same rfl

theorem HoldsDays.reckon (s : State) (c : Causes) (limit : Nat) : HoldsDays s (s.reckon c limit) := by
  unfold State.reckon
  split
  · exact holdsDays_of_part
  · exact reckonNow s c limit

theorem HoldsDays.runDeferred (s : State) : HoldsDays s s.runDeferred := by
  unfold State.runDeferred
  split
  · exact refl s
  · exact (holdsDays_of_part (t := { s with dr := { s.dr with deferred := none } })).trans (reckonNow _ _ _)

theorem HoldsDays.secondEvent (s : State) : HoldsDays s s.secondEvent := by
  unfold State.secondEvent
  split
  · exact reckon s _ _
  · exact whenNot fun _ => fire s _ _

/-! ### The clock (R74, R75, R83, R84) -/

/-- R74: S moved within the clock range. -/
theorem HoldsDays.withClock (s : State) {cu : ClockUnit} (h : DaysOk s → cu.seconds ≤ 3155759999) :
    HoldsDays s { s with cu := cu } := fun hs => by
  obtain ⟨⟨-, hranges⟩, htable⟩ := (daysOk_iff s).mp hs
  exact ⟨(daysOk_iff _).mpr ⟨⟨h hs, hranges⟩, htable⟩, daysRise_refl s⟩

/-- R84: a rewind recorded. -/
theorem HoldsDays.recordRewind (s : State) (old : Nat) : HoldsDays s (s.recordRewind old) := by
  unfold State.recordRewind
  split
  · intro hs
    obtain ⟨⟨hseconds, hl, hg, hforfeited, hrewind⟩, htable⟩ := (daysOk_iff s).mp hs
    exact ⟨(daysOk_iff _).mpr ⟨⟨hseconds, hl, hg, hforfeited, min_le_left _ _⟩, htable⟩, le_refl _, le_refl _,
      le_min hrewind (Nat.le_add_right _ _)⟩
  · exact refl s

theorem ClockUnit.startSecond_seconds (c : ClockUnit) : c.startSecond.seconds = c.seconds := by
  unfold ClockUnit.startSecond
  split <;> rfl

/-! ### The passing of time (R185, R186) -/

/-- R88, R89: a write of a format keeps the ranges, and only that of the Day Reckoner's records lets them fall. -/
theorem formatWrite_days (s : State) (w : KeepWrite) :
    (DaysOk s → DaysOk (s.formatWrite w)) ∧ (w ≠ .days → HoldsDays s (s.formatWrite w)) := by
  cases w with
  | byte a b => exact ⟨id, fun _ => holdsDays_of_part⟩
  | faces => exact ⟨id, fun _ => holdsDays_of_part⟩
  | clock =>
    have hclock : HoldsDays s (s.formatWrite .clock) := HoldsDays.withClock s fun _ => Nat.zero_le _
    exact ⟨fun hs => (hclock hs).1, fun _ => hclock⟩
  | days =>
    refine ⟨fun hs => ?_, fun h => absurd rfl h⟩
    obtain ⟨⟨hseconds, -⟩, -⟩ := (daysOk_iff s).mp hs
    refine (daysOk_iff _).mpr ⟨⟨hseconds, ?_⟩, ⟨List.Pairwise.nil, ?_, nofun⟩, ?_, nofun⟩
    all_goals simp [State.formatWrite]

theorem formatWrites_days (ws : List KeepWrite) (s : State) :
    (DaysOk s → DaysOk (ws.foldl State.formatWrite s))
      ∧ (KeepWrite.days ∉ ws → HoldsDays s (ws.foldl State.formatWrite s)) := by
  induction ws generalizing s with
  | nil => exact ⟨id, fun _ => HoldsDays.refl s⟩
  | cons w ws ih =>
    obtain ⟨hok, hholds⟩ := formatWrite_days s w
    obtain ⟨hoks, hrest⟩ := ih (s.formatWrite w)
    refine ⟨hoks ∘ hok, fun hnot => ?_⟩
    rw [List.mem_cons, not_or] at hnot
    exact (hholds (Ne.symm hnot.1)).trans (hrest hnot.2)

theorem days_notMem_byteWrites (a : Nat) (bs : List Byte) : KeepWrite.days ∉ byteWrites a bs := by
  intro h
  obtain ⟨_, _, hw⟩ := List.mem_mapIdx.mp h
  cases hw

/-- R186: a slot format leaves the day records. -/
theorem days_notMem_slotWrites (p : Profile) : KeepWrite.days ∉ formatWrites .slots p := by
  intro h
  rcases List.mem_append.mp h with h | h
  · obtain ⟨i, -, hi⟩ := List.mem_flatMap.mp h
    exact (List.mem_append.mp hi).elim (days_notMem_byteWrites _ _) (days_notMem_byteWrites _ _)
  · cases List.mem_singleton.mp h

/-- R184 to R186: a format's progress. -/
theorem DatesEvent.formatOn (s : State) (dt : Nat) : DatesEvent s (s.formatOn dt) := by
  unfold State.formatOn
  split
  · exact refl s
  · rename_i f hf
    split
    · exact refl s
    · let n := (f.ran + dt) / Config.byteTime - f.ran / Config.byteTime
      obtain ⟨hok, hholds⟩ := formatWrites_days (((formatWrites f.kind s.sp.profile).drop f.made).take n) s
      refine fun hs => ⟨hok hs, fun hkind => ?_⟩
      have hslots : f.kind = .slots := by
        cases hk : f.kind with
        | full => exact absurd hk (hkind f hf)
        | slots => rfl
      refine (hholds (fun h => days_notMem_slotWrites s.sp.profile ?_) hs).2
      have hmem := List.mem_of_mem_drop (List.mem_of_mem_take h)
      rwa [hslots] at hmem

theorem State.workOn_days (s : State) (dt : Nat) : (s.workOn dt).dayPart = s.dayPart ∧ (s.workOn dt).sb = s.sb := by
  unfold State.workOn
  split
  · exact ⟨rfl, rfl⟩
  · simp only
    split <;> exact ⟨rfl, rfl⟩

/-- R75, R184 to R186: while time passes S stands, and the day records but for a full format. -/
theorem DatesEvent.elapse (s : State) (dt : Nat) : DatesEvent s (s.elapse dt) := by
  let s1 : State := { s with cu := s.cu.count s.now dt }
  have h1 : s1.dayPart = s.dayPart := by
    rw [State.dayPart, State.dayPart, ← ClockUnit.count_seconds s.cu s.now dt]
  obtain ⟨hpart, hsb⟩ := s1.workOn_days dt
  have hbefore : HoldsDays s (s1.workOn dt) := holdsDays_of_part (hpart.trans h1)
  intro hs
  obtain ⟨h2, hrise⟩ := hbefore hs
  obtain ⟨h3, hformat⟩ := DatesEvent.formatOn (s1.workOn dt) dt h2
  refine ⟨h3, fun hkind => hrise.trans (hformat ?_)⟩
  rw [hsb]
  exact hkind

end Sys2Proof.Machine
end

section
/-! SUPPORT. The requests (R81 to R85, R98 to R101, R108, R109) and the clock and day records: those that change them keep
their ranges, and the others leave them. -/

set_option Elab.async false

namespace Sys2Proof.Machine

open Sys2Proof.Safety Sys2Proof.Proofs

/-! ### Entries (R98 to R101) -/

/-- R100: an entry inserted takes one place, and none where its id has one. -/
theorem length_insertEntry (e : Entry) (table : List Entry) :
    (insertEntry e table).length ≤ table.length + 1
      ∧ (table.Pairwise (fun a b => a.id < b.id) → hasId table e.id = true →
        (insertEntry e table).length = table.length) := by
  induction table with
  | nil => exact ⟨le_refl _, fun _ => nofun⟩
  | cons x xs ih =>
    obtain ⟨hle, heq⟩ := ih
    unfold insertEntry
    split
    · exact ⟨Nat.le_succ _, fun _ _ => rfl⟩
    · rename_i hne
      split
      · rename_i hlt
        refine ⟨le_refl _, fun hids hhas => ?_⟩
        obtain ⟨y, hy, hid⟩ := List.any_eq_true.mp hhas
        have hid := beq_iff_eq.mp hid
        rcases List.mem_cons.mp hy with rfl | hy
        · exact absurd hid hne
        · exact absurd ((List.pairwise_cons.mp hids).1 y hy) (by omega)
      · refine ⟨Nat.succ_le_succ hle, fun hids hhas => congrArg (· + 1) (heq (List.pairwise_cons.mp hids).2 ?_)⟩
        rw [hasId, List.any_cons, Bool.or_eq_true] at hhas
        exact hhas.resolve_left fun h => hne (beq_iff_eq.mp h)

/-- R98, R100: an entry inserted stands in the place of its id. -/
theorem insertEntry_ascending {table : List Entry} (e : Entry) (h : table.Pairwise fun a b => a.id < b.id) :
    (insertEntry e table).Pairwise fun a b => a.id < b.id := by
  induction table with
  | nil => exact List.pairwise_singleton _ _
  | cons x xs ih =>
    obtain ⟨hx, hxs⟩ := List.pairwise_cons.mp h
    unfold insertEntry
    split
    · rename_i hid
      exact List.pairwise_cons.mpr ⟨fun y hy => hid ▸ hx y hy, hxs⟩
    · rename_i hne
      split
      · rename_i hlt
        refine List.pairwise_cons.mpr ⟨fun y hy => ?_, h⟩
        rcases List.mem_cons.mp hy with rfl | hy
        · exact hlt
        · exact hlt.trans (hx y hy)
      · rename_i hge
        refine List.pairwise_cons.mpr ⟨fun y hy => ?_, ih hxs⟩
        rcases mem_insertEntry hy with rfl | hy
        · omega
        · exact hx y hy

/-- R99: what the checks of an ENTRY-ADD say of its entry. -/
theorem entryRefused_none {s : State} {f : EntryFields} {k : EntryKind} (h : s.entryRefused f k = none) :
    periodOk k = true ∧ (s.dr.table.length < 32 ∨ hasId s.dr.table f.id.toNat = true) := by
  unfold State.entryRefused at h
  split_ifs at h with hbad _ _ hfull _
  refine ⟨?_, ?_⟩
  · simp only [Bool.or_eq_true, not_or] at hbad
    obtain ⟨⟨hevery, -⟩, -⟩ := hbad
    cases k with
    | onDay t => rfl
    | onClock t => rfl
    | every p f =>
      simp only [EntryKind.everyBad, Bool.or_eq_true, decide_eq_true_eq, not_or] at hevery
      obtain ⟨⟨hp, hmax⟩, hf⟩ := hevery
      exact decide_eq_true (by omega)
  · simp only [Bool.and_eq_true, decide_eq_true_eq, Bool.not_eq_true', not_and, Bool.not_eq_false] at hfull
    by_cases hroom : 32 ≤ s.dr.table.length
    · exact .inr (hfull hroom)
    · exact .inl (Nat.lt_of_not_le hroom)

theorem serveEntryAdd_days (f : EntryFields) (p : PowerState) (s : State) : HoldsDays s (serveEntryAdd f p s).1 := by
  unfold serveEntryAdd
  split
  · exact HoldsDays.refl s
  · rename_i hid
    split
    · exact HoldsDays.refl s
    · rename_i k _
      split
      · exact HoldsDays.refl s
      · rename_i hok
        obtain ⟨hperiod, hplace⟩ := entryRefused_none hok
        refine holdsDays_of_table (table := insertEntry (newEntry f k) s.dr.table) (fired := s.dr.fired) rfl
          fun hs => ?_
        obtain ⟨-, ⟨hids, hroom, hentries⟩, hfired, hdue⟩ := (daysOk_iff s).mp hs
        obtain ⟨hle, heq⟩ := length_insertEntry (newEntry f k) s.dr.table
        refine ⟨⟨insertEntry_ascending _ hids, ?_, fun e he => ?_⟩, hfired, ?_⟩
        · rcases hplace with hless | hhas
          · omega
          · exact (heq hids hhas).trans_le hroom
        · rcases mem_insertEntry he with rfl | he
          · exact ⟨Nat.le_of_not_lt hid, hperiod⟩
          · exact hentries e he
        · rintro ⟨e, he, he'⟩
          rcases mem_insertEntry he with rfl | he
          · cases he'
          · exact hdue ⟨e, he, he'⟩

theorem serveEntryDrop_days (id : Byte) (p : PowerState) (s : State) : HoldsDays s (serveEntryDrop id p s).1 := by
  unfold serveEntryDrop
  split
  · exact HoldsDays.refl s
  · split
    · exact HoldsDays.refl s
    · split
      · exact HoldsDays.refl s
      · refine holdsDays_of_table (table := s.dr.table.filter fun x => x.id != id.toNat) (fired := s.dr.fired) rfl
          fun hs => ?_
        obtain ⟨-, hrange, hfired, hdue⟩ := (daysOk_iff s).mp hs
        exact ⟨hrange.of_keys (List.filter_sublist.map _), hfired,
          fun ⟨e, he, he'⟩ => hdue ⟨e, (List.mem_filter.mp he).1, he'⟩⟩

theorem serveFiredTake_days (count : Byte) (p : PowerState) (s : State) : HoldsDays s (serveFiredTake count p s).1 := by
  unfold serveFiredTake
  split
  · exact HoldsDays.refl s
  · split
    · exact HoldsDays.refl s
    · exact HoldsDays.refillFired s _

/-! ### The clock (R81 to R85) -/

theorem serveClockSet_days (year : Half) (month day hour minute second : Byte) (p : PowerState) (s : State) :
    HoldsDays s (serveClockSet year month day hour minute second p s).1 := by
  unfold serveClockSet
  split
  · exact HoldsDays.refl s
  · rename_i hdate
    split
    · exact HoldsDays.refl s
    · let new := secondsOf year.toNat month.toNat day.toNat hour.toNat minute.toNat second.toNat
      have hnew : new ≤ 3155759999 := secondsOf_le (Bool.eq_false_iff.mpr hdate)
      have hset : HoldsDays s { s with cu := s.cu.set new } :=
        HoldsDays.withClock s fun _ => (ClockUnit.startSecond_seconds _).trans_le hnew
      have hrewound := hset.trans (HoldsDays.recordRewind _ s.cu.seconds)
      simp only
      split
      · exact hrewound.trans (HoldsDays.reckon _ _ _)
      · exact hrewound.trans (HoldsDays.reckon _ _ _)

theorem serveClockNudge_days (amount : Half) (p : PowerState) (s : State) :
    HoldsDays s (serveClockNudge amount p s).1 := by
  unfold serveClockNudge
  split
  · exact HoldsDays.refl s
  · split
    · exact HoldsDays.refl s
    · have hmoved : HoldsDays s { s with cu := { s.cu with seconds := nudged s.cu.seconds amount.toInt } } :=
        HoldsDays.withClock s fun _ => min_le_left _ _
      exact (hmoved.trans (HoldsDays.recordRewind _ _)).trans (HoldsDays.reckon _ _ _)

/-! ### The other requests -/

/-- A service that leaves the clock and day records. -/
def LeavesDays (svc : Service) : Prop := ∀ p s, (svc p s).1.dayPart = s.dayPart

theorem leavesDays_of_reads {svc : Service} (h : ReadsOnly svc) : LeavesDays svc := by
  intro p s
  obtain ⟨_, _, he⟩ := h p s
  rw [he]
  rfl

theorem State.endVoices_days (s : State) (vs : BitVec 8) (event : Bool) :
    (s.endVoices vs event).dayPart = s.dayPart := by
  refine (dayPart_of_works (State.lapseCues_lapses _ vs).works).trans ?_
  split
  · unfold State.raiseVoiceEnd
    split <;> rfl
  · rfl

theorem serveWatchSet_leaves (members : Triple) : LeavesDays (serveWatchSet members) := fun _ _ => by
  unfold serveWatchSet
  split <;> rfl

theorem serveReasonsGroups_leaves (groups : Byte) : LeavesDays (serveReasonsGroups groups) := fun _ _ => by
  unfold serveReasonsGroups
  split <;> rfl

theorem serveAwait_leaves (h : ReqHead) (members : Triple) (limit : Half) :
    LeavesDays (serveAwait h members limit) := fun _ _ => by
  unfold serveAwait
  split
  · rfl
  · simp only
    split <;> rfl

theorem serveVoiceStart_leaves (f : VoiceStartFields) : LeavesDays (serveVoiceStart f) := fun _ s => by
  unfold serveVoiceStart
  split
  · rfl
  · split
    · rfl
    · rename_i n _
      show State.dayPart (if (s.voice n).busy then s.endVoices (single n) false else s) = s.dayPart
      split
      · exact s.endVoices_days _ _
      · rfl

theorem serveVoiceAdjust_leaves (f : VoiceAdjustFields) : LeavesDays (serveVoiceAdjust f) := fun _ _ => by
  unfold serveVoiceAdjust
  simp only
  split <;> rfl

theorem serveVoiceStop_leaves (voice : Byte) (generation : Half) (mode : Byte) (ramp : Half) :
    LeavesDays (serveVoiceStop voice generation mode ramp) := fun _ s => by
  unfold serveVoiceStop
  split
  · rfl
  · show State.dayPart (if mode = 0 then s.endVoices (s.stopSet voice) false
      else s.releaseVoices (s.stopSet voice) ramp.toNat) = s.dayPart
    split
    · exact s.endVoices_days _ _
    · exact State.endVoices_days _ _ _

theorem serveMixSet_leaves (gain : Half) (hold : Byte) : LeavesDays (serveMixSet gain hold) := fun _ _ => by
  unfold serveMixSet
  split <;> rfl

theorem serveSlotOpen_leaves (slot seed : Byte) : LeavesDays (serveSlotOpen slot seed) := fun _ s => by
  unfold serveSlotOpen
  split
  · rfl
  · show State.dayPart (if s.seedExtent slot seed = 0 then s.setOpen (some slot.toNat) 0
      else (s.setOpen (some slot.toNat) 0).setOp (some (seedOp slot.toNat (s.seedExtent slot seed) s.now))) = _
    split <;> rfl

theorem serveSlotWrite_leaves (slot : Byte) (offset : Half) (count : Byte) (data : List Byte) :
    LeavesDays (serveSlotWrite slot offset count data) := fun _ _ => by
  unfold serveSlotWrite
  split <;> rfl

theorem State.endVerify_days (s : State) (op : KeepOp) : (s.endVerify op).dayPart = s.dayPart := by
  unfold State.endVerify
  split <;> rfl

theorem serveSlotCommit_leaves (slot : Byte) (length crc : Half) :
    LeavesDays (serveSlotCommit slot length crc) := fun _ s => by
  unfold serveSlotCommit
  split
  · rfl
  · let op := commitOp slot.toNat length crc s.now
    show State.dayPart (if length = 0 then (s.setOp (some op)).endVerify op else s.setOp (some op)) = _
    split
    · exact State.endVerify_days _ _
    · rfl

theorem serveSlotErase_leaves (slot : Byte) : LeavesDays (serveSlotErase slot) := fun _ _ => by
  unfold serveSlotErase
  split <;> rfl

theorem serveSlotAbort_leaves (slot : Byte) : LeavesDays (serveSlotAbort slot) := fun _ _ => by
  unfold serveSlotAbort
  split <;> rfl

theorem servePatternDefine_leaves (f : PatternFields) : LeavesDays (servePatternDefine f) := fun _ _ => by
  unfold servePatternDefine
  split <;> rfl

theorem serveRumblePlay_leaves (layer pattern priority scale : Byte) :
    LeavesDays (serveRumblePlay layer pattern priority scale) := fun _ s => by
  unfold serveRumblePlay
  split
  · rfl
  · exact dayPart_of_works (LayerWork.startLayer s _ _ _ _).works

theorem serveRumbleStop_leaves (layer : Byte) : LeavesDays (serveRumbleStop layer) := fun _ _ => by
  unfold serveRumbleStop
  split <;> rfl

theorem serveCueArm_leaves (f : CueFields) : LeavesDays (serveCueArm f) := fun _ _ => by
  unfold serveCueArm
  split <;> rfl

theorem serveCueDisarm_leaves (cue : Byte) : LeavesDays (serveCueDisarm cue) := fun _ _ => by
  unfold serveCueDisarm
  split <;> rfl

/-- A service that keeps the clock and day records. -/
def ServesDays (svc : Service) : Prop := ∀ p s, HoldsDays s (svc p s).1

theorem LeavesDays.serves {svc : Service} (h : LeavesDays svc) : ServesDays svc := fun p s => holdsDays_of_part (h p s)

/-- The service of every request keeps the clock and day records. -/
theorem serviceOf_days {c : Instr} {svc : Service} (h : serviceOf c = some svc) : ServesDays svc := by
  cases c <;> simp only [serviceOf, Option.some.injEq, reduceCtorEq] at h <;> subst h
  case hello => exact (leavesDays_of_reads serveHello_reads).serves
  case resetActive => exact LeavesDays.serves fun _ _ => rfl
  case watchSet => exact (serveWatchSet_leaves _).serves
  case watchRead => exact (leavesDays_of_reads serveWatchRead_reads).serves
  case reasonsTakeGroups => exact (serveReasonsGroups_leaves _).serves
  case reasonsTakeSummary => exact (leavesDays_of_reads (serveReasonsSummary_reads _)).serves
  case await => exact (serveAwait_leaves _ _ _).serves
  case voiceStart => exact (serveVoiceStart_leaves _).serves
  case voiceAdjust => exact (serveVoiceAdjust_leaves _).serves
  case voiceStopImmediate => exact (serveVoiceStop_leaves _ _ _ _).serves
  case voiceStopRelease => exact (serveVoiceStop_leaves _ _ _ _).serves
  case voiceQuery => exact (leavesDays_of_reads (serveVoiceQuery_reads _)).serves
  case mixSet => exact (serveMixSet_leaves _ _).serves
  case slotOpen => exact (serveSlotOpen_leaves _ _).serves
  case slotWrite => exact (serveSlotWrite_leaves _ _ _ _).serves
  case slotCommit => exact (serveSlotCommit_leaves _ _ _).serves
  case slotErase => exact (serveSlotErase_leaves _).serves
  case slotAbort => exact (serveSlotAbort_leaves _).serves
  case slotRead => exact (leavesDays_of_reads (serveSlotRead_reads _ _ _ _)).serves
  case slotList => exact (leavesDays_of_reads serveSlotList_reads).serves
  case clockRead => exact (leavesDays_of_reads serveClockRead_reads).serves
  case clockSet => exact serveClockSet_days _ _ _ _ _ _
  case clockNudge => exact serveClockNudge_days _
  case clockTrim => exact LeavesDays.serves fun _ _ => rfl
  case entryAdd => exact serveEntryAdd_days _
  case entryDrop => exact serveEntryDrop_days _
  case entryList => exact (leavesDays_of_reads (serveEntryList_reads _)).serves
  case firedTake => exact serveFiredTake_days _
  case daysRead => exact (leavesDays_of_reads serveDaysRead_reads).serves
  case patternDefine => exact (servePatternDefine_leaves _).serves
  case rumblePlay => exact (serveRumblePlay_leaves _ _ _ _).serves
  case rumbleStop => exact (serveRumbleStop_leaves _).serves
  case rumbleQuery => exact (leavesDays_of_reads serveRumbleQuery_reads).serves
  case cueArm => exact (serveCueArm_leaves _).serves
  case cueDisarm => exact (serveCueDisarm_leaves _).serves
  case standbyEnter => exact LeavesDays.serves fun _ _ => rfl
  case budgetRead => exact (leavesDays_of_reads serveBudgetRead_reads).serves

end Sys2Proof.Machine
end

section
/-! O56: what every event keeps of the clock and day records (R74, R84, R89, R98, R105, R106). -/

set_option Elab.async false

namespace Sys2Proof.Machine

open Sys2Proof.Safety Sys2Proof.Proofs

/-! ### The close of an event and the power states -/

theorem dayPart_of_records {s t : State} (hcu : t.cu = s.cu) (hdr : t.dr = s.dr) : t.dayPart = s.dayPart := by
  rw [State.dayPart, State.dayPart, hcu, hdr]

theorem State.conclude_days (s0 s : State) : (State.conclude s0 s).dayPart = s.dayPart := by
  obtain ⟨-, -, hcu, hdr⟩ := (State.concluded s0 s).keep
  exact dayPart_of_records hcu hdr

theorem State.concludeRequest_days (s : State) : s.concludeRequest.dayPart = s.dayPart :=
  dayPart_of_records (s.report.serviceStore_cu.trans s.report_cu) (s.report.serviceStore_dr.trans s.report_dr)

theorem State.enterWaking_days (s : State) : s.enterWaking.dayPart = s.dayPart := by
  unfold State.enterWaking
  simp only
  split <;> rfl

theorem State.resetMade_days (s : State) : s.resetMade.dayPart = s.dayPart := s.enterWaking_days

theorem HoldsDays.conclude {s u : State} (s0 : State) (h : HoldsDays s u) : HoldsDays s (State.conclude s0 u) :=
  h.same (State.conclude_days s0 u)

theorem DatesEvent.conclude {s u : State} (s0 : State) (h : DatesEvent s u) : DatesEvent s (State.conclude s0 u) :=
  h.trans (holdsDays_of_part (State.conclude_days s0 u))

/-- An event at its moment: time passes to it, and what it does keeps the records. -/
theorem DatesEvent.timed {s u : State} {dt : Nat} (h : HoldsDays (s.elapse dt) u) : DatesEvent s (State.conclude s u) :=
  ((DatesEvent.elapse s dt).trans h).conclude s

/-- The same of an event that leaves the records. -/
theorem DatesEvent.passing {s u : State} {dt : Nat} (h : u.dayPart = (s.elapse dt).dayPart) :
    DatesEvent s (State.conclude s u) := DatesEvent.timed (holdsDays_of_part h)

/-! ### Requests and the byte path (R170 to R176, R179) -/

theorem State.arrive_days (s : State) : s.arrive.dayPart = s.dayPart := by
  have hwake : (if s.sb.power = .standby then s.enterActive else s).dayPart = s.dayPart := by
    split <;> rfl
  have hrefresh : ∀ u : State, u.report.refresh.dayPart = u.dayPart := fun u =>
    dayPart_of_records u.report_cu u.report_dr
  unfold State.arrive
  simp only
  split
  all_goals
    rw [hrefresh]
    exact hwake

theorem State.answer_days (kind tag : Byte) (extra : Bool) (r : State × Option Reply) :
    (State.answer kind tag extra r).dayPart = r.1.dayPart := by
  unfold State.answer
  split <;> rfl

theorem HoldsDays.reset (s : State) : HoldsDays s s.resetMade.serviceStore.refresh :=
  holdsDays_of_part ((dayPart_of_records s.resetMade.serviceStore_cu s.resetMade.serviceStore_dr).trans s.resetMade_days)

theorem complete_days (s : State) (kind tag : Byte) (extra : Bool) {svc : Service} (h : ServesDays svc) :
    HoldsDays s (s.complete kind tag extra svc) := by
  unfold State.complete
  refine HoldsDays.whenNot fun _ => ?_
  split
  · exact HoldsDays.reset s
  · have hserved : HoldsDays s.arrive (readied kind svc s.sb.power s.arrive).1 := by
      unfold readied
      split
      · exact HoldsDays.refl _
      · exact h _ _
    exact (((holdsDays_of_part s.arrive_days).trans hserved).same (State.answer_days kind tag extra _)).same
      (State.concludeRequest_days _)

theorem exec_request_days {c : Instr} {svc : Service} (hc : serviceOf c = some svc) {s t : State}
    (ht : exec c s = .next t) : HoldsDays s t := by
  obtain ⟨h, k, -, he⟩ := exec_of_service hc
  rw [he] at ht
  cases ht
  exact complete_days s k h.tag h.extra (serviceOf_days hc)

theorem reject_days (s : State) (f : Frame) (c : Code) (fault : Option FaultCause) : HoldsDays s (s.reject f c fault) := by
  unfold State.reject
  split
  · exact HoldsDays.reset s
  · refine ((holdsDays_of_part s.arrive_days).same ?_).same (State.concludeRequest_days _)
    cases fault <;> rfl

theorem completeFrame_days (s : State) (f : Frame) (check : Byte) : HoldsDays s (s.completeFrame f check) := by
  unfold State.completeFrame
  split
  · exact reject_days s _ _ _
  · simp only
    split
    · rename_i svc hsvc
      refine complete_days s _ _ _ ?_
      unfold Asked.service at hsvc
      split at hsvc
      · exact serviceOf_days hsvc
      · cases hsvc
        exact fun _ _ => HoldsDays.refl _
      · cases hsvc
    · exact reject_days s _ _ _

theorem HoldsDays.link (s : State) (l : LinkPort) : HoldsDays s { s with lp := l } := holdsDays_of_part

theorem takeByte_days (s : State) (din : Byte) : HoldsDays s (s.takeByte din) := by
  unfold State.takeByte
  split
  · split
    · exact HoldsDays.link s _
    · exact HoldsDays.refl s
  · split
    · exact completeFrame_days s _ _
    · exact HoldsDays.link s _

theorem transfer_days (s : State) (din : Byte) : HoldsDays s (s.transfer din) := by
  have hout : HoldsDays s { s with lp := s.lp.shiftOut } := HoldsDays.link s _
  unfold State.transfer
  simp only
  split
  · exact (hout.same (State.resetMade_days _)).conclude s
  · exact hout.trans (takeByte_days _ din)

theorem closeWindow_days (s : State) : HoldsDays s s.closeWindow := by
  unfold State.closeWindow
  split
  · exact (holdsDays_of_part s.resetMade_days).conclude s
  · refine (holdsDays_of_part ?_).conclude s
    split <;> rfl

/-! ### Timed events -/

theorem State.render_days (s : State) : s.render.dayPart = s.dayPart := by
  obtain ⟨_, _, _, _, _, _, _, h⟩ := s.render_rest
  rw [h]
  rfl

theorem boundary_days (s : State) : DatesEvent s s.boundary :=
  DatesEvent.whenever fun _ => DatesEvent.passing (State.render_days _)

theorem tick_days (s : State) : DatesEvent s s.tick := by
  have hticks : ∀ u : State, u.tickLayers.dayPart = u.dayPart := by
    intro u
    unfold State.tickLayers State.raisePatternEnded
    split <;> rfl
  refine DatesEvent.whenever fun _ => ?_
  unfold State.markTick
  split
  · exact DatesEvent.of_holds (HoldsDays.conclude s (holdsDays_of_part (hticks _)))
  · exact DatesEvent.passing (hticks _)

theorem State.flipSlot_days (s : State) (op : KeepOp) : (s.flipSlot op).dayPart = s.dayPart := by
  unfold State.flipSlot
  simp only
  split <;> rfl

/-- R75: the end of a second, with the second event that may follow it. -/
theorem endSecond_days (s : State) (mv : Nat) : DatesEvent s (s.endSecond mv) := by
  refine DatesEvent.whenever fun _ => DatesEvent.timed (dt := s.secondDue - s.now) ?_
  let s1 := s.elapseTo s.secondDue
  let s2 : State := { s1 with cu := s1.cu.endSecond, sb := { s1.sb with cellMv := mv } }
  have hseconds : s1.cu.endSecond.seconds ≤ 3155759999 :=
    (ClockUnit.startSecond_seconds _).trans_le (min_le_left _ _)
  have h2 : HoldsDays s1 s2 := (HoldsDays.withClock s1 fun _ => hseconds).same rfl
  show HoldsDays s1 (if s.cu.seconds < Config.maxSeconds ∧ s.sb.power.awake then s2.secondEvent else s2)
  split
  · exact h2.trans (HoldsDays.secondEvent _)
  · exact h2

/-! ### WAKING (R180 to R187) -/

theorem HoldsDays.finishWaking (s : State) : HoldsDays s s.finishWaking := by
  let s8 := s.measureCell.beginStage 9
  have h9 : HoldsDays s8 s8.reckonPowerUp := reckon _ _ _
  exact ((holdsDays_of_part (t := s8)).trans h9).same rfl

theorem HoldsDays.stageScrub (s : State) : HoldsDays s s.stageScrub := by
  unfold State.stageScrub
  simp only
  split
  · exact (holdsDays_of_part).trans (finishWaking _)
  · exact holdsDays_of_part

theorem HoldsDays.takeDirectory (s : State) : HoldsDays s s.takeDirectory :=
  (holdsDays_of_part).trans (stageScrub _)

theorem HoldsDays.stageDirectory (s : State) : HoldsDays s s.stageDirectory := by
  unfold State.stageDirectory
  simp only
  split
  · exact holdsDays_of_part
  · exact (holdsDays_of_part).trans (stageScrub _)

/-- R182 to R184: a format decided upon has written nothing yet. -/
theorem HoldsDays.takeProfile (s : State) : HoldsDays s s.takeProfile := by
  unfold State.takeProfile State.decideFormat
  simp only
  split
  · exact holdsDays_of_part
  · exact (holdsDays_of_part).trans (stageDirectory _)

/-- R185, R186: the closing writes of a format are no writes of the day records. -/
theorem formatDone_days (s : State) (f : FormatRun) : DatesEvent s (s.formatDone f) := by
  let s1 := s.elapse (Config.formatTime - f.ran)
  let s2 := s1.closeFormat f.kind
  let s3 := ({ s2 with sb := { s2.sb with format := none } } : State).raiseFormatted f.kind
  obtain ⟨m, hm⟩ := s1.closeFormat_keep f.kind
  have h2 : HoldsDays s1 s2 := holdsDays_of_part (congrArg State.dayPart hm :)
  have h3 : HoldsDays s2 s3 := holdsDays_of_part
  exact DatesEvent.timed ((h2.trans h3).trans (HoldsDays.stageDirectory s3))

theorem scrubbed_days (s : State) (mv : Nat) : DatesEvent s (s.scrubbed mv) := by
  refine DatesEvent.timed (dt := s.sb.stageStart + s.scrubTime s.sb.scrubSlot - s.now) ?_
  split
  · exact holdsDays_of_part
  · exact (holdsDays_of_part).trans (HoldsDays.finishWaking _)

theorem ClockUnit.checked_seconds (c : ClockUnit) (edge : Bool) : (c.checked edge).seconds = c.seconds := by
  unfold ClockUnit.checked
  split
  · rfl
  · split <;> rfl

theorem State.withClock_days (s : State) {cu : ClockUnit} (h : cu.seconds = s.cu.seconds) :
    ({ s with cu := cu } : State).dayPart = s.dayPart := by
  rw [State.dayPart, State.dayPart, ← h]

theorem crystalChecked_days (s : State) (edge : Bool) : DatesEvent s (s.crystalChecked edge) := by
  cases edge with
  | true =>
    have hchecked : HoldsDays s (({ s with cu := s.cu.checked true } : State).beginStage 4) :=
      holdsDays_of_part (s.withClock_days (s.cu.checked_seconds true))
    exact DatesEvent.of_holds (hchecked.conclude s)
  | false =>
    exact DatesEvent.passing (dt := s.sb.stageStart + Config.monitorWindow - s.now)
      (State.withClock_days _ (ClockUnit.checked_seconds _ false))

theorem ClockUnit.stop_seconds (c : ClockUnit) : c.stop.seconds = c.seconds := by
  unfold ClockUnit.stop
  split <;> rfl

/-! ### The store port (R31, R36, R41, R45) -/

theorem HoldsDays.deliver (s : State) (f : Fetch) (data : List Byte) : HoldsDays s (s.deliver f data) := by
  have hvoice : ∀ n, (s.deliverVoice n f data).dayPart = s.dayPart := by
    intro n
    unfold State.deliverVoice
    simp only
    split <;> rfl
  have hend : ∀ (u : State) (l : Load), (u.endLoad l).dayPart = u.dayPart := by
    intro u l
    cases hlist : u.sp.loadList with
    | nil =>
      unfold State.endLoad
      simp only [hlist]
    | cons id queue =>
      rw [State.endLoad_eq hlist]
      exact dayPart_of_works ((LayerWork.loadEnded u id queue l).trans (LayerWork.beginFrom _ queue)).works
  have hloader : (s.deliverLoader data).dayPart = s.dayPart := by
    unfold State.deliverLoader
    split
    · rfl
    · simp only
      split
      · exact hend _ _
      · rfl
  have hreader : HoldsDays s (s.deliverReader data) := by
    let s1 : State := { s with sp := { s.sp with reader := s.sp.reader ++ data } }
    have h1 : HoldsDays s s1 := holdsDays_of_part
    show HoldsDays s (if s1.sp.reader.length < s1.readerSpan.2 then s1
      else if s1.inStage 4 then s1.takeProfile
      else if s1.inStage 6 then s1.takeDirectory
      else s1)
    split_ifs
    · exact h1
    · exact h1.trans (takeProfile s1)
    · exact h1.trans (takeDirectory s1)
    · exact h1
  unfold State.deliver
  refine whenNot fun _ => ?_
  split
  · exact holdsDays_of_part (hvoice _)
  · exact holdsDays_of_part hloader
  · exact hreader

/-! ### Supply (R140 to R144) -/

theorem losePower_days (s : State) (mv : Nat) : HoldsDays s (s.losePower mv) :=
  HoldsDays.conclude s holdsDays_of_part

theorem returnPower_days (s : State) (mv : Nat) : HoldsDays s (s.returnPower mv) :=
  (holdsDays_of_part (State.enterWaking_days (s.setPins mv s.sb.cellMv))).conclude s

theorem HoldsDays.classChanged (s : State) (old : SupplyClass) : HoldsDays s (s.classChanged old) := by
  unfold State.classChanged
  split_ifs
  · obtain ⟨au, h⟩ := s.abandonSave_rest
    exact holdsDays_of_part (congrArg State.dayPart h :)
  · obtain ⟨stage, start, h, -⟩ := s.endSupplyWait_rest
    exact (holdsDays_of_part (congrArg State.dayPart h :)).trans (runDeferred _)
  · exact refl s

theorem supplyMoves_days (s : State) (supplyMv cellMv : Nat) : HoldsDays s (s.supplyMoves supplyMv cellMv) := by
  unfold State.supplyMoves
  split
  · exact (holdsDays_of_part (t := s.setPins s.sb.supplyMv cellMv)).trans (losePower_days _ _)
  · exact ((holdsDays_of_part (t := (s.setPins supplyMv cellMv).setClass (classAfter s.sb.supply supplyMv))).trans
      (HoldsDays.classChanged _ _)).conclude s

/-! ### Every command -/

/-- The commands that are no requests. -/
theorem exec_event_days {c : Instr} (hc : serviceOf c = none) {s t : State} (h : exec c s = .next t) :
    DatesEvent s t := by
  cases c
  case windowOpen =>
    cases h
    exact DatesEvent.of_holds (HoldsDays.whenNot fun _ => HoldsDays.link s _)
  case windowClose => cases h; exact DatesEvent.whenever fun _ => DatesEvent.of_holds (closeWindow_days s)
  case frameCompletion b => cases h; exact DatesEvent.whenever fun _ => DatesEvent.of_holds (transfer_days s b)
  case replyCollected b => cases h; exact DatesEvent.whenever fun _ => DatesEvent.of_holds (transfer_days s b)
  case byteTransfer b => cases h; exact DatesEvent.whenever fun _ => DatesEvent.of_holds (transfer_days s b)
  case awaitExpiry =>
    cases h
    split
    · exact DatesEvent.passing rfl
    · exact DatesEvent.refl s
  case mixBlockBoundary => cases h; exact boundary_days s
  case primingLimit n => cases h; exact DatesEvent.whenever fun _ => boundary_days s
  case amplifierIdleOff => cases h; exact DatesEvent.whenever fun _ => boundary_days s
  case rumbleTick => cases h; exact tick_days s
  case layerStepEnd n => cases h; exact DatesEvent.whenever fun _ => tick_days s
  case fetchCompletion data mv =>
    cases h
    split
    · rename_i f _
      exact DatesEvent.whenever fun _ => DatesEvent.timed (dt := f.due - s.now)
        ((holdsDays_of_part).trans (HoldsDays.deliver _ f data))
    · exact DatesEvent.refl s
  case seedingCompletion =>
    cases h
    split
    · exact DatesEvent.whenever fun _ => DatesEvent.passing rfl
    · exact DatesEvent.refl s
  case verifyEnd =>
    cases h
    split
    · exact DatesEvent.whenever fun _ => DatesEvent.passing (State.endVerify_days _ _)
    · exact DatesEvent.refl s
  case flip =>
    cases h
    split
    · exact DatesEvent.whenever fun _ => DatesEvent.passing (State.flipSlot_days _ _)
    · exact DatesEvent.refl s
  case scrubSlotEnd mv => cases h; exact DatesEvent.whenever fun _ => scrubbed_days s mv
  case secondEnd mv => cases h; exact endSecond_days s mv
  case crystalStopFound =>
    cases h
    exact DatesEvent.whenever fun _ =>
      DatesEvent.of_holds ((holdsDays_of_part (s.withClock_days s.cu.stop_seconds)).conclude s)
  case crystalEdgeReturn =>
    cases h
    exact DatesEvent.of_holds (HoldsDays.whenNot fun _ => HoldsDays.conclude s holdsDays_of_part)
  case supplyClassChange supplyMv cellMv =>
    cases h
    exact DatesEvent.of_holds (HoldsDays.whenNot fun _ => supplyMoves_days s supplyMv cellMv)
  case consolePowerLost mv => cases h; exact DatesEvent.whenever fun _ => DatesEvent.of_holds (losePower_days s mv)
  case consolePowerReturn mv => cases h; exact DatesEvent.whenever fun _ => DatesEvent.of_holds (returnPower_days s mv)
  case keepSignatureCheck => cases h; exact DatesEvent.whenever fun _ => DatesEvent.passing rfl
  case crystalCheckEnd edge => cases h; exact DatesEvent.whenever fun _ => crystalChecked_days s edge
  case fullFormatEnd =>
    cases h
    split
    · exact formatDone_days s _
    · exact DatesEvent.refl s
  case slotFormatEnd =>
    cases h
    split
    · exact formatDone_days s _
    · exact DatesEvent.refl s
  all_goals cases hc

/-- What any command keeps of the clock and day records. -/
theorem exec_days {c : Instr} {s t : State} (h : exec c s = .next t) : DatesEvent s t := by
  cases hc : serviceOf c with
  | some svc => exact DatesEvent.of_holds (exec_request_days hc h)
  | none => exact exec_event_days hc h

end Sys2Proof.Machine

namespace Sys2Proof.Proofs

open Sys2Proof.Machine

/-- Settles O56: passes and refills keep the table's order and its DUE entries to a full list, reckonings add within their
limits, and only the writes of a full format make a count fall. -/
theorem dayRecordsStaySound : Obligations.DayRecordsStaySound := by
  unfold Obligations.DayRecordsStaySound
  intro s t hs ht
  unfold step at ht
  split at ht
  · cases ht
    exact (DatesEvent.elapse s 1).trans holdsDays_of_part hs
  · rename_i c rest _
    exact exec_days (s := { s with pending := rest }) ht hs

end Sys2Proof.Proofs
end

section
/-! O17 and O34: the end of a second and the crystal monitor (R74 to R78, R88), and the rising of CLOCK_INVALID (R154, R159,
R160, R167). -/

set_option Elab.async false

namespace Sys2Proof.Machine

open Sys2Proof.Safety

/-! ### What a reckoning leaves (R92 to R96) -/

/-- R92 to R96: what a reckoning, run or deferred, leaves of a state. -/
theorem State.reckon_leaves (s : State) (c : Causes) (limit : Nat) : ∃ dr ru sp au cell, s.reckon c limit = { s with
    dr := dr, ru := ru, sp := sp, au := au, sb := { s.sb with cell := cell } } ∧ dr.rewind = s.dr.rewind := by
  unfold State.reckon
  split
  · exact ⟨_, _, _, _, _, rfl, rfl⟩
  · obtain ⟨table, fired, ru, sp, au, h⟩ := State.reckonNow_rest (s := s) (c := c) (limit := limit) rfl
    obtain ⟨g, forfeited, hrec⟩ := reckon_rest s.dr s.rawDay (c.restart || !s.cu.valid) limit
    exact ⟨_, _, _, _, _, h, by rw [hrec]⟩

/-- R92, R96, R104: what a second event leaves of a state. -/
theorem State.secondEvent_leaves (s : State) : ∃ dr ru sp au cell, s.secondEvent = { s with
    dr := dr, ru := ru, sp := sp, au := au, sb := { s.sb with cell := cell } } ∧ dr.rewind = s.dr.rewind := by
  unfold State.secondEvent
  split
  · exact s.reckon_leaves _ _
  · split
    · exact ⟨_, _, _, _, _, rfl, rfl⟩
    · obtain ⟨table, fired, ru, sp, au, h⟩ := s.fire_rest s.dr.g s.dr.g
      exact ⟨_, _, _, _, _, h, rfl⟩

/-! ### The end of a second (R75, R76) -/

/-- With no format under way, time moves of the keep domain's registers the clock alone. -/
theorem State.elapse_clock {s : State} (hf : s.sb.format = none) (dt : Nat) : (s.elapse dt).cu = s.cu.count s.now dt
    ∧ (s.elapse dt).dr = s.dr ∧ (s.elapse dt).face = s.face := by
  rw [State.elapse_unformatted hf]
  cases hop : s.sc.op with
  | none =>
    rw [State.workOn_none (by exact hop)]
    exact ⟨rfl, rfl, rfl⟩
  | some op =>
    rw [State.workOn_eq (op := op) (by exact hop)]
    exact ⟨rfl, rfl, rfl⟩

/-- R75, R76: the clock when a second ends, whatever its divider had come to. -/
theorem ClockUnit.count_endSecond (c : ClockUnit) (now dt : Nat) : (c.count now dt).endSecond = { c with
    seconds := if c.seconds < 3155759999 then c.seconds + 1 else 3155759999
    phase := (c.phase + 1) % 64
    divider := if (c.phase + 1) % 64 = 0 then c.trim.toNat else 0
    hold := if (c.phase + 1) % 64 = 0 then (-c.trim).toNat else 0 } := by
  have hseconds : min Config.maxSeconds (c.seconds + 1) = if c.seconds < 3155759999 then c.seconds + 1 else 3155759999 := by
    show min 3155759999 (c.seconds + 1) = _
    split <;> omega
  have hcount : ∃ divider hold, c.count now dt = { c with divider := divider, hold := hold } := by
    unfold ClockUnit.count
    simp only
    split <;> exact ⟨_, _, rfl⟩
  obtain ⟨divider, hold, hcount⟩ := hcount
  rw [hcount, ← hseconds]
  unfold ClockUnit.endSecond ClockUnit.startSecond
  simp only
  split <;> rfl

theorem exec_secondEnd_eq (s : State) (mv : Nat) : exec (.secondEnd mv) s = .next (s.endSecond mv) := rfl

/-- R75: the end of a second on a clock that is VALID. -/
theorem State.endSecond_valid {s : State} (mv : Nat) (hf : s.sb.format = none) (hv : s.cu.valid = true) :
    (s.endSecond mv).cu = (s.cu.count s.now (s.secondDue - s.now)).endSecond ∧ (s.endSecond mv).face = s.face
      ∧ (s.endSecond mv).dr.rewind = s.dr.rewind := by
  obtain ⟨hcu, hdr, hface⟩ := State.elapse_clock hf (s.secondDue - s.now)
  let s1 := s.elapseTo s.secondDue
  let s2 : State := { s1 with cu := s1.cu.endSecond, sb := { s1.sb with cellMv := mv } }
  let y := if s.cu.seconds < Config.maxSeconds ∧ s.sb.power.awake then s2.secondEvent else s2
  have hend : s.endSecond mv = State.conclude s y := if_pos (by
    show s1.cu.valid = true
    rw [show s1.cu = _ from hcu, ClockUnit.count_valid, hv])
  have hy : y.cu = s2.cu ∧ y.face = s2.face ∧ y.dr.rewind = s2.dr.rewind := by
    show (if _ then s2.secondEvent else s2).cu = _ ∧ (if _ then s2.secondEvent else s2).face = _
      ∧ (if _ then s2.secondEvent else s2).dr.rewind = _
    split
    · obtain ⟨dr, ru, sp, au, cell, h, hrewind⟩ := s2.secondEvent_leaves
      rw [h]
      exact ⟨rfl, rfl, hrewind⟩
    · exact ⟨rfl, rfl, rfl⟩
  obtain ⟨hycu, hyface, hyrewind⟩ := hy
  obtain ⟨-, htface, htcu, htdr⟩ := (State.concluded s y).keep
  rw [hend]
  refine ⟨htcu.trans (hycu.trans (congrArg ClockUnit.endSecond hcu)), htface.trans (hyface.trans hface), ?_⟩
  rw [htdr, hyrewind]
  exact congrArg DayReckoner.rewind hdr

/-! ### The crystal monitor (R77, R78) -/

theorem exec_crystalStop_eq {s : State} (h : s.cu.running = true) :
    exec .crystalStopFound s = .next (State.conclude s { s with cu := s.cu.stop }) :=
  congrArg Host.Outcome.next (if_pos h)

/-- R77: an edge that returns changes the crystal status alone. -/
theorem exec_crystalEdge_eq {s : State} (hs : Settled s) (h : s.cu.running = false) :
    exec .crystalEdgeReturn s = .next { s with cu := { s.cu with running := true } } := by
  let x : State := { s with cu := { s.cu with running := true } }
  have hno : ¬ s.cu.running = true := Bool.eq_false_iff.mp h
  have hexec : exec .crystalEdgeReturn s = .next (State.conclude s x) := congrArg Host.Outcome.next (if_neg hno)
  have hreport : x.report = x := State.report_of_reported hs.1 rfl rfl rfl rfl rfl rfl id rfl rfl rfl
  have hserved : x.serviceStore = x := State.serviceStore_of_serviced hs.2.1 rfl rfl rfl rfl rfl
  have hrefresh : x.refresh = { s.refresh with cu := { s.cu with running := true } } := rfl
  rw [hexec, State.conclude_same (s := s) hreport rfl, hserved, hrefresh, hs.2.2]

/-! ### The rising of CLOCK_INVALID (R77, R159) -/

theorem Member.exists_num {i : Nat} (h : i < 22) : ∃ m : Member, m.num = i := by
  have hplaces : ∀ i : Fin 22, (Member.all[i.val]'i.isLt).num = i.val := by decide
  exact ⟨_, hplaces ⟨i, h⟩⟩

/-- R189: a set is told by the members in it. -/
theorem eq_of_members {a b : MemberSet} (h : ∀ m : Member, m.isIn a = m.isIn b) : a = b := by
  apply BitVec.eq_of_getLsbD_eq
  intro i hi
  obtain ⟨m, rfl⟩ := Member.exists_num hi
  exact h m

/-- R77, R78: a stop found on a VALID clock raises CLOCK_INVALID's level, and no other. -/
theorem State.stopped_holds {s : State} (hv : s.cu.valid = true) (m : Member) :
    ({ s with cu := s.cu.stop } : State).holds m = (s.holds m || decide (m = .clockInvalid)) := by
  have hstop : s.cu.stop.valid = false := by
    unfold ClockUnit.stop
    rw [if_pos hv]
  by_cases hm : m = .clockInvalid
  · subst hm
    simp [State.holds, hstop]
  · have hsame : ({ s with cu := s.cu.stop } : State).holds m = s.holds m := by
      cases m <;> first | rfl | exact absurd rfl hm
    rw [hsame, decide_eq_false hm, Bool.or_false]

/-- R159: the stop sets CLOCK_INVALID's rose latch. -/
theorem State.stopped_latch {s : State} (hr : s.report = s) (ha : s.sb.power.awake = true) (hv : s.cu.valid = true) :
    ({ s with cu := s.cu.stop } : State).report.au.latch = s.au.latch ||| Member.clockInvalid.set := by
  obtain ⟨hlevel, -⟩ := s.reported_iff.mp hr ha
  have hreport : ({ s with cu := s.cu.stop } : State).report = ({ s with cu := s.cu.stop } : State).syncConditions :=
    if_pos ha
  rw [hreport]
  show s.au.latch ||| (({ s with cu := s.cu.stop } : State).ownerLevels &&& ~~~ s.au.level) = _
  refine eq_of_members fun m => ?_
  have hrise : m.isIn (({ s with cu := s.cu.stop } : State).ownerLevels &&& ~~~ s.au.level)
      = (({ s with cu := s.cu.stop } : State).holds m && !s.holds m) := by
    rw [← Member.isIn_ownerLevels, ← Member.isIn_ownerLevels, hlevel]
    simp [Member.isIn, m.num_lt]
  rw [Member.isIn_or, Member.isIn_or, hrise, State.stopped_holds hv, Member.isIn_set]
  by_cases hm : m = .clockInvalid
  · subst hm
    simp [State.holds, hv]
  · simp [hm]

/-- R159: CLOCK_INVALID's level stands at the close of the event. -/
theorem State.stopped_level {s : State} (ha : s.sb.power.awake = true) (hv : s.cu.valid = true) :
    Member.clockInvalid.isIn (State.conclude s { s with cu := s.cu.stop }).au.level = true := by
  rw [(State.concluded s { s with cu := s.cu.stop }).levels ha, State.stopped_holds hv]
  simp

/-- R154: the stop newly latches CLOCK_INVALID alone. -/
theorem State.stopped_latches {s : State} (hr : s.report = s) (ha : s.sb.power.awake = true) (hv : s.cu.valid = true)
    (hclear : Member.clockInvalid.isIn s.au.latch = false) : Latches .clockInvalid s { s with cu := s.cu.stop } :=
  ⟨State.stopped_latch hr ha hv, hclear, rfl⟩

end Sys2Proof.Machine

namespace Sys2Proof.Proofs

open Sys2Proof.Machine Sys2Proof.Safety

/-- Settles O34: the end of a second sets the divider anew, whatever it had come to; the crystal events change the clock
record as their rules say. -/
theorem clockEvents : Obligations.ClockEvents := by
  unfold Obligations.ClockEvents
  refine ⟨fun mv s h => ?_, fun mv s hf => ⟨fun hv => ⟨_, exec_secondEnd_eq s mv, ?_⟩, fun hv => ?_,
    fun h => ⟨_, exec_crystalStop_eq h, ?_⟩, fun h => ?_, fun h hs => exec_crystalEdge_eq hs h,
    fun h => congrArg Host.Outcome.next (if_pos h)⟩⟩
  · rw [exec_secondEnd_eq, State.endSecond_invalid s mv h]
  · obtain ⟨hcu, hface, hrewind⟩ := State.endSecond_valid mv hf hv
    exact ⟨hcu.trans (ClockUnit.count_endSecond ..), hface, hrewind⟩
  · rw [exec_secondEnd_eq, State.endSecond_invalid]
    show (s.elapse _).cu.valid = false
    rw [(State.elapse_clock hf _).1, ClockUnit.count_valid, hv]
  · obtain ⟨hkeep, hface, hcu, hdr⟩ := (State.concluded s { s with cu := s.cu.stop }).keep
    exact ⟨hkeep, hface, hdr, hcu⟩
  · exact congrArg Host.Outcome.next (if_neg (Bool.eq_false_iff.mp h))

/-- Settles O17: the stop latches CLOCK_INVALID and nothing else, which ends the AWAIT or wakes the part; latched before, it
does neither. -/
theorem newRisingAnswersOrWakes : Obligations.NewRisingAnswersOrWakes := by
  unfold Obligations.NewRisingAnswersOrWakes
  intro s hs hrunning hv
  let x : State := { s with cu := s.cu.stop }
  refine ⟨fun a hp hawait hm hclear => ⟨_, exec_crystalStop_eq hrunning, ?_⟩,
    fun hp hawait hclear => ⟨_, exec_crystalStop_eq hrunning, ?_⟩,
    fun hp hawait hset => ⟨_, exec_crystalStop_eq hrunning, ?_⟩⟩
  · have ha : s.sb.power.awake = true := by rw [hp]; rfl
    obtain ⟨hnone, hlatch, hwoke, -, shown, hheld⟩ := (State.stopped_latches hs.1 ha hv hclear).answers hp hawait hm
    have hcleared : ∀ b : MemberSet, b &&& ~~~ a.members &&& a.members = 0 := fun b => by
      rw [BitVec.and_assoc, BitVec.and_comm (~~~ a.members), BitVec.and_not_self]
      exact BitVec.and_zero
    rw [State.conclude_now] at hheld
    exact ⟨hnone, State.stopped_level ha hv, by rw [hlatch, hcleared], by rw [hwoke, hcleared], shown, hheld⟩
  · have ha : s.sb.power.awake = true := by rw [hp]; rfl
    obtain ⟨hactive, hattn, hwoke, hlatch, hnext, hphase, hamp⟩ :=
      (State.stopped_latches hs.1 ha hv hclear).wakes hp hawait rfl rfl
    rw [State.conclude_now] at hnext
    exact ⟨hactive, hattn, hwoke, hlatch, State.stopped_level ha hv, hnext, hphase, hamp⟩
  · have ha : s.sb.power.awake = true := by rw [hp]; rfl
    have hlatch : x.report.au.latch = s.au.latch := by
      rw [State.stopped_latch hs.1 ha hv]
      refine eq_of_members fun m => ?_
      rw [Member.isIn_or, Member.isIn_set]
      by_cases hm : m = .clockInvalid
      · rw [hm, hset, Bool.true_or]
      · rw [decide_eq_false hm, Bool.or_false]
    have hquiet : State.attend s x = x.report :=
      State.attend_quiet x s (by rw [hlatch]; exact BitVec.and_not_self _)
    have hlevel := State.stopped_level ha hv
    have hclose : State.conclude s x = x.report.serviceStore.refresh := by rw [State.conclude, hquiet]
    change Member.clockInvalid.isIn (State.conclude s x).au.level = true at hlevel
    show (State.conclude s x).sb.power = _ ∧ (State.conclude s x).au.woke = _ ∧ (State.conclude s x).au.latch = _ ∧ _
    refine ⟨?_, ?_, ?_, hlevel⟩
    · rw [hclose, State.refresh_power, State.serviceStore_sb, State.report_sb]
      exact hp
    · rw [hclose]
      show x.report.serviceStore.au.woke = _
      rw [State.serviceStore_au, State.report_woke]
    · rw [hclose, State.refresh_latch, State.serviceStore_au, hlatch]

end Sys2Proof.Proofs
end

section
/-! SUPPORT. A request that moves the clock (R82 to R84) and the reckoning it hands to the Day Reckoner (R92 to R96,
R103 to R107). -/

set_option Elab.async false

namespace Sys2Proof.Machine

open Sys2Proof.Safety

/-! ### The close of a request -/

/-- The close of a request is that of an event that latches nothing new. -/
theorem State.concludeRequest_eq (y : State) : y.concludeRequest = State.conclude y.report y := by
  rw [State.conclude, State.attend_quiet y y.report (BitVec.and_not_self _)]
  rfl

/-- R176: a request that its block serves with a reply, whatever it has raised. -/
theorem request_concludes {s u : State} {h : ReqHead} {k : Byte} {svc : Service} {c : Code} {p : List Byte}
    (hl : Listening s) (hu : svc .active { s with lp := s.lp.idleParser } = (u, some ⟨c, p⟩))
    (hlp : u.lp = s.lp.idleParser) :
    ∃ t, request h k svc s = .next t ∧ t.lp = (answered s k h c p).lp ∧ SameVoices u t
      ∧ Concluded { u with lp := (answered s k h c p).lp } t := by
  let y : State := { u with lp := (answered s k h c p).lp }
  have hreply : State.answer k h.tag h.extra (u, some ⟨c, p⟩) = y := by
    simp only [State.answer, State.holdReply, hlp]
    rfl
  have hvoices : SameVoices y y.concludeRequest := by
    have hreported := y.report.closes_voices
    rwa [SameVoices, State.report_se] at hreported
  refine ⟨y.concludeRequest, ?_, ?_, hvoices, ?_⟩
  · rw [request_listening s h k svc hl, hu, hreply]
  · rw [State.concludeRequest, State.refresh_lp, State.serviceStore_lp, State.report_lp]
  · rw [State.concludeRequest_eq]
    exact State.concluded _ _

/-! ### The clock moved (R82, R83, R84) -/

/-- R84: `s` with another clock record, a decrease of S recorded. -/
def State.clockMoved (s : State) (cu : ClockUnit) : State := ({ s with cu := cu } : State).recordRewind s.cu.seconds

/-- R84: the rewind total after a move of S. -/
def rewindAfter (s : State) (seconds : Nat) : Nat :=
  if seconds < s.cu.seconds then min 4294967295 (s.dr.rewind + (s.cu.seconds - seconds)) else s.dr.rewind

theorem State.clockMoved_eq (s : State) (cu : ClockUnit) : s.clockMoved cu = { s with
    cu := cu, dr := { s.dr with rewind := rewindAfter s cu.seconds }
    au := if cu.seconds < s.cu.seconds then s.raiseRewound.au else s.au } := by
  unfold State.clockMoved State.recordRewind rewindAfter
  simp only
  split <;> rfl

/-- R84: a decrease raises CLOCK_REWOUND. -/
theorem State.clockMoved_rewound {s : State} {cu : ClockUnit} (h : cu.seconds < s.cu.seconds) :
    Member.clockRewound.isIn (s.clockMoved cu).au.latch = true := by
  rw [State.clockMoved_eq, if_pos h]
  exact raise_latch s _ _

/-- R84, R158: DAY_TURN stands as before. -/
theorem State.clockMoved_dayTurn (s : State) (cu : ClockUnit) :
    SameMember .dayTurn Details.dayTurn s (s.clockMoved cu) := by
  rw [State.clockMoved_eq]
  by_cases h : cu.seconds < s.cu.seconds
  · rw [if_pos h]
    have hraise : SameMember .dayTurn Details.dayTurn s s.raiseRewound :=
      sameMember_raise s (by decide) (fun _ => rfl) fun _ => rfl
    exact hraise.trans (SameMember.of_au rfl)
  · rw [if_neg h]
    exact SameMember.of_au rfl

/-! ### The reckoning handed over (R92 to R96) -/

/-- R95, R158: a reckoning latches at most DAY_TURN and what its actions latch. -/
theorem State.reckon_latch (s : State) (c : Causes) (limit : Nat) {m : Member} (hd : m ≠ .dayTurn)
    (hp : m ≠ .patternMissing) : m.isIn (s.reckon c limit).au.latch = m.isIn s.au.latch := by
  unfold State.reckon
  split
  · rfl
  · obtain ⟨r, hr⟩ : ∃ r, s.dr.reckon s.rawDay (c.restart || !s.cu.valid) limit = r := ⟨_, rfl⟩
    obtain ⟨fired, hwork⟩ := State.fire_work { s with dr := r.1 } s.dr.g r.1.g
    have hpass : m.isIn ({ s with dr := r.1 }.fire s.dr.g r.1.g).au.latch = m.isIn s.au.latch := hwork.others m hp
    rw [State.reckonNow_eq hr, ← hpass]
    simp only
    split
    · rw [raiseDayTurn_au, Member.isIn_or, Member.isIn_set, decide_eq_false hd, Bool.or_false]
    · rfl

/-- R96: the causes and the limit of a merged record. -/
theorem mergeDeferred_eq (d : Option Deferred) (c : Causes) (limit : Nat) : mergeDeferred d c limit = {
    causes := (match d with | some e => e.causes | none => {}).union c
    limit := max (match d with | some e => e.limit | none => 0) limit } := by
  cases d with
  | none => simp [mergeDeferred, Causes.union]
  | some e => rfl

/-- R96: a reckoning deferred and merged, with nothing fired. -/
structure ReckoningWaits (c : Causes) (limit : Nat) (s t : State) : Prop where
  g : t.dr.g = s.dr.g
  l : t.dr.l = s.dr.l
  forfeited : t.dr.forfeited = s.dr.forfeited
  table : t.dr.table = s.dr.table
  fired : t.dr.fired = s.dr.fired
  layers : t.ru.layers = s.ru.layers
  cell : t.sb.cell = s.sb.cell
  deferred : t.dr.deferred = some (mergeDeferred s.dr.deferred c limit)

/-- R93 to R95: a reckoning of `credited` days up to the raw day, with its firing pass. -/
structure ReckoningRuns (c : Causes) (raw credited seconds : Nat) (s t : State) : Prop where
  deferred : t.dr.deferred = s.dr.deferred
  l : t.dr.l = max s.dr.l raw
  g : t.dr.g = if c.restart = false ∧ s.dr.l < raw then min (s.dr.g + credited) 65535 else s.dr.g
  forfeited : t.dr.forfeited = if c.restart = false ∧ s.dr.l < raw then
    min (s.dr.forfeited + (raw - s.dr.l) - credited) 65535 else s.dr.forfeited
  cell : t.sb.cell = s.sb.cell
  turns : c.restart = false → 0 < credited → TurnsDays credited s t
  fires : DaysOk s → FiringPass s.dr.g t.dr.g seconds s t ∧ PassActions s.dr.g t.dr.g seconds s t

section Moved

variable {s t : State} {cu : ClockUnit} {c : Causes} {limit : Nat} {lp : LinkPort}

/-- What a move of the clock with its reckoning leaves at its close, whether the reckoning runs or waits. -/
theorem clock_moved (ha : s.sb.power = .active) (hv : cu.valid = true) (hn : lp.await = none)
    (h : Concluded { (s.clockMoved cu).reckon c limit with lp := lp } t) :
    t.cu = cu ∧ t.dr.rewind = rewindAfter s cu.seconds
      ∧ (cu.seconds < s.cu.seconds → Member.clockRewound.isIn t.au.latch = true)
      ∧ Member.clockInvalid.isIn t.au.level = false ∧ t.keep = s.keep ∧ t.face = s.face ∧ t.sc = s.sc := by
  obtain ⟨dr, ru, sp, au, cell, hrest, hrewind⟩ := (s.clockMoved cu).reckon_leaves c limit
  have hlatch := (s.clockMoved cu).reckon_latch c limit (m := .clockRewound) nofun nofun
  rw [hrest] at h hlatch
  rw [State.clockMoved_eq] at h hrewind
  obtain ⟨hkeep, hface, hcu, hdr⟩ := h.keep
  refine ⟨hcu, by rw [hdr]; exact hrewind, fun hless => ?_, ?_, hkeep, hface, h.sc⟩
  · rw [(h.unheld hn).1, State.report_isIn _ rfl]
    exact hlatch.trans (State.clockMoved_rewound hless)
  · have hawake : s.sb.power.awake = true := by rw [ha]; rfl
    rw [h.levels hawake]
    exact congrArg (!·) hv

/-- R96: under FENCE the reckoning is deferred and merged, and nothing fires. -/
theorem clock_moved_fence (hf : s.sb.supply = .fence)
    (h : Concluded { (s.clockMoved cu).reckon c limit with lp := lp } t) :
    ReckoningWaits c limit s t := by
  have hdeferred : (s.clockMoved cu).reckon c limit = { s.clockMoved cu with dr := { (s.clockMoved cu).dr with
      deferred := some (mergeDeferred (s.clockMoved cu).dr.deferred c limit) } } :=
    if_pos (by rw [State.clockMoved_eq]; exact hf)
  rw [hdeferred, State.clockMoved_eq] at h
  obtain ⟨-, -, -, hdr⟩ := h.keep
  have hcell : t.sb.cell = s.sb.cell := (congrArg Supply.cell h.supply :)
  exact ⟨by rw [hdr], by rw [hdr], by rw [hdr], by rw [hdr], by rw [hdr], h.pass.layers, hcell, by rw [hdr]⟩

/-- R135: a RUMBLE-PLAY makes the same layer start of two states that look the same to it. -/
theorem rumblePlay_same {s x u : State} (h : SameLoader s x) (hp : s.sb.power = .active) (hr : s.lp.pendingReset = false)
    (hxp : x.sb.power = .active) (hxr : x.lp.pendingReset = false) {layer pattern priority scale : Nat}
    (hl : layer ≤ 2) (hi : pattern ≤ 71) (hy : priority ≤ 15) (hs : scale ≤ 255)
    (hu : exec (.rumblePlay ⟨0, false⟩ (BitVec.ofNat 8 layer) (BitVec.ofNat 8 pattern) (BitVec.ofNat 8 priority)
        (BitVec.ofNat 8 scale)) x = .next u) :
    ∃ v, exec (.rumblePlay ⟨0, false⟩ (BitVec.ofNat 8 layer) (BitVec.ofNat 8 pattern) (BitVec.ofNat 8 priority)
        (BitVec.ofNat 8 scale)) s = .next v
      ∧ u.ru.layers = v.ru.layers ∧ u.ru.cache = v.ru.cache ∧ u.sp.loadList = v.sp.loadList
      ∧ (byteAt (u.lp.held.getD []) 4 = 0 ↔ byteAt (v.lp.held.getD []) 4 = 0) := by
  obtain ⟨v, hv, hplay⟩ := rumblePlay_active hp hr hl hi hy hs
  obtain ⟨u', hu', hplay'⟩ := rumblePlay_active hxp hxr hl hi hy hs
  cases hu.symm.trans hu'
  refine ⟨v, hv, ?_⟩
  rw [h.startRefused] at hplay'
  cases hc : s.startRefused layer pattern priority with
  | some code =>
    rw [hc] at hplay hplay'
    obtain ⟨h1, h2, h3, h4⟩ := hplay
    obtain ⟨h1', h2', h3', h4'⟩ := hplay'
    exact ⟨h1'.trans (h.layers.trans h1.symm), h2'.trans (h.cache.trans h2.symm),
      h3'.trans ((congrArg StorePort.loadList h.port).trans h3.symm), iff_of_false h4' h4⟩
  | none =>
    rw [hc] at hplay hplay'
    obtain ⟨h1, h2, h3, h4⟩ := hplay
    obtain ⟨h1', h2', h3', h4'⟩ := hplay'
    have hstart := h.startLayer layer pattern priority scale
    exact ⟨h1'.trans (hstart.layers.trans h1.symm), h2'.trans (hstart.cache.trans h2.symm),
      h3'.trans ((congrArg StorePort.loadList hstart.port).trans h3.symm), iff_of_true h4' h4⟩

/-- R107, R135: the clock record and the Link Port's parser take no part in the layer starts of a pass. -/
theorem passActions_of_clock {gOld g now : Nat} (hr : s.lp.pendingReset = false) (hlp : lp.pendingReset = false)
    (h : PassActions gOld g now { s with lp := lp, cu := cu } t) : PassActions gOld g now s t := by
  obtain ⟨hstill, hstarts⟩ := h
  refine ⟨hstill, fun e a hp hone ha hpattern hlayer hpriority hscale => ?_⟩
  obtain ⟨u, hu, hlayers, hcache, hlist, hran⟩ := hstarts e a hp hone ha hpattern hlayer hpriority hscale
  obtain ⟨v, hv, hvlayers, hvcache, hvlist, hbyte⟩ :=
    rumblePlay_same (s := s) (x := { s with lp := lp, cu := cu }) ⟨rfl, rfl, rfl, rfl⟩ hp hr hp hlp hlayer hpattern hpriority
      hscale hu
  refine ⟨v, hv, hlayers.trans hvlayers, hcache.trans hvcache, hlist.trans hvlist, fun r hmem => ?_⟩
  rw [hran r hmem, decide_eq_decide, hbyte]

/-- R92 to R96, R103 to R107: out of FENCE the reckoning runs in full, with its firing pass. -/
theorem clock_moved_now (hr : s.lp.pendingReset = false) (hv : cu.valid = true)
    (hc : c.rollover = false) (hn : lp.await = none) (hf : s.sb.supply ≠ .fence)
    (h : Concluded { (s.clockMoved cu).reckon c limit with lp := lp } t) :
    let raw := (cu.seconds + 86400 - (s.sp.profile.hour * 3600 + s.sp.profile.minute * 60)) / 86400
    ReckoningRuns c raw (min (raw - s.dr.l) limit) cu.seconds s t := by
  intro raw
  let credited := min (raw - s.dr.l) limit
  let x := s.clockMoved cu
  have hx : x = _ := s.clockMoved_eq cu
  have hnow : x.reckon c limit = x.reckonNow c limit := if_neg (by rw [hx]; exact hf)
  change Concluded { x.reckon c limit with lp := lp } t at h
  rw [hnow] at h
  have hxraw : x.rawDay = raw := by rw [hx]; rfl
  have hxrestart : (c.restart || !x.cu.valid) = c.restart := by
    rw [hx, hv]
    exact Bool.or_false _
  have hxdr : x.dr = { s.dr with rewind := rewindAfter s cu.seconds } := by rw [hx]
  obtain ⟨r, hreckon⟩ : ∃ r, x.dr.reckon x.rawDay (c.restart || !x.cu.valid) limit = r := ⟨_, rfl⟩
  have hterms : x.dr.reckon raw c.restart limit = r := by rw [← hreckon, hxraw, hxrestart]
  obtain ⟨table, fired, ru, sp, au, hrest⟩ := State.reckonNow_rest (c := c) (limit := limit) hreckon
  obtain ⟨-, -, -, hdr⟩ := h.keep
  have htdr : t.dr = { r.1 with table := table, fired := fired } := hdr.trans (congrArg State.dr hrest :)
  obtain ⟨g, forfeited, hrec⟩ := reckon_rest x.dr raw c.restart limit
  rw [hterms, hxdr] at hrec
  have hvalues : r = ({ x.dr with
      g := if c.restart = false ∧ s.dr.l < raw then min (s.dr.g + credited) 65535 else s.dr.g
      forfeited := if c.restart = false ∧ s.dr.l < raw then min (s.dr.forfeited + (raw - s.dr.l) - credited) 65535
        else s.dr.forfeited
      l := max s.dr.l raw }, if c.restart = false ∧ s.dr.l < raw then credited else 0) := by
    rw [← hterms, hxdr]
    by_cases hcredit : c.restart = false ∧ s.dr.l < raw
    · rw [if_pos hcredit, if_pos hcredit, if_pos hcredit, hcredit.1]
      exact reckon_credited _ limit hcredit.2
    · rw [if_neg hcredit, if_neg hcredit, if_neg hcredit]
      refine reckon_uncredited _ limit ?_
      rw [not_and_or, Bool.not_eq_false, Nat.not_lt] at hcredit
      exact hcredit
  have hg : t.dr.g = if c.restart = false ∧ s.dr.l < raw then min (s.dr.g + credited) 65535 else s.dr.g := by
    rw [htdr, hvalues]
  refine ⟨by rw [htdr, hrec], by rw [htdr, hrec], hg, by rw [htdr, hvalues], ?_, fun hrestart hcredit => ?_,
    fun hd => ?_⟩
  · have hcell : t.sb.cell = (x.reckonNow c limit).sb.cell := (congrArg Supply.cell h.supply :)
    rw [hcell, hrest, hc, hx]
    rfl
  · have hraw : s.dr.l < raw := by omega
    have hcount : r.2 = credited := by
      rw [hvalues]
      exact if_pos ⟨hrestart, hraw⟩
    have hturns : TurnsDays r.2 x (x.reckonNow c limit) := State.reckonNow_turns hreckon (hcount ▸ hcredit)
    have hsame := s.clockMoved_dayTurn cu
    rw [hcount, TurnsDays, hsame.latch, hsame.detail] at hturns
    obtain ⟨hlatch, hdetails⟩ := h.unheld hn
    rw [TurnsDays, hlatch, hdetails, State.report_isIn _ rfl, State.report_details]
    exact hturns
  · let z : State := { s with cu := cu }
    have hpass : PassOf z { x with dr := r.1 } := by
      refine ⟨?_, ?_, ?_, ?_, ?_, ?_, ?_, ?_⟩
      · exact (congrArg DayReckoner.table hrec :)
      · exact (congrArg DayReckoner.fired hrec :)
      all_goals
        rw [hx]
    have hxg : x.dr.g = s.dr.g := by rw [hxdr]
    have htg : t.dr.g = r.1.g := by rw [htdr]
    have hto : PassTo ({ x with dr := r.1 }.fire s.dr.g t.dr.g) t := by
      have hpassed := State.reckonNow_pass (c := c) (limit := limit) hreckon
      rw [htg, ← hxg]
      exact hpassed.trans ⟨h.pass.table, h.pass.fired, h.pass.layers, h.pass.cache, h.pass.loadList⟩
    have hok : TableOk s.dr := tableOk_of_daysOk hd
    obtain ⟨-, -, hgmax, -⟩ := hd
    have hle : s.dr.g ≤ t.dr.g := by
      rw [hg]
      split <;> omega
    have hmax : t.dr.g ≤ 65535 := by
      rw [hg]
      split <;> omega
    exact ⟨hpass.firingPass hok hle hmax hto, passActions_of_clock (cu := cu) (lp := s.lp) hr hr
      ⟨fun hno => hpass.still hok hle hmax hto hno, fun e a hactive hone ha hpattern hlayer hpriority hscale =>
        hpass.starts hok hle hmax hto hactive hr hone ha hpattern hlayer hpriority hscale⟩⟩

end Moved

/-- R82 to R84, R92 to R96: what a request that moves the clock and hands its reckoning leaves. -/
structure MovesClock (clock : ClockUnit) (c : Causes) (limit : Nat) (s t : State) : Prop where
  cu : t.cu = clock
  rewind : t.dr.rewind = rewindAfter s clock.seconds
  rewound : clock.seconds < s.cu.seconds → Member.clockRewound.isIn t.au.latch = true
  known : Member.clockInvalid.isIn t.au.level = false
  keep : t.keep = s.keep
  face : t.face = s.face
  sc : t.sc = s.sc
  voices : SameVoices s t
  waits : s.sb.supply = .fence → ReckoningWaits c limit s t
  runs : s.sb.supply ≠ .fence →
    let raw := (clock.seconds + 86400 - (s.sp.profile.hour * 3600 + s.sp.profile.minute * 60)) / 86400
    ReckoningRuns c raw (min (raw - s.dr.l) limit) clock.seconds s t

/-- R82 to R84, R176: a request whose block moves the clock and hands a reckoning, with its reply. -/
theorem request_moves_clock {s : State} {h : ReqHead} {k : Byte} {svc : Service} {p : List Byte} {cu : ClockUnit}
    {c : Causes} {limit : Nat} (hl : Listening s) (hv : cu.valid = true) (hc : c.rollover = false)
    (hu : svc .active { s with lp := s.lp.idleParser }
      = serve (({ s with lp := s.lp.idleParser } : State).clockMoved cu |>.reckon c limit) .ok p) :
    ∃ t, request h k svc s = .next t ∧ t.lp = (answered s k h .ok p).lp ∧ MovesClock cu c limit s t := by
  let x : State := { s with lp := s.lp.idleParser }
  let u := (x.clockMoved cu).reckon c limit
  obtain ⟨hs, ha, hreset, hheld⟩ := hl
  obtain ⟨dr, ru, sp, au, cell, hrest, -⟩ := (x.clockMoved cu).reckon_leaves c limit
  have hmoved : u = _ := hrest
  have hvoices : SameVoices s u := by rw [hmoved, State.clockMoved_eq]
  have hlp : u.lp = s.lp.idleParser := by rw [hmoved, State.clockMoved_eq]
  obtain ⟨t, ht, htlp, hsame, hclosed⟩ := request_concludes (h := h) (k := k) ⟨hs, ha, hreset, hheld⟩ hu hlp
  obtain ⟨hcu, hrewind, hrewound, hknown, hkeep, hface, hsc⟩ := clock_moved (s := x) ha hv rfl hclosed
  refine ⟨t, ht, htlp, hcu, hrewind, hrewound, hknown, hkeep, hface, hsc, hsame.trans hvoices, fun hf => ?_,
    fun hf => ?_⟩
  · have w := clock_moved_fence (s := x) hf hclosed
    exact ⟨w.g, w.l, w.forfeited, w.table, w.fired, w.layers, w.cell, w.deferred⟩
  · have r := clock_moved_now (s := x) hreset hv hc rfl hf hclosed
    refine ⟨r.deferred, r.l, r.g, r.forfeited, r.cell, r.turns, fun hd => ?_⟩
    obtain ⟨hpass, hactions⟩ := r.fires hd
    exact ⟨hpass, passActions_of_clock (cu := s.cu) (lp := s.lp.idleParser) hreset hreset hactions⟩

end Sys2Proof.Machine
end

section
/-! The requests that move and trim the clock: CLOCK-SET (R81, R82), CLOCK-NUDGE (R83) and CLOCK-TRIM (R85). -/

set_option Elab.async false

namespace Sys2Proof.Machine

open Sys2Proof.Safety

/-! ### The services -/

/-- R81 (1 to 4): the checks on the fields of a CLOCK-SET. -/
theorem dateBad_iff (year : Half) (month day hour minute second : Byte) :
    dateBad year.toNat month.toNat day.toNat hour.toNat minute.toNat second.toNat = true
      ↔ year.toNat < 2000 ∨ 2099 < year.toNat ∨ month = 0 ∨ 12 < month.toNat ∨ day = 0
        ∨ monthDays (leapYear year.toNat) month.toNat < day.toNat ∨ 23 < hour.toNat ∨ 59 < minute.toNat
        ∨ 59 < second.toNat := by
  have hzero : ∀ b : Byte, b = 0 ↔ b.toNat = 0 := fun b => BitVec.toNat_eq
  simp only [dateBad, Bool.or_eq_true, decide_eq_true_eq, hzero, or_assoc]

/-- R76, R82: the clock record a CLOCK-SET leaves. -/
theorem ClockUnit.set_eq (c : ClockUnit) (seconds : Nat) : c.set seconds = { c with
    seconds := seconds, valid := true
    divider := if c.phase = 0 then c.trim.toNat else 0
    hold := if c.phase = 0 then (-c.trim).toNat else 0 } := by
  unfold ClockUnit.set ClockUnit.startSecond
  by_cases h : c.phase = 0
  · rw [if_pos h, if_pos h, if_pos h]
  · rw [if_neg h, if_neg h, if_neg h]

/-- R82, R92: the cause a CLOCK-SET hands. -/
def setCauses (valid : Bool) : Causes := { clockSet := valid, restart := !valid }

/-- R94: the credit limit of the reckoning a CLOCK-SET hands. -/
def setLimit (s : State) : Nat := if s.cu.valid then s.sp.profile.setCredit else 0

/-- R92: from a VALID clock no RESTART is handed. -/
theorem setCauses_restart (valid : Bool) : (setCauses valid).restart = false ↔ valid = true := by
  cases valid <;> decide

/-- R94: a CLOCK_SET reckoning credits under K. -/
theorem State.reckonClockSet_moved (s : State) (cu : ClockUnit) : (s.clockMoved cu).reckonClockSet
    = (s.clockMoved cu).reckon { clockSet := true } s.sp.profile.setCredit := by
  have hprofile : (s.clockMoved cu).sp = s.sp := by rw [State.clockMoved_eq]
  rw [State.reckonClockSet, hprofile]

/-- R96: a CLOCK_SET cause merged. -/
theorem Causes.union_clockSet (c : Causes) : c.union { clockSet := true } = { c with clockSet := true } := by
  simp [Causes.union]

/-- R96: a RESTART cause merged. -/
theorem Causes.union_restart (c : Causes) : c.union { restart := true } = { c with restart := true } := by
  simp [Causes.union]

/-- R81, R82: an accepted CLOCK-SET. -/
theorem serveClockSet_accepted {year : Half} {month day hour minute second : Byte} {s : State} (p : PowerState)
    (hgood : dateBad year.toNat month.toNat day.toNat hour.toNat minute.toNat second.toNat = false)
    (hrun : s.cu.running = true) :
    let new := secondsOf year.toNat month.toNat day.toNat hour.toNat minute.toNat second.toNat
    serveClockSet year month day hour minute second p s
      = serve ((s.clockMoved (s.cu.set new)).reckon (setCauses s.cu.valid) (setLimit s)) .ok
        (leBytes 4 new ++ leBytes 1 ((new / 86400 + 6) % 7) ++ leBytes 4 (s.cu.seconds - new)
          ++ [if s.cu.valid then 0 else 1]) := by
  intro new
  unfold serveClockSet setLimit
  rw [hgood, hrun]
  cases hv : s.cu.valid with
  | true =>
    have hmoved := State.reckonClockSet_moved s (s.cu.set new)
    exact congrArg (serve · _ _) hmoved
  | false => rfl

/-- R83, R74: a move within the clock range. -/
theorem nudged_eq (seconds : Nat) (n : Int) :
    nudged seconds n = (max 0 (min 3155759999 ((seconds : Int) + n))).toNat := by
  unfold nudged Config.maxSeconds
  omega

/-- R83: an accepted CLOCK-NUDGE. -/
theorem serveClockNudge_accepted {value : Half} {s : State} {new : Nat} (p : PowerState)
    (hrange : ¬ (value.toInt < -3600 ∨ 3600 < value.toInt)) (hv : s.cu.valid = true)
    (hnew : nudged s.cu.seconds value.toInt = new) : serveClockNudge value p s
      = serve ((s.clockMoved { s.cu with seconds := new }).reckon { clockSet := true } s.sp.profile.setCredit) .ok
        (leBytes 4 new ++ signedBytes 2 ((new : Int) - s.cu.seconds) ++ leBytes 2 (s.cu.seconds - new)) := by
  have hmoved := State.reckonClockSet_moved s { s.cu with seconds := new }
  unfold serveClockNudge
  rw [if_neg hrange, hv, hnew]
  exact congrArg (serve · _ _) hmoved

/-- R85: CLOCK-TRIM with its reply. -/
theorem exec_clockTrim {s : State} (hl : Listening s) (h : ReqHead) (value : Half) :
    exec (.clockTrim h value) s = .next (answered { s with cu := { s.cu with trim := clampTrim value.toInt } }
      Kind.clockTrim h .ok (signedBytes 2 (clampTrim value.toInt) ++ leBytes 1 s.cu.phase)) := by
  let x : State := { s with cu := { s.cu with trim := clampTrim value.toInt } }
  let a := answered x Kind.clockTrim h .ok (signedBytes 2 (clampTrim value.toInt) ++ leBytes 1 s.cu.phase)
  have hserved : exec (.clockTrim h value) s = .next a.serviceStore.refresh :=
    request_replied (svc := serveClockTrim value) (u := { x with lp := s.lp.idleParser }) hl rfl rfl
      (State.report_of_reported hl.1.1 rfl rfl rfl rfl rfl rfl id rfl rfl rfl)
  have hserviced : a.serviceStore = a := State.serviceStore_of_serviced hl.1.2.1 rfl rfl rfl rfl rfl
  have hrefresh : a.refresh = { s.refresh with lp := a.lp, cu := x.cu } := rfl
  rw [hserved, hserviced, hrefresh, hl.1.2.2]
  rfl

end Sys2Proof.Machine

namespace Sys2Proof.Proofs

open Sys2Proof Sys2Proof.Machine Sys2Proof.Safety

/-- Settles O35: the checks of R81 in order, then the clock moved with its reckoning. -/
theorem clockSetSetsAndReckons : Obligations.ClockSetSetsAndReckons := by
  unfold Obligations.ClockSetSetsAndReckons
  intro h year month day hour minute second s hl c new raw advance credited
  have hbad := dateBad_iff year month day hour minute second
  split
  · rename_i hfields
    refine request_refused hl ?_
    unfold serveClockSet
    exact if_pos (hbad.mpr hfields)
  · rename_i hfields
    have hgood := Bool.eq_false_iff.mpr (mt hbad.mp hfields)
    split
    · rename_i hstopped
      refine request_refused hl ?_
      unfold serveClockSet
      rw [hgood, hstopped]
      rfl
    · rename_i hrun
      have hset := ClockUnit.set_eq s.cu new
      have hseconds : (s.cu.set new).seconds = new := by rw [hset]
      have hvalid : (s.cu.set new).valid = true := by rw [hset]
      obtain ⟨t, ht, hlp, hmoves⟩ := request_moves_clock (h := h) (k := Kind.clockSet) hl hvalid rfl
        (serveClockSet_accepted (s := { s with lp := s.lp.idleParser }) .active hgood
          (Bool.eq_true_of_not_eq_false hrun))
      obtain ⟨hcu, hrewind, hrewound, hknown, hkeep, hface, hsc, hvoices, hwaits, hruns⟩ := hmoves
      rw [hseconds] at hrewind hrewound hruns
      refine ⟨t, ht, hcu.trans hset, hrewind, hrewound, hknown, hlp, hkeep, hface, hsc, hvoices, ?_⟩
      split
      · rename_i hfence
        have w := hwaits hfence
        refine ⟨w.g, w.l, w.forfeited, w.table, w.fired, w.layers, _, w.deferred, ?_, ?_⟩
        · rw [mergeDeferred_eq]
          change Causes.union _ (setCauses s.cu.valid) = _
          cases s.cu.valid with
          | true => exact Causes.union_clockSet _
          | false => exact Causes.union_restart _
        · rw [mergeDeferred_eq]
          rfl
      · rename_i hfence
        obtain ⟨hdeferred, hL, hg, hforfeited, hcell, hturns, hfires⟩ := hruns hfence
        simp only [setCauses_restart] at hg hforfeited hturns
        by_cases hv : s.cu.valid = true
        · have hlimit : setLimit { s with lp := s.lp.idleParser } = s.sp.profile.setCredit := if_pos hv
          rw [hlimit] at hg hforfeited hturns
          exact ⟨hdeferred, hL, hg, hforfeited, hcell, hturns, hfires⟩
        · have huncredited : ¬ (s.cu.valid = true ∧ s.dr.l < raw) := fun hboth => hv hboth.1
          rw [if_neg huncredited] at hg hforfeited
          rw [if_neg huncredited, if_neg huncredited]
          exact ⟨hdeferred, hL, hg, hforfeited, hcell, fun hvalid => absurd hvalid hv, hfires⟩

/-- Settles O36: the move of R83 with its reckoning, and the trim of R85. -/
theorem clockNudgeAndTrim : Obligations.ClockNudgeAndTrim := by
  unfold Obligations.ClockNudgeAndTrim
  intro h value s hl n new raw advance credited
  have hnew : nudged s.cu.seconds n = new := nudged_eq s.cu.seconds n
  refine ⟨?_, exec_clockTrim hl h value⟩
  split
  · rename_i hrange
    refine request_refused hl ?_
    unfold serveClockNudge
    exact if_pos hrange
  · rename_i hrange
    split
    · rename_i hv
      refine request_refused hl ?_
      unfold serveClockNudge
      rw [if_neg hrange, hv]
      rfl
    · rename_i hv
      have hv := Bool.eq_true_of_not_eq_false hv
      obtain ⟨t, ht, hlp, hmoves⟩ := request_moves_clock (h := h) (k := Kind.clockNudge)
        (cu := { s.cu with seconds := new }) hl hv rfl
        (serveClockNudge_accepted (s := { s with lp := s.lp.idleParser }) .active hrange hv hnew)
      obtain ⟨hcu, hrewind, hrewound, -, hkeep, hface, hsc, hvoices, hwaits, hruns⟩ := hmoves
      refine ⟨t, ht, hcu, hrewind, hrewound, hlp, hkeep, hface, hsc, hvoices, fun hfence => ?_, fun hfence => ?_⟩
      · have r := hruns hfence
        have hg := r.g
        have hforfeited := r.forfeited
        simp only [true_and] at hg hforfeited
        exact ⟨r.l, hg, hforfeited, r.deferred, r.cell, r.turns rfl, r.fires⟩
      · have w := hwaits hfence
        refine ⟨w.g, w.l, w.forfeited, w.table, w.fired, w.layers, w.cell, ?_⟩
        rw [w.deferred, mergeDeferred_eq, Causes.union_clockSet]
        cases s.dr.deferred <;> rfl

end Sys2Proof.Proofs
end
